-- ==== Sys2Proof/Word.lean ====
section
/-! DEFINITION. Bytes of the Supervisory Link, and the indices by which the part names its subjects.

The spec treats only link characters, checks and bit sets as bits; positions, lengths, counts, speeds, temperatures and gaps are
natural numbers (spec/00_scope.md, Units and coordinates). -/

namespace Sys2Proof

/-- A byte of a frame (R172). -/
abbrev Byte := BitVec 8

/-- A counter: 0 is LINE, k is SFk (the subject numbers of R173). -/
abbrev CounterId := Fin 4

/-- A single-face web and its bridge: index 0 is web 1. -/
abbrev WebId := Fin 3

/-- A splice station: index 0 is S1. -/
abbrev SpliceId := Fin 7

/-- A heat zone: index 0 is Z1. -/
abbrev ZoneId := Fin 12

/-- A glue station: index 0 is GS1. -/
abbrev GlueId := Fin 4

/-- A drive output: index 0 is OUT1. -/
abbrev OutputId := Fin 16

/-- A pulse generator: index 0 is PG1. -/
abbrev GenId := Fin 8

/-- A fault input: index 0 is FI1. -/
abbrev InputId := Fin 4

/-- A slitter-scorer station: index 0 is SSA, 1 is SSB. -/
abbrev SlitId := Fin 2

/-- A cut-off lane, and the stacker it feeds (lane 1 feeds ST1, lane 2 feeds ST2): index 0 is lane 1. -/
abbrev LaneId := Fin 2

/-- A stacker: index 0 is ST1. -/
abbrev StackerId := Fin 2

end Sys2Proof
end

