-- ==== Sys2Proof/Config.lean ====
section
/-! DEFINITION. What the part fixes (the limits the spec calls fixed) and the one family of values the spec leaves open. -/

namespace Sys2Proof.Config

/-- Positions lie below 2^44 (Units and coordinates; R6). -/
def posLimit : Nat := 2 ^ 44

/-- The web map holds at most 128 marks (R20). -/
def mapCapacity : Nat := 128

/-- A bridge list holds at most 32 entries (R29). -/
def bridgeCapacity : Nat := 32

/-- The order book holds at most 16 orders (R41). -/
def bookCapacity : Nat := 16

/-- Holdback holds at most 60 layers (R142). -/
def holdbackCapacity : Nat := 60

/-- A stack record list holds at most 16 records (R138). -/
def recordCapacity : Nat := 16

/-- The command queue and the reply queue hold 4 frames each (R166, R167). -/
def linkCapacity : Nat := 4

/-- The longest payload of a frame (R172). -/
def payloadLimit : Nat := 240

/-- Readings in a row without a fresh conversion that make a SENSOR fault (R85, R93). -/
def staleLimit : Nat := 10

/-- Speed samples at rest that end STOPPING (R154) and that count as a stop for keep-wet (R97). -/
def stoppedSamples : Nat := 10

/-- The duty cap under the over-temperature warning, in 0.1 % (R105). -/
def dutyCap : Nat := 600

/-- The FREE VALUE of the model (assumption log 1): the time left on a running timer, which no command of the table tells. It has
no body; a claim is true whatever it is. Its argument is the number of free values taken before it. -/
opaque timeLeft : Nat → Nat

end Sys2Proof.Config
end

