-- ==== Sys2Proof/Syntax.lean ====
section
/-! DEFINITION. The commands of the part, one constructor of `Instr` per row of spec/opcode_table.json.

Events carry the subject's index and, for a terminal, its new level (assumption log 7). Host commands carry the tag of their frame and
the fields of their payload in the order their rule names them (R173); a field is the number its bytes spell, so that a value the part
must refuse RANGE can be written. -/

namespace Sys2Proof

/-- The levels of an encoder's two phases (R2). -/
structure Phase where
  a : Bool
  b : Bool
  deriving DecidableEq, Repr

/-- The three kinds of reading of a temperature or gap channel (R85, R93), in the order R85 names them. -/
inductive Reading
  | valid (value : Nat)
  | invalid
  | absent
  deriving DecidableEq, Repr

/-- What the stage monitor reports of the supply (section 6.4). -/
inductive Supply
  | normal
  | underRange
  | overRange
  deriving DecidableEq, Repr

/-- A lane record as the host gives it (R39): sheet length in mm, outs, target sheets, stack height in layers. -/
structure LaneSpec where
  length : Nat
  outs : Nat
  target : Nat
  height : Nat
  deriving DecidableEq, Repr

/-- An order record as AddOrder carries it (R39, R40). -/
structure OrderSpec where
  tag : Nat
  grade : Nat
  knives : List Nat
  scores : List Nat
  lanes : List LaneSpec
  makeupLimit : Nat
  deriving DecidableEq, Repr

/-- The fields of SetStation (R63). -/
structure StationArgs where
  station : Nat
  path : Nat
  arm : Nat
  reserve : Nat
  matchLimit : Nat
  window : Nat
  speed : Nat
  edge : Nat
  reelLow : Nat
  jb : Nat
  ja : Nat
  deriving DecidableEq, Repr

/-- The fields of SetGrade (R80). -/
structure GradeArgs where
  number : Nat
  defined : Nat
  walls : Nat
  flute : Nat
  setpoint : Nat
  feedForward : Nat
  lowHeat : Nat
  limit : Nat
  gap1 : Nat
  gap2 : Nat
  gap3 : Nat
  gap4 : Nat
  deriving DecidableEq, Repr

/-- The fields of SetZone (R82). -/
structure ZoneArgs where
  zone : Nat
  dIn : Nat
  dOut : Nat
  output : Nat
  channel : Nat
  band : Nat
  gain : Nat
  deriving DecidableEq, Repr

/-- The fields of SetGlue (R91). -/
structure GlueArgs where
  station : Nat
  outA : Nat
  outB : Nat
  channel : Nat
  rollRun : Nat
  tolerance : Nat
  moveLimit : Nat
  stopMode : Nat
  interval : Nat
  turn : Nat
  parkGap : Nat
  deriving DecidableEq, Repr

/-- The fields of SetCutoff (R121). -/
structure CutoffArgs where
  scrap : Nat
  mult : Nat
  gate : Nat
  rate1 : Nat
  rate2 : Nat
  lead : Nat
  limit : Nat
  deriving DecidableEq, Repr

/-- The commands: one constructor per row of spec/opcode_table.json. -/
inductive Instr
  -- resets (R160)
  | powerOn
  | resetLineAssert
  | resetLine
  -- events of the LCU's terminals (chapter 1)
  | encoderTransition (counter : CounterId) (phases : Phase)
  | webPresentChange (web : WebId) (active : Bool)
  | speedSample
  -- events of the bond controller (chapter 5)
  | temperatureReading (zone : ZoneId) (reading : Reading)
  | gapReading (station : GlueId) (reading : Reading)
  | moveTimerExpiry (station : GlueId)
  | keepWetSecond
  | turnTimerExpiry (station : GlueId)
  -- events of the drive stage (chapter 6)
  | passiveTestSecond (openLoads : BitVec 16)
  | overcurrentEvent (output : OutputId) (isOver : Bool)
  | openLoadEvent (output : OutputId) (isOpen : Bool)
  | supplyChange (supply : Supply)
  | thermalWarningChange (present : Bool)
  | thermalShutdown
  | faultInputChange (input : InputId) (high : Bool)
  -- capture and index events (R10 to R12)
  | jointEdge (station : SpliceId) (rising : Bool)
  | sheetEyeEdge (eye : StackerId) (rising : Bool)
  | knifeIndex (lane : LaneId) (high : Bool)
  | knifeFirePulseEnd (lane : LaneId)
  -- events of the splice stations (chapter 4)
  | speedMatch (station : SpliceId) (active : Bool)
  | matchTimerExpiry (station : SpliceId)
  | pasteKnifePulseEnd (station : SpliceId)
  -- events of the slitter-scorer stations (chapter 7)
  | inPositionActive (station : SlitId)
  | inPositionInactive (station : SlitId)
  | positioningTimerExpiry (station : SlitId)
  -- events of the stackers (chapter 8)
  | conveyorReady (stacker : StackerId) (active : Bool)
  | ejectPulseEnd (stacker : StackerId)
  | ejectTimerExpiry (stacker : StackerId)
  | ejectDone (stacker : StackerId) (active : Bool)
  -- events of the link (chapter 10)
  | receiveCharacter (mark : Bool) (byte : Byte) (stop : Bool)
  | breakStart
  | shortBreakEnd
  | linkReset
  | commandTake
  | unknownCommand (tag code : Nat)
  | clearToSendChange (active : Bool)
  | frameSendComplete
  | linkTimeoutExpiry
  -- host commands of the line supervisor (0x01 to 0x0B)
  | commit (tag : Nat)
  | startLine (tag speed : Nat)
  | stopLine (tag : Nat)
  | setSpeed (tag speed : Nat)
  | setRamp (tag accel decel thread : Nat)
  | ackHalt (tag : Nat)
  | park (tag : Nat)
  | unpark (tag : Nat)
  | ackStart (tag : Nat)
  | restart (tag : Nat)
  | readStatus (tag : Nat)
  -- of the length counting unit (0x10 to 0x14)
  | setScale (tag counter scale : Nat)
  | setGeometry (tag slit cut rej stk1 stk2 : Nat)
  | setLineBuild (tag walls width : Nat)
  | setSheetEyes (tag edge1 edge2 : Nat)
  | readLength (tag : Nat)
  -- of the web map (0x20 to 0x25)
  | setBridge (tag web slow high crawl : Nat)
  | threadBridge (tag web content : Nat)
  | addHostMark (tag start finish reason : Nat)
  | resumeSorting (tag : Nat)
  | readMap (tag first count : Nat)
  | readBridge (tag web first count : Nat)
  -- of the order book (0x30 to 0x36)
  | setChangeLimits (tag margin step maximum crawl : Nat)
  | addOrder (tag : Nat) (order : OrderSpec)
  | amendTarget (tag order lane target : Nat)
  | cancelOrder (tag order : Nat)
  | readOrder (tag order : Nat)
  | readBook (tag : Nat)
  | collectOrder (tag order : Nat)
  -- of the splice controller (0x40 to 0x45)
  | setStation (tag : Nat) (args : StationArgs)
  | loadReel (tag station arm reel paper length : Nat)
  | unloadReel (tag station : Nat)
  | forceSplice (tag station : Nat)
  | spliceVerdict (tag station verdict : Nat)
  | readStation (tag station : Nat)
  -- of the bond controller (0x50 to 0x58)
  | setGrade (tag : Nat) (args : GradeArgs)
  | readGrade (tag grade : Nat)
  | setZone (tag : Nat) (args : ZoneArgs)
  | setZoneEnable (tag zone enable : Nat)
  | setBondCommon (tag heatLead glueLead standby : Nat)
  | setGlue (tag : Nat) (args : GlueArgs)
  | readZone (tag zone : Nat)
  | readGlue (tag station : Nat)
  | readBond (tag : Nat)
  -- of the drive stage (0x60 to 0x64)
  | setOutput (tag output mode generator passive : Nat)
  | setGenerator (tag generator frequency : Nat)
  | setFaultInput (tag input level mask action : Nat)
  | clearDriveFaults (tag : Nat)
  | readDrive (tag : Nat)
  -- of the dry end controller (0x70 to 0x73)
  | setCutoff (tag : Nat) (args : CutoffArgs)
  | retrySetup (tag station : Nat)
  | readSlitter (tag : Nat)
  | readLanes (tag : Nat)
  -- of the stacker unit (0x80 to 0x84)
  | setStacker (tag stacker warn crawl limit tolerance : Nat)
  | forceEject (tag stacker : Nat)
  | collectStacks (tag stacker count : Nat)
  | readStackers (tag : Nat)
  | readTally (tag order : Nat)
  -- of the link port (0xF0 to 0xF3)
  | ping (tag : Nat) (bytes : List Byte)
  | identify (tag : Nat)
  | setLinkTimeout (tag tenths : Nat)
  | readLink (tag : Nat)
  -- the last row of the table
  | longBreakEnd
  deriving DecidableEq, Repr

end Sys2Proof
end

