-- ==== Sys2Proof/Decode.lean ====
section
/-! DEFINITION. The payload layouts of the host commands (R172, R173, R176): a reader, an encoder, and the table-word decoder.

A field takes the fewest bytes among 1, 2, 4 and 6 that hold its stated range, most significant byte first (R172). The widths below
follow from the ranges of the settings' rules (assumption log 13); a subject is named by its number of the subject table (log 12). -/

namespace Sys2Proof

/-- `v` in `w` bytes, most significant byte first (R172). -/
def natBytes : Nat → Nat → List Byte
  | 0, _ => []
  | w + 1, v => BitVec.ofNat 8 (v / 256 ^ w) :: natBytes w v

/-- The number that the first `w` bytes spell, most significant byte first, continuing from `acc`, and the bytes behind them. -/
def takeNat : Nat → Nat → List Byte → Option (Nat × List Byte)
  | 0, acc, bs => some (acc, bs)
  | _ + 1, _, [] => none
  | w + 1, acc, b :: bs => takeNat w (acc * 256 + b.toNat) bs

/-- The values of fields of the given widths, when the bytes hold exactly these fields and nothing after the last (R173). -/
def readFields : List Nat → List Byte → Option (List Nat)
  | [], [] => some []
  | [], _ :: _ => none
  | w :: ws, bs =>
    match takeNat w 0 bs with
    | none => none
    | some (v, rest) =>
      match readFields ws rest with
      | none => none
      | some vs => some (v :: vs)

/-- `n` items of two bytes each, and the bytes behind them. -/
def takeWords : Nat → List Byte → Option (List Nat × List Byte)
  | 0, bs => some ([], bs)
  | n + 1, bs =>
    match takeNat 2 0 bs with
    | none => none
    | some (v, rest) =>
      match takeWords n rest with
      | none => none
      | some (vs, rest') => some (v :: vs, rest')

/-- A list of two-byte items preceded by its count byte (R172). -/
def takeWordList (bs : List Byte) : Option (List Nat × List Byte) :=
  match takeNat 1 0 bs with
  | none => none
  | some (n, rest) => takeWords n rest

/-- `n` lane records of 9 bytes (R176), and the bytes behind them. -/
def takeLanes : Nat → List Byte → Option (List LaneSpec × List Byte)
  | 0, bs => some ([], bs)
  | n + 1, bs =>
    match takeNat 2 0 bs with
    | none => none
    | some (length, b1) =>
      match takeNat 1 0 b1 with
      | none => none
      | some (outs, b2) =>
        match takeNat 4 0 b2 with
        | none => none
        | some (target, b3) =>
          match takeNat 2 0 b3 with
          | none => none
          | some (height, b4) =>
            match takeLanes n b4 with
            | none => none
            | some (ls, rest) => some (⟨length, outs, target, height⟩ :: ls, rest)

/-- An order record (R176) that fills the payload. -/
def readOrderSpec (bs : List Byte) : Option OrderSpec :=
  match takeNat 2 0 bs with
  | none => none
  | some (tag, b1) =>
    match takeNat 1 0 b1 with
    | none => none
    | some (grade, b2) =>
      match takeWordList b2 with
      | none => none
      | some (knives, b3) =>
        match takeWordList b3 with
        | none => none
        | some (scores, b4) =>
          match takeNat 1 0 b4 with
          | none => none
          | some (n, b5) =>
            match takeLanes n b5 with
            | none => none
            | some (lanes, b6) =>
              match readFields [2] b6 with
              | some [limit] => some ⟨tag, grade, knives, scores, lanes, limit⟩
              | _ => none

/-- A list of two-byte items as fields: its count byte, then the items. -/
def wordListFields (vs : List Nat) : List (Nat × Nat) := (1, vs.length) :: vs.map fun v => (2, v)

/-- A lane record as fields (R176). -/
def laneFields (l : LaneSpec) : List (Nat × Nat) := [(2, l.length), (1, l.outs), (4, l.target), (2, l.height)]

/-- An order record as fields (R176). -/
def orderFields (o : OrderSpec) : List (Nat × Nat) :=
  [(2, o.tag), (1, o.grade)] ++ wordListFields o.knives ++ wordListFields o.scores ++ [(1, o.lanes.length)] ++
    o.lanes.flatMap laneFields ++ [(2, o.makeupLimit)]

/-- What a host command's frame carries: its tag, its code, and its payload as fields of a width in bytes and a value. -/
structure HostLayout where
  tag : Nat
  code : Nat
  fields : List (Nat × Nat)
  deriving DecidableEq, Repr

/-- The layout of each host command (R173); an event has none. -/
def Instr.layout : Instr → Option HostLayout
  | .commit tag => some ⟨tag, 0x01, []⟩
  | .startLine tag speed => some ⟨tag, 0x02, [(2, speed)]⟩
  | .stopLine tag => some ⟨tag, 0x03, []⟩
  | .setSpeed tag speed => some ⟨tag, 0x04, [(2, speed)]⟩
  | .setRamp tag accel decel thread => some ⟨tag, 0x05, [(1, accel), (1, decel), (1, thread)]⟩
  | .ackHalt tag => some ⟨tag, 0x06, []⟩
  | .park tag => some ⟨tag, 0x07, []⟩
  | .unpark tag => some ⟨tag, 0x08, []⟩
  | .ackStart tag => some ⟨tag, 0x09, []⟩
  | .restart tag => some ⟨tag, 0x0A, []⟩
  | .readStatus tag => some ⟨tag, 0x0B, []⟩
  | .setScale tag counter scale => some ⟨tag, 0x10, [(1, counter), (4, scale)]⟩
  | .setGeometry tag slit cut rej stk1 stk2 => some ⟨tag, 0x11, [(4, slit), (4, cut), (4, rej), (4, stk1), (4, stk2)]⟩
  | .setLineBuild tag walls width => some ⟨tag, 0x12, [(1, walls), (2, width)]⟩
  | .setSheetEyes tag edge1 edge2 => some ⟨tag, 0x13, [(1, edge1), (1, edge2)]⟩
  | .readLength tag => some ⟨tag, 0x14, []⟩
  | .setBridge tag web slow high crawl => some ⟨tag, 0x20, [(1, web), (1, slow), (2, high), (2, crawl)]⟩
  | .threadBridge tag web content => some ⟨tag, 0x21, [(1, web), (2, content)]⟩
  | .addHostMark tag start finish reason => some ⟨tag, 0x22, [(6, start), (6, finish), (1, reason)]⟩
  | .resumeSorting tag => some ⟨tag, 0x23, []⟩
  | .readMap tag first count => some ⟨tag, 0x24, [(1, first), (1, count)]⟩
  | .readBridge tag web first count => some ⟨tag, 0x25, [(1, web), (1, first), (1, count)]⟩
  | .setChangeLimits tag margin step maximum crawl => some ⟨tag, 0x30, [(1, margin), (1, step), (2, maximum), (2, crawl)]⟩
  | .addOrder tag o => some ⟨tag, 0x31, orderFields o⟩
  | .amendTarget tag order lane target => some ⟨tag, 0x32, [(2, order), (1, lane), (4, target)]⟩
  | .cancelOrder tag order => some ⟨tag, 0x33, [(2, order)]⟩
  | .readOrder tag order => some ⟨tag, 0x34, [(2, order)]⟩
  | .readBook tag => some ⟨tag, 0x35, []⟩
  | .collectOrder tag order => some ⟨tag, 0x36, [(2, order)]⟩
  | .setStation tag a => some ⟨tag, 0x40, [(1, a.station), (1, a.path), (2, a.arm), (1, a.reserve), (1, a.matchLimit), (1, a.window), (2, a.speed), (1, a.edge), (2, a.reelLow), (2, a.jb), (2, a.ja)]⟩
  | .loadReel tag station arm reel paper length => some ⟨tag, 0x41, [(1, station), (1, arm), (4, reel), (2, paper), (2, length)]⟩
  | .unloadReel tag station => some ⟨tag, 0x42, [(1, station)]⟩
  | .forceSplice tag station => some ⟨tag, 0x43, [(1, station)]⟩
  | .spliceVerdict tag station verdict => some ⟨tag, 0x44, [(1, station), (1, verdict)]⟩
  | .readStation tag station => some ⟨tag, 0x45, [(1, station)]⟩
  | .setGrade tag a => some ⟨tag, 0x50, [(1, a.number), (1, a.defined), (1, a.walls), (1, a.flute), (2, a.setpoint), (1, a.feedForward), (2, a.lowHeat), (2, a.limit), (2, a.gap1), (2, a.gap2), (2, a.gap3), (2, a.gap4)]⟩
  | .readGrade tag grade => some ⟨tag, 0x51, [(1, grade)]⟩
  | .setZone tag a => some ⟨tag, 0x52, [(1, a.zone), (4, a.dIn), (4, a.dOut), (1, a.output), (1, a.channel), (2, a.band), (1, a.gain)]⟩
  | .setZoneEnable tag zone enable => some ⟨tag, 0x53, [(1, zone), (1, enable)]⟩
  | .setBondCommon tag heatLead glueLead standby => some ⟨tag, 0x54, [(1, heatLead), (1, glueLead), (2, standby)]⟩
  | .setGlue tag a => some ⟨tag, 0x55, [(1, a.station), (1, a.outA), (1, a.outB), (1, a.channel), (1, a.rollRun), (1, a.tolerance), (1, a.moveLimit), (1, a.stopMode), (2, a.interval), (1, a.turn), (2, a.parkGap)]⟩
  | .readZone tag zone => some ⟨tag, 0x56, [(1, zone)]⟩
  | .readGlue tag station => some ⟨tag, 0x57, [(1, station)]⟩
  | .readBond tag => some ⟨tag, 0x58, []⟩
  | .setOutput tag output mode generator passive => some ⟨tag, 0x60, [(1, output), (1, mode), (1, generator), (1, passive)]⟩
  | .setGenerator tag generator frequency => some ⟨tag, 0x61, [(1, generator), (2, frequency)]⟩
  | .setFaultInput tag input level mask action => some ⟨tag, 0x62, [(1, input), (1, level), (2, mask), (1, action)]⟩
  | .clearDriveFaults tag => some ⟨tag, 0x63, []⟩
  | .readDrive tag => some ⟨tag, 0x64, []⟩
  | .setCutoff tag a => some ⟨tag, 0x70, [(2, a.scrap), (1, a.mult), (2, a.gate), (2, a.rate1), (2, a.rate2), (1, a.lead), (1, a.limit)]⟩
  | .retrySetup tag station => some ⟨tag, 0x71, [(1, station)]⟩
  | .readSlitter tag => some ⟨tag, 0x72, []⟩
  | .readLanes tag => some ⟨tag, 0x73, []⟩
  | .setStacker tag stacker warn crawl limit tolerance => some ⟨tag, 0x80, [(1, stacker), (1, warn), (2, crawl), (1, limit), (1, tolerance)]⟩
  | .forceEject tag stacker => some ⟨tag, 0x81, [(1, stacker)]⟩
  | .collectStacks tag stacker count => some ⟨tag, 0x82, [(1, stacker), (1, count)]⟩
  | .readStackers tag => some ⟨tag, 0x83, []⟩
  | .readTally tag order => some ⟨tag, 0x84, [(2, order)]⟩
  | .ping tag bytes => some ⟨tag, 0xF0, bytes.map fun b => (1, b.toNat)⟩
  | .identify tag => some ⟨tag, 0xF1, []⟩
  | .setLinkTimeout tag tenths => some ⟨tag, 0xF2, [(2, tenths)]⟩
  | .readLink tag => some ⟨tag, 0xF3, []⟩
  | .powerOn .. => none
  | .resetLineAssert .. => none
  | .resetLine .. => none
  | .encoderTransition .. => none
  | .webPresentChange .. => none
  | .speedSample .. => none
  | .temperatureReading .. => none
  | .gapReading .. => none
  | .moveTimerExpiry .. => none
  | .keepWetSecond .. => none
  | .turnTimerExpiry .. => none
  | .passiveTestSecond .. => none
  | .overcurrentEvent .. => none
  | .openLoadEvent .. => none
  | .supplyChange .. => none
  | .thermalWarningChange .. => none
  | .thermalShutdown .. => none
  | .faultInputChange .. => none
  | .jointEdge .. => none
  | .sheetEyeEdge .. => none
  | .knifeIndex .. => none
  | .knifeFirePulseEnd .. => none
  | .speedMatch .. => none
  | .matchTimerExpiry .. => none
  | .pasteKnifePulseEnd .. => none
  | .inPositionActive .. => none
  | .inPositionInactive .. => none
  | .positioningTimerExpiry .. => none
  | .conveyorReady .. => none
  | .ejectPulseEnd .. => none
  | .ejectTimerExpiry .. => none
  | .ejectDone .. => none
  | .receiveCharacter .. => none
  | .breakStart .. => none
  | .shortBreakEnd .. => none
  | .linkReset .. => none
  | .commandTake .. => none
  | .unknownCommand .. => none
  | .clearToSendChange .. => none
  | .frameSendComplete .. => none
  | .linkTimeoutExpiry .. => none
  | .longBreakEnd .. => none

/-- The payload that fields spell. -/
def fieldBytes (fs : List (Nat × Nat)) : List Byte := fs.flatMap fun f => natBytes f.1 f.2

/-- The two ways a frame is answered without reaching a block (R173). -/
inductive Rejection
  | unknown
  | malformed
  deriving DecidableEq, Repr

/-- The command made from what a payload reader gives, or MALFORMED. -/
def orElseMalformed {α : Type} (r : Option α) (f : α → Instr) : Except Rejection Instr :=
  match r with
  | some a => .ok (f a)
  | none => .error .malformed

/-- The codes of the command list (R173). -/
def commandCodes : List Nat :=
  [0x01, 0x02, 0x03, 0x04, 0x05, 0x06, 0x07, 0x08, 0x09, 0x0A, 0x0B, 0x10, 0x11, 0x12, 0x13, 0x14, 0x20, 0x21, 0x22, 0x23, 0x24, 0x25, 0x30, 0x31, 0x32, 0x33, 0x34, 0x35, 0x36, 0x40, 0x41, 0x42, 0x43, 0x44, 0x45, 0x50, 0x51, 0x52, 0x53, 0x54, 0x55, 0x56, 0x57, 0x58, 0x60, 0x61, 0x62, 0x63, 0x64, 0x70, 0x71, 0x72, 0x73, 0x80, 0x81, 0x82, 0x83, 0x84, 0xF0, 0xF1, 0xF2, 0xF3]

/-- The LNK's decoding of a command frame (R173): a code outside the list is UNKNOWN, a payload that does not fit is MALFORMED. -/
def decodeCommand (tag code : Nat) (p : List Byte) : Except Rejection Instr :=
  match code with
  | 0x01 => if p.isEmpty then .ok (.commit tag) else .error .malformed
  | 0x02 =>
    match readFields [2] p with
    | some [speed] => .ok (.startLine tag speed)
    | _ => .error .malformed
  | 0x03 => if p.isEmpty then .ok (.stopLine tag) else .error .malformed
  | 0x04 =>
    match readFields [2] p with
    | some [speed] => .ok (.setSpeed tag speed)
    | _ => .error .malformed
  | 0x05 =>
    match readFields [1, 1, 1] p with
    | some [accel, decel, thread] => .ok (.setRamp tag accel decel thread)
    | _ => .error .malformed
  | 0x06 => if p.isEmpty then .ok (.ackHalt tag) else .error .malformed
  | 0x07 => if p.isEmpty then .ok (.park tag) else .error .malformed
  | 0x08 => if p.isEmpty then .ok (.unpark tag) else .error .malformed
  | 0x09 => if p.isEmpty then .ok (.ackStart tag) else .error .malformed
  | 0x0A => if p.isEmpty then .ok (.restart tag) else .error .malformed
  | 0x0B => if p.isEmpty then .ok (.readStatus tag) else .error .malformed
  | 0x10 =>
    match readFields [1, 4] p with
    | some [counter, scale] => .ok (.setScale tag counter scale)
    | _ => .error .malformed
  | 0x11 =>
    match readFields [4, 4, 4, 4, 4] p with
    | some [slit, cut, rej, stk1, stk2] => .ok (.setGeometry tag slit cut rej stk1 stk2)
    | _ => .error .malformed
  | 0x12 =>
    match readFields [1, 2] p with
    | some [walls, width] => .ok (.setLineBuild tag walls width)
    | _ => .error .malformed
  | 0x13 =>
    match readFields [1, 1] p with
    | some [edge1, edge2] => .ok (.setSheetEyes tag edge1 edge2)
    | _ => .error .malformed
  | 0x14 => if p.isEmpty then .ok (.readLength tag) else .error .malformed
  | 0x20 =>
    match readFields [1, 1, 2, 2] p with
    | some [web, slow, high, crawl] => .ok (.setBridge tag web slow high crawl)
    | _ => .error .malformed
  | 0x21 =>
    match readFields [1, 2] p with
    | some [web, content] => .ok (.threadBridge tag web content)
    | _ => .error .malformed
  | 0x22 =>
    match readFields [6, 6, 1] p with
    | some [start, finish, reason] => .ok (.addHostMark tag start finish reason)
    | _ => .error .malformed
  | 0x23 => if p.isEmpty then .ok (.resumeSorting tag) else .error .malformed
  | 0x24 =>
    match readFields [1, 1] p with
    | some [first, count] => .ok (.readMap tag first count)
    | _ => .error .malformed
  | 0x25 =>
    match readFields [1, 1, 1] p with
    | some [web, first, count] => .ok (.readBridge tag web first count)
    | _ => .error .malformed
  | 0x30 =>
    match readFields [1, 1, 2, 2] p with
    | some [margin, step, maximum, crawl] => .ok (.setChangeLimits tag margin step maximum crawl)
    | _ => .error .malformed
  | 0x31 => orElseMalformed (readOrderSpec p) (.addOrder tag)
  | 0x32 =>
    match readFields [2, 1, 4] p with
    | some [order, lane, target] => .ok (.amendTarget tag order lane target)
    | _ => .error .malformed
  | 0x33 =>
    match readFields [2] p with
    | some [order] => .ok (.cancelOrder tag order)
    | _ => .error .malformed
  | 0x34 =>
    match readFields [2] p with
    | some [order] => .ok (.readOrder tag order)
    | _ => .error .malformed
  | 0x35 => if p.isEmpty then .ok (.readBook tag) else .error .malformed
  | 0x36 =>
    match readFields [2] p with
    | some [order] => .ok (.collectOrder tag order)
    | _ => .error .malformed
  | 0x40 =>
    match readFields [1, 1, 2, 1, 1, 1, 2, 1, 2, 2, 2] p with
    | some [v0, v1, v2, v3, v4, v5, v6, v7, v8, v9, v10] => .ok (.setStation tag ⟨v0, v1, v2, v3, v4, v5, v6, v7, v8, v9, v10⟩)
    | _ => .error .malformed
  | 0x41 =>
    match readFields [1, 1, 4, 2, 2] p with
    | some [station, arm, reel, paper, length] => .ok (.loadReel tag station arm reel paper length)
    | _ => .error .malformed
  | 0x42 =>
    match readFields [1] p with
    | some [station] => .ok (.unloadReel tag station)
    | _ => .error .malformed
  | 0x43 =>
    match readFields [1] p with
    | some [station] => .ok (.forceSplice tag station)
    | _ => .error .malformed
  | 0x44 =>
    match readFields [1, 1] p with
    | some [station, verdict] => .ok (.spliceVerdict tag station verdict)
    | _ => .error .malformed
  | 0x45 =>
    match readFields [1] p with
    | some [station] => .ok (.readStation tag station)
    | _ => .error .malformed
  | 0x50 =>
    match readFields [1, 1, 1, 1, 2, 1, 2, 2, 2, 2, 2, 2] p with
    | some [v0, v1, v2, v3, v4, v5, v6, v7, v8, v9, v10, v11] => .ok (.setGrade tag ⟨v0, v1, v2, v3, v4, v5, v6, v7, v8, v9, v10, v11⟩)
    | _ => .error .malformed
  | 0x51 =>
    match readFields [1] p with
    | some [grade] => .ok (.readGrade tag grade)
    | _ => .error .malformed
  | 0x52 =>
    match readFields [1, 4, 4, 1, 1, 2, 1] p with
    | some [v0, v1, v2, v3, v4, v5, v6] => .ok (.setZone tag ⟨v0, v1, v2, v3, v4, v5, v6⟩)
    | _ => .error .malformed
  | 0x53 =>
    match readFields [1, 1] p with
    | some [zone, enable] => .ok (.setZoneEnable tag zone enable)
    | _ => .error .malformed
  | 0x54 =>
    match readFields [1, 1, 2] p with
    | some [heatLead, glueLead, standby] => .ok (.setBondCommon tag heatLead glueLead standby)
    | _ => .error .malformed
  | 0x55 =>
    match readFields [1, 1, 1, 1, 1, 1, 1, 1, 2, 1, 2] p with
    | some [v0, v1, v2, v3, v4, v5, v6, v7, v8, v9, v10] => .ok (.setGlue tag ⟨v0, v1, v2, v3, v4, v5, v6, v7, v8, v9, v10⟩)
    | _ => .error .malformed
  | 0x56 =>
    match readFields [1] p with
    | some [zone] => .ok (.readZone tag zone)
    | _ => .error .malformed
  | 0x57 =>
    match readFields [1] p with
    | some [station] => .ok (.readGlue tag station)
    | _ => .error .malformed
  | 0x58 => if p.isEmpty then .ok (.readBond tag) else .error .malformed
  | 0x60 =>
    match readFields [1, 1, 1, 1] p with
    | some [output, mode, generator, passive] => .ok (.setOutput tag output mode generator passive)
    | _ => .error .malformed
  | 0x61 =>
    match readFields [1, 2] p with
    | some [generator, frequency] => .ok (.setGenerator tag generator frequency)
    | _ => .error .malformed
  | 0x62 =>
    match readFields [1, 1, 2, 1] p with
    | some [input, level, mask, action] => .ok (.setFaultInput tag input level mask action)
    | _ => .error .malformed
  | 0x63 => if p.isEmpty then .ok (.clearDriveFaults tag) else .error .malformed
  | 0x64 => if p.isEmpty then .ok (.readDrive tag) else .error .malformed
  | 0x70 =>
    match readFields [2, 1, 2, 2, 2, 1, 1] p with
    | some [v0, v1, v2, v3, v4, v5, v6] => .ok (.setCutoff tag ⟨v0, v1, v2, v3, v4, v5, v6⟩)
    | _ => .error .malformed
  | 0x71 =>
    match readFields [1] p with
    | some [station] => .ok (.retrySetup tag station)
    | _ => .error .malformed
  | 0x72 => if p.isEmpty then .ok (.readSlitter tag) else .error .malformed
  | 0x73 => if p.isEmpty then .ok (.readLanes tag) else .error .malformed
  | 0x80 =>
    match readFields [1, 1, 2, 1, 1] p with
    | some [stacker, warn, crawl, limit, tolerance] => .ok (.setStacker tag stacker warn crawl limit tolerance)
    | _ => .error .malformed
  | 0x81 =>
    match readFields [1] p with
    | some [stacker] => .ok (.forceEject tag stacker)
    | _ => .error .malformed
  | 0x82 =>
    match readFields [1, 1] p with
    | some [stacker, count] => .ok (.collectStacks tag stacker count)
    | _ => .error .malformed
  | 0x83 => if p.isEmpty then .ok (.readStackers tag) else .error .malformed
  | 0x84 =>
    match readFields [2] p with
    | some [order] => .ok (.readTally tag order)
    | _ => .error .malformed
  | 0xF0 => .ok (.ping tag p)
  | 0xF1 => if p.isEmpty then .ok (.identify tag) else .error .malformed
  | 0xF2 =>
    match readFields [2] p with
    | some [tenths] => .ok (.setLinkTimeout tag tenths)
    | _ => .error .malformed
  | 0xF3 => if p.isEmpty then .ok (.readLink tag) else .error .malformed
  | _ => .error .unknown

/-- The command that a word of the table's bits spells: no row of spec/opcode_table.json gives bits, so no word spells one. -/
def decodeTableWord (_nbits _w : Nat) : Option Instr := none

end Sys2Proof
end

