-- ==== Sys2Proof/Machine/State.lean ====
section
/-! DEFINITION. The state of the CL86, block by block (spec/00_scope.md, block overview), its faults and refusals, and the state after reset.

Enumerations stand in the order the owning chapter lists their values, since R172 codes them by that order. Values that are functions of
others (positions, X_k, owner status, output condition, duties, next cut, speed target, ready-to-receive) are computed, not stored
(assumption log 17). -/

namespace Sys2Proof.Machine

/-! ### LCU (chapter 1) -/

/-- The kinds of counter fault (R6). -/
inductive FaultKind
  | debt
  | transitions
  | overrange
  deriving DecidableEq, Repr

/-- A counter's fault record (R6). -/
structure FaultRecord where
  kind : FaultKind
  position : Nat
  deriving DecidableEq, Repr

/-- A length counter (R2 to R6, R13). Its position is floor(c × 10000 / scale). -/
structure Counter where
  refPhase : Phase
  c : Nat
  debt : Nat
  tally : Nat
  tallyBase : Nat
  scale : Nat
  faulted : Bool
  faultRecord : Option FaultRecord
  faultCount : Nat
  deriving DecidableEq, Repr

/-- Which changes of an input count as edges (section 1.5). -/
inductive EdgeSelect
  | rising
  | falling
  | both
  deriving DecidableEq, Repr

/-- A joint capture channel (R10). -/
structure JointChannel where
  armed : Bool
  record : Option Nat
  deriving DecidableEq, Repr

/-- A sheet-eye channel (R11). -/
structure SheetEye where
  count : Nat
  edge : EdgeSelect
  deriving DecidableEq, Repr

/-- The station distances in 0.1 mm (R14). -/
structure Geometry where
  slit : Nat
  cut : Nat
  rej : Nat
  stk1 : Nat
  stk2 : Nat
  deriving DecidableEq, Repr

/-- The length counting unit. `phases`, `webPresent` and `knifeIndex` are terminal levels; `walls` is unset as `none`, `width` as 0. -/
structure Lcu where
  counters : Vector Counter 4
  phases : Vector Phase 4
  webPresent : Vector Bool 3
  joints : Vector JointChannel 7
  eyes : Vector SheetEye 2
  knifeIndex : Vector Bool 2
  measured : Nat
  sampleBase : Nat
  geometry : Geometry
  walls : Option Nat
  width : Nat
  deriving DecidableEq, Repr

/-! ### MAP (chapter 2) -/

/-- The sources of a BOND_RISK mark (R19). -/
inductive BondSource
  | zone (n : ZoneId)
  | glue (k : GlueId)
  deriving DecidableEq, Repr

/-- A mark's kind with the fields that only that kind has (R19). -/
inductive MarkBody
  | joint (station : SpliceId) (suspect : Bool)
  | bondRisk (source : BondSource)
  | orderChange (outgoing : Nat) (incoming : Option Nat) (locked : Bool)
  | hostMark (reason : Nat)
  | restart
  deriving DecidableEq, Repr

/-- A mark of the web map (R19). Only an open BOND_RISK span has no end. -/
structure Mark where
  start : Nat
  finish : Option Nat
  body : MarkBody
  deriving DecidableEq, Repr

/-- A joint on the bridge (R29). -/
structure BridgeEntry where
  e : Nat
  before : Nat
  after : Nat
  station : SpliceId
  suspect : Bool
  deriving DecidableEq, Repr

/-- A bridge: content B_k, list, shortfall total, and the settings of section 2.7 (levels in 0.1 mm). -/
structure Bridge where
  content : Nat
  entries : List BridgeEntry
  shortfall : Nat
  slow : Nat
  high : Nat
  crawl : Nat
  deriving DecidableEq, Repr

/-- The web map and the bridges. -/
structure WebMap where
  marks : List Mark
  changeCount : Nat
  lostMarks : Nat
  ra : Option Nat
  lostZone : Vector Bool 12
  lostGlue : Vector Bool 4
  bridges : Vector Bridge 3
  deriving DecidableEq, Repr

/-! ### OBK (chapter 3), with the STK's tally of each order lane (R145) -/

/-- The states of an order (R41). -/
inductive OrderPhase
  | queued
  | staged
  | running
  | draining
  | done
  deriving DecidableEq, Repr

/-- The setup condition of a STAGED order (R43). -/
inductive SetupCond
  | positioning
  | ready
  | fault
  deriving DecidableEq, Repr

/-- The outcome of a DONE order (R57), in the order R39 lists it. -/
inductive OrderOutcome
  | complete
  | short
  | cutShort
  deriving DecidableEq, Repr

/-- The classes of a piece (R128). -/
inductive PieceClass
  | changeScrap
  | knifeSkip
  | untracked
  | splice
  | bond
  | host
  | gateLag
  | overrun
  | good
  deriving DecidableEq, Repr

/-- The tally of an order lane (R145). `classes` holds the counts of KNIFE_SKIP to GOOD in that order. -/
structure Tally where
  classes : Vector Nat 8
  stacked : Nat
  diverted : Nat
  jamLost : Nat
  stacksMade : Nat
  inQueue : Nat
  laneEnd : Bool
  drained : Bool
  reported : Bool
  deriving DecidableEq, Repr

/-- The run-time fields of an order lane (R39) and its tally. -/
structure LaneRun where
  makeup : Nat
  short : Nat
  complete : Bool
  tally : Tally
  deriving DecidableEq, Repr

/-- An order record (R39). `start` and `endPos` (E) are meaningful from RUNNING onward; `setup` while STAGED. -/
structure Order where
  tag : Nat
  grade : Nat
  knives : List Nat
  scores : List Nat
  lane1 : LaneSpec
  lane2 : Option LaneSpec
  makeupLimit : Nat
  phase : OrderPhase
  station : Option SlitId
  setup : SetupCond
  start : Nat
  endPos : Nat
  runs : Vector LaneRun 2
  deferred : Nat
  cancelled : Bool
  cutShort : Bool
  outcome : OrderOutcome
  deriving DecidableEq, Repr

/-- Where the RUNNING order's end mark stands (R45, R47; coded by R176). -/
inductive EndStatus
  | none
  | unlocked
  | locked
  | pending
  deriving DecidableEq, Repr

/-- The order book. `orders` keeps the order of arrival, so that the queued list of R41 is its QUEUED members in order; an order that
becomes DONE moves to the tail, so that the DONE members stand in the order in which they became DONE (R60). -/
structure Obk where
  orders : List Order
  endStatus : EndStatus
  pendingIncoming : Option Nat
  deferral : Bool
  stray : Nat
  lockMargin : Nat
  deferStep : Nat
  maxDeferral : Nat
  setupCrawl : Nat
  deriving DecidableEq, Repr

/-! ### SPC (chapter 4) -/

/-- The settings of a splice station (section 4.1), lengths in 0.1 mm. -/
structure SpliceSettings where
  path : Nat
  arm : Nat
  reserve : Nat
  matchLimit : Nat
  window : Nat
  speed : Nat
  edge : EdgeSelect
  reelLow : Nat
  deriving DecidableEq, Repr

/-- A reel record (section 4.2): load length in m, remaining in 0.1 mm. -/
structure Reel where
  tag : Nat
  paper : Nat
  loadLength : Nat
  remaining : Nat
  lowReported : Bool
  deriving DecidableEq, Repr

/-- The splice states (section 4.4). -/
inductive SplicePhase
  | idle
  | standby
  | matching
  | matched
  | confirming
  | suspect
  | blocked
  deriving DecidableEq, Repr

/-- The outcomes of a splice (section 4.4). -/
inductive SpliceOutcome
  | confirmed
  | took
  | failed
  | notMatched
  deriving DecidableEq, Repr

/-- The joint of a last-splice record: its position, its extents, and the suspect flag. -/
structure JointRecord where
  position : Nat
  before : Nat
  after : Nat
  suspect : Bool
  deriving DecidableEq, Repr

/-- The last-splice record (section 4.4): the old reel's tag and paper code, the stub, the new reel's tag, and the joint, if one was placed. -/
structure LastSplice where
  outcome : SpliceOutcome
  oldTag : Option Nat
  oldPaper : Option Nat
  stub : Nat
  newTag : Option Nat
  joint : Option JointRecord
  deriving DecidableEq, Repr

/-- The two arms of a station (section 4.2). -/
inductive Arm
  | a
  | b
  deriving DecidableEq, Repr

/-- A splice station. The active arm is RUNNING when `activeReel` holds a reel and OUT otherwise; the standby arm is LOADED or EMPTY
likewise. The match timer runs exactly in MATCHING. `pulse` is the paste and knife outputs, `speedMatch` the terminal's level. -/
structure SpliceStation where
  settings : Option SpliceSettings
  activeArm : Arm
  activeReel : Option Reel
  standbyReel : Option Reel
  phase : SplicePhase
  force : Bool
  firePos : Option Nat
  windowEnd : Option Nat
  accelerate : Bool
  pulse : Bool
  speedMatch : Bool
  lastSplice : Option LastSplice
  confirmed : Nat
  taken : Nat
  failed : Nat
  notMatched : Nat
  deriving DecidableEq, Repr

/-- The splice controller, with the shared joint reject lengths in 0.1 mm (R63). -/
structure Spc where
  stations : Vector SpliceStation 7
  jb : Nat
  ja : Nat
  deriving DecidableEq, Repr

/-! ### BND (chapter 5) -/

/-- A defined entry of the grade table (R80). -/
structure Grade where
  walls : Nat
  flute : Nat
  setpoint : Nat
  feedForward : Nat
  lowHeat : Nat
  limit : Nat
  gaps : Vector Nat 4
  deriving DecidableEq, Repr

/-- The settings of a heat zone (R82): distances in 0.1 mm, channel 1 to 12, band in 0.1 °C, gain in %/°C. -/
structure ZoneSettings where
  dIn : Nat
  dOut : Nat
  output : OutputId
  channel : Nat
  band : Nat
  gain : Nat
  deriving DecidableEq, Repr

/-- The states of a heat zone (section 5.3). -/
inductive ZoneState
  | off
  | low
  | inBand
  | fault
  deriving DecidableEq, Repr

/-- A heat zone. `sensor` and `output` are the fault cause set; `span` is the open-span flag with the span's start. -/
structure Zone where
  settings : Option ZoneSettings
  enabled : Bool
  state : ZoneState
  sensor : Bool
  output : Bool
  stale : Nat
  latest : Reading
  setpoint : Nat
  feedForward : Nat
  demand : Nat
  claim : Option Nat
  span : Option Nat
  deriving DecidableEq, Repr

/-- How a glue pair is left at the end of a move (section 5.5). -/
inductive StopMode
  | brake
  | coast
  deriving DecidableEq, Repr

/-- The settings of a glue station (section 5.5): gaps in µm, times in s, channel and terminal 1 to 4. -/
structure GlueSettings where
  outA : OutputId
  outB : OutputId
  channel : Nat
  rollRun : Nat
  tolerance : Nat
  moveLimit : Nat
  stopMode : StopMode
  interval : Nat
  turn : Nat
  parkGap : Nat
  deriving DecidableEq, Repr

/-- The settings that a glue station's moves follow: those of SetGlue from the gap reading that takes them (R91, log 42). -/
structure MoveRules where
  tolerance : Nat
  moveLimit : Nat
  stopMode : StopMode
  deriving DecidableEq, Repr

/-- The states of a glue station (R91 to R94; their codes, log 24). -/
inductive GlueState
  | off
  | moving
  | inPosition
  | lifted
  | fault
  deriving DecidableEq, Repr

/-- The commanded level of one side of a glue pair (R103). -/
inductive Level
  | high
  | low
  | off
  deriving DecidableEq, Repr

/-- A glue station. `timeout`, `output` and `sensor` are the fault cause set; the move timer runs exactly in MOVING, with the move limit
of `rules`; `rollRun` is on exactly while the turn timer runs, and `turnTime` is the keep-wet turn that it was last started with (R98);
`span` is the open-span flag with the span's start. -/
structure GlueStation where
  settings : Option GlueSettings
  rules : MoveRules
  state : GlueState
  timeout : Bool
  output : Bool
  sensor : Bool
  target : Nat
  latest : Reading
  lastValid : Option Nat
  stale : Nat
  levelA : Level
  levelB : Level
  keepWet : Option Nat
  rollRun : Bool
  turnTime : Nat
  span : Option Nat
  deriving DecidableEq, Repr

/-- The bond controller, with the common settings (R82) and the zero-speed count (R97). -/
structure Bnd where
  grades : Vector (Option Grade) 32
  zones : Vector Zone 12
  glues : Vector GlueStation 4
  heatLead : Nat
  glueLead : Nat
  standby : Nat
  zeroSpeed : Nat
  deriving DecidableEq, Repr

/-! ### DST (chapter 6) -/

/-- The modes of a drive output (section 6.1). -/
inductive OutputMode
  | off
  | pwm
  | continuous
  deriving DecidableEq, Repr

/-- A drive output: settings, latches, trip count, and the present answers of its senses. -/
structure Output where
  mode : OutputMode
  generator : Option GenId
  passive : Bool
  trip : Bool
  openLoad : Bool
  tripCount : Nat
  overCurrent : Bool
  openSense : Bool
  deriving DecidableEq, Repr

/-- The line actions of a fault input (section 6.5). -/
inductive LineAction
  | none
  | hold
  | stop
  | trip
  deriving DecidableEq, Repr

/-- A fault input (R112, R113): bit o of `mask` stands for output o + 1; `level` is the terminal. -/
structure FaultInput where
  activeHigh : Bool
  mask : BitVec 16
  action : LineAction
  level : Bool
  latched : Bool
  position : Nat
  count : Nat
  deriving DecidableEq, Repr

/-- The drive stage. -/
structure Dst where
  outputs : Vector Output 16
  genFreq : Vector Nat 8
  supply : Supply
  warning : Bool
  thermal : Bool
  inputs : Vector FaultInput 4
  deriving DecidableEq, Repr

/-! ### DEC (chapter 7) -/

/-- A slitter-scorer setup (section 7.1). -/
structure Setup where
  tag : Nat
  knives : List Nat
  scores : List Nat
  deriving DecidableEq, Repr

/-- What the head drives were last told (R118, R119). -/
inductive HeadDrive
  | nothing
  | goto (setup : Setup)
  | stop
  deriving DecidableEq, Repr

/-- The states of a slitter-scorer station (section 7.1). -/
inductive SlitState
  | idle
  | positioning
  | ready
  | engaged
  | fault
  deriving DecidableEq, Repr

/-- A slitter-scorer station. The positioning timer runs exactly in POSITIONING; `inPosition` is the terminal's level. -/
structure SlitStation where
  state : SlitState
  setup : Option Setup
  faultCount : Nat
  inPosition : Bool
  heads : HeadDrive
  deriving DecidableEq, Repr

/-- The modes of a cut-off lane (section 7.3). -/
inductive LaneMode
  | sheet
  | scrap
  | idle
  deriving DecidableEq, Repr

/-- The kinds of a cut (section 7.3). -/
inductive CutKind
  | sheetCut
  | scrapCut
  deriving DecidableEq, Repr

/-- A cut-off lane (section 7.3). `pieceStart` is s, `base` is b, `scrapEnd` is z; `cycling` the knife cycle flag; `handed` the
required cuts handed by the OBK, by order tag (R129); `fire` the knife fire terminal. -/
structure CutLane where
  mode : LaneMode
  order : Option Nat
  sheetLen : Nat
  pieceStart : Option Nat
  base : Option Nat
  scrapEnd : Option Nat
  resume : Option Nat
  sheetPiece : Bool
  skipped : Bool
  prevReject : Bool
  cycling : Bool
  skips : Nat
  fire : Bool
  good : Nat
  handed : List (Nat × Nat)
  claim : Option Nat
  deriving DecidableEq, Repr

/-- A piece record (R130). -/
structure Piece where
  tag : Nat
  start : Nat
  finish : Nat
  cls : PieceClass
  layers : Nat
  deriving DecidableEq, Repr

/-- A lane sheet queue (R130): the pieces that have passed the gate, then those not yet judged (section 8.1). -/
structure SheetQueue where
  accepted : List Piece
  unjudged : List Piece
  deriving DecidableEq, Repr

/-- The dry end controller, with the settings of R121 (lengths in 0.1 mm, rates in cuts/min, limit in s). -/
structure Dec where
  stations : Vector SlitStation 2
  lanes : Vector CutLane 2
  queues : Vector SheetQueue 2
  scrapLen : Nat
  zoneMult : Nat
  gateSwitch : Nat
  rates : Vector Nat 2
  changeLead : Nat
  posLimit : Nat
  deriving DecidableEq, Repr

/-! ### STK (chapter 8) -/

/-- The states of a stacker (section 8.2). -/
inductive StackerState
  | stacking
  | due
  | offered
  | ejecting
  | fault
  deriving DecidableEq, Repr

/-- A stack record (R140). -/
structure StackRecord where
  tag : Nat
  number : Nat
  layers : Nat
  partialFlag : Bool
  mismatch : Bool
  deriving DecidableEq, Repr

/-- A stacker. The offer terminal is on exactly in OFFERED and the eject timer runs exactly in EJECTING; `timerLimit` is the limit it was
last started with (R143); `conveyorReady` and `ejectDone` are terminal levels; `tag` is absent while the stack is empty. -/
structure Stacker where
  state : StackerState
  tag : Option Nat
  count : Nat
  partialFlag : Bool
  holdback : List Nat
  records : List StackRecord
  eject : Bool
  conveyorReady : Bool
  ejectDone : Bool
  warn : Nat
  crawl : Nat
  ejectLimit : Nat
  timerLimit : Nat
  tolerance : Nat
  deriving DecidableEq, Repr

/-- The terminal of a reject gate (R134). -/
inductive Gate
  | accept
  | reject
  deriving DecidableEq, Repr

/-- The stacker unit, with the line scrap tally (R135). -/
structure Stk where
  stackers : Vector Stacker 2
  gates : Vector Gate 2
  scrapPieces : Nat
  scrapLength : Nat
  deriving DecidableEq, Repr

/-! ### LSV (chapter 9) -/

/-- The line states (section 9.1). -/
inductive LineState
  | setup
  | ready
  | run
  | hold
  | stopping
  | halted
  | park
  deriving DecidableEq, Repr

/-- The hold causes (section 9.3). -/
inductive HoldCause
  | linkStale
  | setupOverdue
  | spliceSuspect
  | webCounter
  | faultInput
  deriving DecidableEq, Repr

/-- The hold-cause set (R152). -/
structure HoldSet where
  linkStale : Bool
  setupOverdue : Bool
  spliceSuspect : Bool
  webCounter : Bool
  faultInput : Bool
  deriving DecidableEq, Repr

/-- The stop causes (section 9.4). -/
inductive StopCause
  | hostStop
  | reelOut
  | bridgeEmpty
  | stackJam
  | knifeFault
  | trackingLost
  | linkLost
  | faultStop
  | trip
  deriving DecidableEq, Repr

/-- The subject types (R173). -/
inductive SubjectType
  | part
  | line
  | link
  | map
  | counter
  | bridge
  | spliceStation
  | heatZone
  | glueStation
  | driveOutput
  | stage
  | faultInput
  | slitterStation
  | lane
  | stacker
  | order
  deriving DecidableEq, Repr

/-- A subject: a type and a number (R173). -/
structure Subject where
  type : SubjectType
  number : Nat
  deriving DecidableEq, Repr

/-- The stop record (section 9.4, R153): active or last. -/
structure StopRecord where
  active : Bool
  ruling : Option StopCause
  detail : Option Subject
  position : Option Nat
  latest : StopCause
  latestDetail : Option Subject
  count : Nat
  deriving DecidableEq, Repr

/-- The entries of the ceiling table (section 9.6). -/
inductive Entry
  | request
  | grade
  | splice
  | setup
  | bond
  | bridge
  | knife
  | stacker
  | hold
  | stop
  deriving DecidableEq, Repr

/-- The ceiling table (section 9.6), in m/min; REQUEST is always present. -/
structure Ceiling where
  request : Nat
  grade : Option Nat
  splice : Option Nat
  setup : Option Nat
  bond : Option Nat
  bridge : Option Nat
  knife : Option Nat
  stacker : Option Nat
  hold : Option Nat
  stop : Option Nat
  deriving DecidableEq, Repr

/-- The reset causes (R160). -/
inductive ResetCause
  | powerOn
  | resetLine
  | restart
  deriving DecidableEq, Repr

/-- The line supervisor. -/
structure Lsv where
  line : LineState
  holds : HoldSet
  stopRec : Option StopRecord
  ceiling : Ceiling
  speedRef : Nat
  stopped : Nat
  startFlag : Bool
  resetCause : ResetCause
  accel : Nat
  decel : Nat
  thread : Nat
  deriving DecidableEq, Repr

/-! ### LNK (chapter 10) -/

/-- A command or a reply as the queues hold it: tag, code and payload (R172). -/
structure Frame where
  tag : Nat
  code : Nat
  payload : List Byte
  deriving DecidableEq, Repr

/-- The receiver's two states (R163); COLLECT holds the characters received behind the lead. -/
inductive Receiver
  | hunt
  | collect (got : List Byte)
  deriving DecidableEq, Repr

/-- The receive line: carrying characters, in a break that has not reached 2 ms (R164), or ignored until it returns high (R165). -/
inductive RxLine
  | up
  | inBreak
  | ignored
  deriving DecidableEq, Repr

/-- The reasons of a receive error (R164). -/
inductive LinkError
  | framing
  | length
  | check
  | kind
  | part
  deriving DecidableEq, Repr

/-- The error counts by reason (R164). -/
structure ErrorCounts where
  framing : Nat
  length : Nat
  check : Nat
  kind : Nat
  part : Nat
  deriving DecidableEq, Repr

/-- The notice kinds (R174). -/
inductive NoticeKind
  | driveFault
  | stageFault
  | inputTrip
  | partStarted
  | lineState
  | counterFault
  | linkStale
  | mapFull
  | markLate
  | reelOut
  | spliceSuspect
  | spliceBlocked
  | zoneFault
  | glueFault
  | setupFault
  | setupLost
  | knifeSkipped
  | stackerFault
  | orderStaged
  | orderLocked
  | orderDeferred
  | orderStarted
  | orderDone
  | orderShort
  | spliceDone
  | spliceAborted
  | reelLoaded
  | reelLow
  | stackReady
  | countMismatch
  | speedLimit
  | bridgeHigh
  | linkError
  | linkOverflow
  deriving DecidableEq, Repr

/-- A pending entry of the notice table (R169): kind, subject, count and latest detail. -/
structure NoticeEntry where
  kind : NoticeKind
  subject : Subject
  count : Nat
  detail : List Byte
  deriving DecidableEq, Repr

/-- The frame being sent (R168, R169): a reply, which keeps its place in the reply queue, or a notice with its count and detail as they
stood when it was begun and the raises of its entry taken since. -/
inductive Sending
  | reply (frame : Frame)
  | notice (entry : NoticeEntry) (raises : Nat)
  deriving DecidableEq, Repr

/-- The link port. `notices` holds the pending entries in pending order (assumption log 16); `timeout` is in tenths of a second; `cts`
is the clear-to-send level. -/
structure Lnk where
  receiver : Receiver
  rxLine : RxLine
  errors : ErrorCounts
  overflow : Nat
  cmdQueue : List Frame
  replyQueue : List Frame
  sending : Option Sending
  notices : List NoticeEntry
  timeout : Nat
  expiries : Nat
  cts : Bool
  deriving DecidableEq, Repr

/-! ### The part -/

/-- The state of the part. `held` is the RESET terminal held low (R160); `fresh` is the model's own count of free values taken
(assumption log 1); `pending` is the queue of commands waiting, first in first out. -/
structure State where
  lcu : Lcu
  map : WebMap
  obk : Obk
  spc : Spc
  bnd : Bnd
  dst : Dst
  dec : Dec
  stk : Stk
  lsv : Lsv
  lnk : Lnk
  held : Bool
  fresh : Nat
  pending : List Instr
  deriving DecidableEq, Repr

/-- The faults of the model: none. The spec names no condition that stops the part; what it calls faults are effects on State. -/
inductive Fault
  deriving DecidableEq, Repr

/-- The refusals of the model. -/
inductive Refusal
  /-- Raised by an arm of `exec` whose command has no meaning yet; no arm raises it. Safe: the machine stops. -/
  | notModelled (mnemonic : String)
  deriving DecidableEq, Repr

/-! ### Reset values -/

/-- A counter after power-on (R18), with the phases at its terminals as reference (R2). -/
def Counter.initial (p : Phase) : Counter :=
  { refPhase := p, c := 0, debt := 0, tally := 0, tallyBase := 0, scale := 10000, faulted := false, faultRecord := none, faultCount := 0 }

/-- The LCU after power-on (R18), given its terminals. -/
def Lcu.initial (phases : Vector Phase 4) (webPresent : Vector Bool 3) (knifeIndex : Vector Bool 2) : Lcu :=
  { counters := phases.map Counter.initial
    phases := phases
    webPresent := webPresent
    joints := Vector.replicate 7 { armed := false, record := none }
    eyes := Vector.replicate 2 { count := 0, edge := .rising }
    knifeIndex := knifeIndex
    measured := 0
    sampleBase := 0
    geometry := { slit := 0, cut := 0, rej := 0, stk1 := 0, stk2 := 0 }
    walls := none
    width := 0 }

/-- A bridge after power-on (R38). -/
def Bridge.initial : Bridge :=
  { content := 0, entries := [], shortfall := 0, slow := 100000, high := 2000000, crawl := 80 }

/-- The MAP after power-on (R38). -/
def WebMap.initial : WebMap :=
  { marks := [], changeCount := 0, lostMarks := 0, ra := none, lostZone := Vector.replicate 12 false
    lostGlue := Vector.replicate 4 false, bridges := Vector.replicate 3 Bridge.initial }

/-- The OBK after power-on (R62). -/
def Obk.initial : Obk :=
  { orders := [], endStatus := .none, pendingIncoming := none, deferral := false, stray := 0
    lockMargin := 100000, deferStep := 50000, maxDeferral := 1000000, setupCrawl := 60 }

/-- A splice station after power-on (R79), given its speed-match terminal. -/
def SpliceStation.initial (speedMatch : Bool) : SpliceStation :=
  { settings := none, activeArm := .a, activeReel := none, standbyReel := none, phase := .idle, force := false, firePos := none
    windowEnd := none, accelerate := false, pulse := false, speedMatch := speedMatch, lastSplice := none
    confirmed := 0, taken := 0, failed := 0, notMatched := 0 }

/-- The SPC after power-on (R79), given its speed-match terminals. -/
def Spc.initial (speedMatch : Vector Bool 7) : Spc :=
  { stations := speedMatch.map SpliceStation.initial, jb := 10000, ja := 10000 }

/-- A heat zone after power-on (R101); its setpoint is the standby setpoint (log 21). -/
def Zone.initial : Zone :=
  { settings := none, enabled := false, state := .off, sensor := false, output := false, stale := 0, latest := .absent
    setpoint := 1400, feedForward := 0, demand := 0, claim := none, span := none }

/-- A glue station after power-on (R101); it has no settings, so its rules are those of no move (log 6). -/
def GlueStation.initial : GlueStation :=
  { settings := none, rules := { tolerance := 0, moveLimit := 0, stopMode := .brake }, state := .off
    timeout := false, output := false, sensor := false, target := 0, latest := .absent, lastValid := none, stale := 0, levelA := .off, levelB := .off, keepWet := none, rollRun := false, turnTime := 0
    span := none }

/-- The BND after power-on (R101). -/
def Bnd.initial : Bnd :=
  { grades := Vector.replicate 32 none, zones := Vector.replicate 12 Zone.initial, glues := Vector.replicate 4 GlueStation.initial
    heatLead := 50000, glueLead := 20000, standby := 1400, zeroSpeed := 0 }

/-- A drive output after power-on (R117), given the answers of its senses. -/
def Output.initial (overCurrent openSense : Bool) : Output :=
  { mode := .off, generator := none, passive := false, trip := false, openLoad := false, tripCount := 0
    overCurrent := overCurrent, openSense := openSense }

/-- Fault input f after power-on (R117), given its level: FI1 is active LOW on all outputs with TRIP, the others HIGH, none, NONE. -/
def FaultInput.initial (f : InputId) (level : Bool) : FaultInput :=
  { activeHigh := f != 0
    mask := if f = 0 then 0xFFFF#16 else 0#16
    action := if f = 0 then .trip else .none
    level := level, latched := false, position := 0, count := 0 }

/-- The DST after power-on (R117), given its senses, the stage monitor's reports and the fault inputs' levels. -/
def Dst.initial (overCurrent openSense : Vector Bool 16) (supply : Supply) (warning : Bool) (levels : Vector Bool 4) : Dst :=
  { outputs := Vector.zipWith Output.initial overCurrent openSense
    genFreq := Vector.replicate 8 250
    supply := supply
    warning := warning
    thermal := false
    inputs := Vector.zipWith FaultInput.initial #v[0, 1, 2, 3] levels }

/-- A slitter-scorer station after power-on (R133), given its in-position terminal. -/
def SlitStation.initial (inPosition : Bool) : SlitStation :=
  { state := .idle, setup := none, faultCount := 0, inPosition := inPosition, heads := .nothing }

/-- A cut-off lane after power-on (R133). -/
def CutLane.initial : CutLane :=
  { mode := .idle, order := none, sheetLen := 0, pieceStart := none, base := none, scrapEnd := none, resume := none
    sheetPiece := false, skipped := false, prevReject := false, cycling := false, skips := 0, fire := false, good := 0
    handed := [], claim := none }

/-- The DEC after power-on (R133), given its in-position terminals. -/
def Dec.initial (inPosition : Vector Bool 2) : Dec :=
  { stations := inPosition.map SlitStation.initial
    lanes := Vector.replicate 2 CutLane.initial
    queues := Vector.replicate 2 { accepted := [], unjudged := [] }
    scrapLen := 5000, zoneMult := 2, gateSwitch := 3000, rates := #v[300, 300], changeLead := 300000, posLimit := 60 }

/-- A stacker after power-on (R147), given its terminals. -/
def Stacker.initial (conveyorReady ejectDone : Bool) : Stacker :=
  { state := .stacking, tag := none, count := 0, partialFlag := false, holdback := [], records := [], eject := false
    conveyorReady := conveyorReady, ejectDone := ejectDone, warn := 30, crawl := 60, ejectLimit := 15
    timerLimit := 0, tolerance := 1 }

/-- The STK after power-on (R147), given the stackers' terminals. -/
def Stk.initial (conveyorReady ejectDone : Vector Bool 2) : Stk :=
  { stackers := Vector.zipWith Stacker.initial conveyorReady ejectDone
    gates := Vector.replicate 2 .reject, scrapPieces := 0, scrapLength := 0 }

/-- The empty hold-cause set. -/
def HoldSet.empty : HoldSet :=
  { linkStale := false, setupOverdue := false, spliceSuspect := false, webCounter := false, faultInput := false }

/-- The ceiling table of a part in SETUP with no other claim (R162, section 9.6). -/
def Ceiling.initial : Ceiling :=
  { request := 0, grade := none, splice := none, setup := none, bond := none, bridge := none, knife := none, stacker := none
    hold := none, stop := some 0 }

/-- The LSV after power-on or reset line (R162). -/
def Lsv.initial (cause : ResetCause) : Lsv :=
  { line := .setup, holds := .empty, stopRec := none, ceiling := .initial, speedRef := 0, stopped := 0, startFlag := true
    resetCause := cause, accel := 10, decel := 20, thread := 30 }

/-- The entry PART_STARTED as power-on and reset line leave it (R160, R165): count 1, the reset cause as detail. -/
def NoticeEntry.partStarted (cause : ResetCause) : NoticeEntry :=
  { kind := .partStarted, subject := ⟨.part, 0⟩, count := 1, detail := [BitVec.ofNat 8 cause.ctorIdx] }

/-- The LNK after power-on or reset line (R165, R171), given its terminals. -/
def Lnk.initial (cause : ResetCause) (rxLine : RxLine) (cts : Bool) : Lnk :=
  { receiver := .hunt, rxLine := rxLine, errors := ⟨0, 0, 0, 0, 0⟩, overflow := 0, cmdQueue := [], replyQueue := [], sending := none
    notices := [.partStarted cause], timeout := 30, expiries := 0, cts := cts }

/-- The part right after power-on with every input terminal inactive (the terminals: assumption log 6). No fault input is active, so
none latches (R117), and the transmitter has not yet begun the PART_STARTED notice (log 5). -/
def State.reset : State :=
  { lcu := .initial (Vector.replicate 4 ⟨false, false⟩) (Vector.replicate 3 false) (Vector.replicate 2 false)
    map := .initial
    obk := .initial
    spc := .initial (Vector.replicate 7 false)
    bnd := .initial
    dst := .initial (Vector.replicate 16 false) (Vector.replicate 16 false) .normal false #v[true, false, false, false]
    dec := .initial (Vector.replicate 2 false)
    stk := .initial (Vector.replicate 2 false) (Vector.replicate 2 false)
    lsv := .initial .powerOn
    lnk := .initial .powerOn .up true
    held := false
    fresh := 0
    pending := [] }

end Sys2Proof.Machine
end

