-- ==== Sys2Proof/Machine/Ops.lean ====
section
/-! DEFINITION. Shared operations: access to the parts of State, message bytes, notices, the ceiling table, and the web map's requests. -/

namespace Sys2Proof.Machine

/-! ### Access -/

/-- The vector with element `i` replaced by `f` of it. -/
def modifyAt {α : Type} {n : Nat} (v : Vector α n) (i : Fin n) (f : α → α) : Vector α n :=
  v.set i.val (f (v[i.val]'i.isLt)) i.isLt

/-- One more, holding at `cap`. -/
def countUp (cap n : Nat) : Nat := min (n + 1) cap

/-- A counter's position in 0.1 mm (R3). -/
def Counter.pos (k : Counter) : Nat := k.c * 10000 / k.scale

def State.counter (s : State) (i : CounterId) : Counter := s.lcu.counters[i]

def State.onCounter (s : State) (i : CounterId) (f : Counter → Counter) : State :=
  { s with lcu := { s.lcu with counters := modifyAt s.lcu.counters i f } }

/-- The LINE position. -/
def State.linePos (s : State) : Nat := (s.counter 0).pos

/-- The SFk position. -/
def State.webPos (s : State) (k : WebId) : Nat := (s.counter k.succ).pos

def State.onJoint (s : State) (i : SpliceId) (f : JointChannel → JointChannel) : State :=
  { s with lcu := { s.lcu with joints := modifyAt s.lcu.joints i f } }

def State.onEye (s : State) (j : StackerId) (f : SheetEye → SheetEye) : State :=
  { s with lcu := { s.lcu with eyes := modifyAt s.lcu.eyes j f } }

def State.bridge (s : State) (k : WebId) : Bridge := s.map.bridges[k]

def State.onBridge (s : State) (k : WebId) (f : Bridge → Bridge) : State :=
  { s with map := { s.map with bridges := modifyAt s.map.bridges k f } }

def State.splice (s : State) (i : SpliceId) : SpliceStation := s.spc.stations[i]

def State.onSplice (s : State) (i : SpliceId) (f : SpliceStation → SpliceStation) : State :=
  { s with spc := { s.spc with stations := modifyAt s.spc.stations i f } }

def State.zone (s : State) (n : ZoneId) : Zone := s.bnd.zones[n]

def State.onZone (s : State) (n : ZoneId) (f : Zone → Zone) : State :=
  { s with bnd := { s.bnd with zones := modifyAt s.bnd.zones n f } }

def State.glue (s : State) (k : GlueId) : GlueStation := s.bnd.glues[k]

def State.onGlue (s : State) (k : GlueId) (f : GlueStation → GlueStation) : State :=
  { s with bnd := { s.bnd with glues := modifyAt s.bnd.glues k f } }

def State.output (s : State) (o : OutputId) : Output := s.dst.outputs[o]

def State.onOutput (s : State) (o : OutputId) (f : Output → Output) : State :=
  { s with dst := { s.dst with outputs := modifyAt s.dst.outputs o f } }

def State.input (s : State) (i : InputId) : FaultInput := s.dst.inputs[i]

def State.onInput (s : State) (i : InputId) (f : FaultInput → FaultInput) : State :=
  { s with dst := { s.dst with inputs := modifyAt s.dst.inputs i f } }

def State.slit (s : State) (i : SlitId) : SlitStation := s.dec.stations[i]

def State.onSlit (s : State) (i : SlitId) (f : SlitStation → SlitStation) : State :=
  { s with dec := { s.dec with stations := modifyAt s.dec.stations i f } }

def State.lane (s : State) (j : LaneId) : CutLane := s.dec.lanes[j]

def State.onLane (s : State) (j : LaneId) (f : CutLane → CutLane) : State :=
  { s with dec := { s.dec with lanes := modifyAt s.dec.lanes j f } }

def State.queue (s : State) (j : LaneId) : SheetQueue := s.dec.queues[j]

def State.onQueue (s : State) (j : LaneId) (f : SheetQueue → SheetQueue) : State :=
  { s with dec := { s.dec with queues := modifyAt s.dec.queues j f } }

def State.stacker (s : State) (j : StackerId) : Stacker := s.stk.stackers[j]

def State.onStacker (s : State) (j : StackerId) (f : Stacker → Stacker) : State :=
  { s with stk := { s.stk with stackers := modifyAt s.stk.stackers j f } }

def State.setGate (s : State) (j : LaneId) (g : Gate) : State :=
  { s with stk := { s.stk with gates := modifyAt s.stk.gates j fun _ => g } }

/-- All indices of a bounded kind, in rising order. -/
def allIds (n : Nat) : List (Fin n) := List.finRange n

/-- `f` done at every index in rising order. -/
def State.forAll (s : State) (n : Nat) (f : State → Fin n → State) : State := (allIds n).foldl f s

/-! ### What the line build puts in use (R15, R16) -/

/-- The wall count, 0 while unset. -/
def State.walls (s : State) : Nat := s.lcu.walls.getD 0

def State.webInUse (s : State) (k : WebId) : Bool := decide (k.val + 1 ≤ s.walls)

def State.counterInUse (s : State) (i : CounterId) : Bool := decide (i.val ≤ s.walls)

def State.spliceInUse (s : State) (i : SpliceId) : Bool :=
  if i = 6 then decide (1 ≤ s.walls) else decide (i.val / 2 + 1 ≤ s.walls)

def State.glueInUse (s : State) (k : GlueId) : Bool :=
  if k = 3 then decide (1 ≤ s.walls) else decide (k.val + 1 ≤ s.walls)

/-- The single-face web a splice station feeds; S7 feeds the double-backer liner (chapter 4). -/
def spliceWeb (i : SpliceId) : Option WebId :=
  if i.val < 2 then some 0 else if i.val < 4 then some 1 else if i.val < 6 then some 2 else none

/-- A splice station's web counter (R10): SF1 for S1 and S2, SF2 for S3 and S4, SF3 for S5 and S6, LINE for S7. -/
def spliceCounter (i : SpliceId) : CounterId :=
  match spliceWeb i with
  | some k => k.succ
  | none => 0

/-- The position of a splice station's web counter. -/
def State.splicePos (s : State) (i : SpliceId) : Nat := (s.counter (spliceCounter i)).pos

/-- The single-face web whose glue point GS1 to GS3 stands at; GS4 stands at the merge point. -/
def glueWeb (k : GlueId) : Option WebId :=
  if k = 0 then some 0 else if k = 1 then some 1 else if k = 2 then some 2 else none

/-! ### Geometry -/

def State.dSlit (s : State) : Nat := s.lcu.geometry.slit

def State.dCut (s : State) : Nat := s.lcu.geometry.cut

def State.dRej (s : State) : Nat := s.lcu.geometry.rej

/-- The distance of stacker j. -/
def State.dStk (s : State) (j : StackerId) : Nat := if j = 0 then s.lcu.geometry.stk1 else s.lcu.geometry.stk2

/-- D_LAST, the greater of the two stacker distances. -/
def State.dLast (s : State) : Nat := max s.lcu.geometry.stk1 s.lcu.geometry.stk2

/-- The change zone length ZC = m × LS (section 7.2). -/
def State.zc (s : State) : Nat := s.dec.zoneMult * s.dec.scrapLen

/-! ### Message bytes (R172) -/

/-- An absent number: every byte 0xFF. -/
def absentBytes (w : Nat) : List Byte := List.replicate w 0xFF#8

/-- An optional number in `w` bytes. -/
def optBytes (w : Nat) : Option Nat → List Byte
  | some v => natBytes w v
  | none => absentBytes w

def flagBytes (b : Bool) : List Byte := natBytes 1 b.toNat

/-- A list preceded by its count byte. -/
def listBytes {α : Type} (f : α → List Byte) (l : List α) : List Byte := natBytes 1 l.length ++ l.flatMap f

/-- A subject: type byte and two-byte number (R173). -/
def Subject.bytes (x : Subject) : List Byte := natBytes 1 x.type.ctorIdx ++ natBytes 2 x.number

/-- A subject, or absent. -/
def optSubjectBytes : Option Subject → List Byte
  | some x => x.bytes
  | none => absentBytes 3

/-- A set of coded items as a bit set of `w` bytes: the item coded c has weight 2^c (R172). -/
def bitSetBytes (w : Nat) (bits : List Bool) : List Byte :=
  natBytes w (bits.foldr (fun b acc => b.toNat + 2 * acc) 0)

/-! ### Notices (R169) -/

/-- A raise of an entry: one more count, holding at 255, and the new detail; a new entry joins the end of the pending order. -/
def raiseIn (k : NoticeKind) (x : Subject) (detail : List Byte) : List NoticeEntry → List NoticeEntry
  | [] => [{ kind := k, subject := x, count := 1, detail := detail }]
  | e :: es =>
    if e.kind = k ∧ e.subject = x then { e with count := countUp 255 e.count, detail := detail } :: es
    else e :: raiseIn k x detail es

/-- The raises counted by the entry whose frame is being sent (R169, Send). -/
def raiseInSending (k : NoticeKind) (x : Subject) : Option Sending → Option Sending
  | some (.notice e r) => some (.notice e (if e.kind = k ∧ e.subject = x then countUp 255 r else r))
  | other => other

/-- Raise a notice (R169). -/
def State.raise (s : State) (k : NoticeKind) (x : Subject) (detail : List Byte) : State :=
  { s with lnk := { s.lnk with notices := raiseIn k x detail s.lnk.notices, sending := raiseInSending k x s.lnk.sending } }

/-- The subjects that have number 0. -/
def lineSubject : Subject := ⟨.line, 0⟩

def linkSubject : Subject := ⟨.link, 0⟩

/-! ### The ceiling table (R157) -/

/-- The value of an entry, or absent. -/
def Ceiling.get (c : Ceiling) : Entry → Option Nat
  | .request => some c.request
  | .grade => c.grade
  | .splice => c.splice
  | .setup => c.setup
  | .bond => c.bond
  | .bridge => c.bridge
  | .knife => c.knife
  | .stacker => c.stacker
  | .hold => c.hold
  | .stop => c.stop

/-- The table with an entry set or made absent; REQUEST is always present and keeps its value when none is given. -/
def Ceiling.put (c : Ceiling) (e : Entry) (v : Option Nat) : Ceiling :=
  match e with
  | .request => { c with request := v.getD c.request }
  | .grade => { c with grade := v }
  | .splice => { c with splice := v }
  | .setup => { c with setup := v }
  | .bond => { c with bond := v }
  | .bridge => { c with bridge := v }
  | .knife => { c with knife := v }
  | .stacker => { c with stacker := v }
  | .hold => { c with hold := v }
  | .stop => { c with stop := v }

/-- The entries in the order of the table of section 9.6. -/
def allEntries : List Entry := [.request, .grade, .splice, .setup, .bond, .bridge, .knife, .stacker, .hold, .stop]

/-- The present entries with their values, in the order of the table. -/
def Ceiling.present (c : Ceiling) : List (Entry × Nat) := allEntries.filterMap fun e => (c.get e).map fun v => (e, v)

/-- The speed target: the least value among the present entries (R157). -/
def Ceiling.target (c : Ceiling) : Nat := c.present.foldl (fun acc p => min acc p.2) c.request

/-- The limiting entry: the first in table order whose value is the target (R157). -/
def Ceiling.limiting (c : Ceiling) : Entry :=
  match c.present.find? fun p => p.2 = c.target with
  | some p => p.1
  | none => .request

/-- The table replaced; a change of the limiting entry raises SPEED_LIMIT with the entry and the target (R157). -/
def State.setCeiling (s : State) (c : Ceiling) : State :=
  let s' : State := { s with lsv := { s.lsv with ceiling := c } }
  if c.limiting = s.lsv.ceiling.limiting then s'
  else s'.raise .speedLimit lineSubject (natBytes 1 c.limiting.ctorIdx ++ natBytes 2 c.target)

/-- An entry set by its owner, or made absent. -/
def State.setEntry (s : State) (e : Entry) (v : Option Nat) : State := s.setCeiling (s.lsv.ceiling.put e v)

/-- The least of a list of claims, or none. -/
def leastClaim : List (Option Nat) → Option Nat
  | [] => none
  | none :: cs => leastClaim cs
  | some v :: cs =>
    match leastClaim cs with
    | none => some v
    | some w => some (min v w)

/-! ### The order book's records -/

def State.findOrder (s : State) (tag : Nat) : Option Order := s.obk.orders.find? fun o => o.tag = tag

/-- The record of a tag changed. -/
def State.onOrder (s : State) (tag : Nat) (f : Order → Order) : State :=
  { s with obk := { s.obk with orders := s.obk.orders.map fun o => if o.tag = tag then f o else o } }

/-- The record of a tag taken out of the book. -/
def State.dropOrder (s : State) (tag : Nat) : State :=
  { s with obk := { s.obk with orders := s.obk.orders.filter fun o => o.tag ≠ tag } }

/-- The first order in a state. -/
def State.orderIn (s : State) (p : OrderPhase) : Option Order := s.obk.orders.find? fun o => o.phase = p

def State.runningOrder (s : State) : Option Order := s.orderIn .running

def State.stagedOrder (s : State) : Option Order := s.orderIn .staged

/-- The lane record of lane j, if the order has one. -/
def Order.lane (o : Order) (j : LaneId) : Option LaneSpec := if j = 0 then some o.lane1 else o.lane2

/-- An order lane's run-time fields changed. -/
def State.onRun (s : State) (tag : Nat) (j : LaneId) (f : LaneRun → LaneRun) : State :=
  s.onOrder tag fun o => { o with runs := modifyAt o.runs j f }

/-- An order lane's tally changed. -/
def State.onTally (s : State) (tag : Nat) (j : LaneId) (f : Tally → Tally) : State :=
  s.onRun tag j fun r => { r with tally := f r.tally }

/-! ### Reading the web map (R24, R33, R34) -/

def Mark.isChange (m : Mark) : Bool :=
  match m.body with
  | .orderChange .. => true
  | _ => false

def Mark.isUnlockedChange (m : Mark) : Bool :=
  match m.body with
  | .orderChange _ _ locked => !locked
  | _ => false

/-- An open span of the given source. -/
def Mark.isOpenSpan (m : Mark) (x : BondSource) : Bool :=
  match m.body with
  | .bondRisk y => m.finish.isNone && decide (y = x)
  | _ => false

/-- The glue point of a station: LINE for GS4, LINE + B_k for GSk (R95). -/
def State.gluePoint (s : State) (k : GlueId) : Nat :=
  match glueWeb k with
  | some w => s.linePos + (s.bridge w).content
  | none => s.linePos

/-- D_in of a zone, 0 while the zone is unset. -/
def State.zoneIn (s : State) (n : ZoneId) : Nat :=
  match (s.zone n).settings with
  | some z => z.dIn
  | none => 0

/-- The growth point of a source (R24). -/
def State.growthPoint (s : State) : BondSource → Nat
  | .zone n => s.linePos - s.zoneIn n
  | .glue k => s.gluePoint k

/-- A mark's end, or the current end of an open span: the growth point, never less than the start (R24). -/
def State.markEnd (s : State) (m : Mark) : Nat :=
  match m.finish with
  | some e => e
  | none =>
    match m.body with
    | .bondRisk x => max m.start (s.growthPoint x)
    | _ => m.start

/-- The covering lookup for [q0, q1) (R33). -/
def State.covering (s : State) (q0 q1 : Nat) : List Mark :=
  s.map.marks.filter fun m => decide (m.start < q1) && decide (q0 ≤ s.markEnd m)

/-- The answers of the grade lookup, in the order of R34's table (log 12). -/
inductive GradeAnswer
  | changeZone (g : Nat)
  | grade (g : Nat)
  | none
  deriving DecidableEq, Repr

/-- The grade an answer carries; a change-zone answer is used as its grade (R81). -/
def GradeAnswer.grade? : GradeAnswer → Option Nat
  | .none => Option.none
  | .grade g => some g
  | .changeZone g => some g

/-- The grade of the order of a tag, none when the tag is not in the book (R34). -/
def State.gradeOf (s : State) (tag : Nat) : GradeAnswer :=
  match s.findOrder tag with
  | some o => .grade o.grade
  | none => .none

/-- The grade lookup at merge position p (R34). -/
def State.gradeLookup (s : State) (p : Nat) : GradeAnswer :=
  match (s.map.marks.filter fun m => m.isChange && decide (m.start ≤ p)).getLast? with
  | some m =>
    match m.body with
    | .orderChange out incoming _ =>
      if p < m.start + s.zc then
        match s.gradeOf out with
        | .grade g => .changeZone g
        | other => other
      else
        match incoming with
        | some t => s.gradeOf t
        | none => s.gradeOf out
    | _ => .none
  | none =>
    match s.runningOrder with
    | some o => .grade o.grade
    | none => .none

/-- A defined grade's entry. -/
def State.gradeEntry (s : State) (g : Nat) : Option Grade :=
  if h : g < 32 then s.bnd.grades[g] else none

/-- The entry of the grade that the lookup answers at p. -/
def State.gradeAt (s : State) (p : Nat) : Option Grade :=
  match (s.gradeLookup p).grade? with
  | some g => s.gradeEntry g
  | none => none

/-! ### Requests to the web map (R20 to R25) -/

/-- A mark placed after every mark whose start is not above its own (R20). -/
def insertSorted (m : Mark) : List Mark → List Mark
  | [] => [m]
  | x :: xs => if m.start < x.start then m :: x :: xs else x :: insertSorted m xs

/-- The map with new marks and one more change (R20). -/
def State.setMarks (s : State) (ms : List Mark) : State :=
  { s with map := { s.map with marks := ms, changeCount := (s.map.changeCount + 1) % 65536 } }

/-- The map with the lost-mark count one higher, holding at 65,535 (R21). -/
def State.countLostMark (s : State) : State :=
  { s with map := { s.map with lostMarks := countUp 65535 s.map.lostMarks } }

/-- RA lowered to p when it is absent or above p; a change of RA raises the map change count (R20, R21). -/
def State.lowerRa (s : State) (p : Nat) : State :=
  match s.map.ra with
  | some r =>
    if p < r then
      { s with map := { s.map with ra := some p, changeCount := (s.map.changeCount + 1) % 65536 } }
    else s
  | none => { s with map := { s.map with ra := some p, changeCount := (s.map.changeCount + 1) % 65536 } }

/-- The lost-span flag of a source set or cleared (R22). -/
def State.setLostSpan (s : State) (x : BondSource) (b : Bool) : State :=
  match x with
  | .zone n => { s with map := { s.map with lostZone := modifyAt s.map.lostZone n fun _ => b } }
  | .glue k => { s with map := { s.map with lostGlue := modifyAt s.map.lostGlue k fun _ => b } }

def State.lostSpan (s : State) : BondSource → Bool
  | .zone n => s.map.lostZone[n]
  | .glue k => s.map.lostGlue[k]

/-- The code of a mark's kind (R172). -/
def MarkBody.kindCode : MarkBody → Nat
  | .joint .. => 0
  | .bondRisk _ => 1
  | .orderChange .. => 2
  | .hostMark _ => 3
  | .restart => 4

/-- The number of a bond source: zone n as n, glue station k as 16 + k (R175). -/
def BondSource.number : BondSource → Nat
  | .zone n => n.val + 1
  | .glue k => 16 + (k.val + 1)

/-- The source of a mark as two bytes (R175). -/
def MarkBody.source : MarkBody → Nat
  | .joint i _ => i.val + 1
  | .bondRisk x => x.number
  | .orderChange out _ _ => out
  | .hostMark _ => 0
  | .restart => 0

/-- How an insertion request is answered (R21). -/
inductive InsertAnswer
  | stored
  | late
  | full
  | lost
  deriving DecidableEq, Repr

/-- A mark that a full map loses: RA stands in for it, and an open span sets its source's lost-span flag (R21 step 4). -/
def State.loseMark (s : State) (m : Mark) : State :=
  let s1 := (s.lowerRa m.start).countLostMark
  let s2 := s1.raise .mapFull ⟨.map, 0⟩
    (natBytes 1 m.body.kindCode ++ natBytes 2 m.body.source ++ natBytes 6 m.start ++ optBytes 6 s1.map.ra)
  match m.body with
  | .bondRisk x => if m.finish.isNone then s2.setLostSpan x true else s2
  | _ => s2

/-- An insertion request (R21). -/
def State.insertMark (s : State) (m : Mark) : State × InsertAnswer :=
  match m.finish with
  | some e =>
    if e + s.dLast ≤ s.linePos then
      ((s.countLostMark).raise .markLate ⟨.map, 0⟩
        (natBytes 1 m.body.kindCode ++ natBytes 2 m.body.source ++ natBytes 6 m.start ++ natBytes 6 e), .late)
    else if s.map.marks.length < Config.mapCapacity then (s.setMarks (insertSorted m s.map.marks), .stored)
    else if m.isChange then (s, .full)
    else (s.loseMark m, .lost)
  | none =>
    if s.map.marks.length < Config.mapCapacity then (s.setMarks (insertSorted m s.map.marks), .stored)
    else if m.isChange then (s, .full)
    else (s.loseMark m, .lost)

/-- A source opens a span at a start (R24). -/
def State.openSpan (s : State) (x : BondSource) (start : Nat) : State :=
  (s.insertMark { start := start, finish := none, body := .bondRisk x }).1

/-- The first open span of a source given its end, not below its start (R24). -/
def closeFirst (x : BondSource) (e : Nat) : List Mark → List Mark
  | [] => []
  | m :: ms => if m.isOpenSpan x then { m with finish := some (max m.start e) } :: ms else m :: closeFirst x e ms

/-- A close request: the open span of the source gets its end; with none in the map, the lost-span flag is cleared if set (R22, R24). -/
def State.closeSpan (s : State) (x : BondSource) (e : Nat) : State :=
  if s.map.marks.any (·.isOpenSpan x) then s.setMarks (closeFirst x e s.map.marks)
  else if s.lostSpan x then s.setLostSpan x false
  else s

/-- The first mark that satisfies `p` taken out of a list, with the list left. -/
def takeFirst (p : Mark → Bool) : List Mark → Option (Mark × List Mark)
  | [] => none
  | m :: ms =>
    if p m then some (m, ms)
    else
      match takeFirst p ms with
      | some (x, rest) => some (x, m :: rest)
      | none => none

/-- The list with its unlocked ORDER_CHANGE mark changed in its place (R25). -/
def changeUnlocked (f : MarkBody → MarkBody) : List Mark → List Mark
  | [] => []
  | m :: ms => if m.isUnlockedChange then { m with body := f m.body } :: ms else m :: changeUnlocked f ms

/-- A request that changes the unlocked ORDER_CHANGE mark counts one change; one that changes nothing counts none (R20, R25). -/
def State.onUnlocked (s : State) (f : MarkBody → MarkBody) : State :=
  if changeUnlocked f s.map.marks = s.map.marks then s else s.setMarks (changeUnlocked f s.map.marks)

/-- Lock the unlocked ORDER_CHANGE mark (R25). -/
def State.lockMark (s : State) : State :=
  s.onUnlocked fun
    | .orderChange out incoming _ => .orderChange out incoming true
    | other => other

/-- Set or clear the incoming tag of the unlocked ORDER_CHANGE mark (R25). -/
def State.setIncoming (s : State) (t : Option Nat) : State :=
  s.onUnlocked fun
    | .orderChange out _ locked => .orderChange out t locked
    | other => other

/-- Move the unlocked ORDER_CHANGE mark to p: it leaves its place and is placed again (R20, R25). -/
def State.moveMark (s : State) (p : Nat) : State :=
  match takeFirst (·.isUnlockedChange) s.map.marks with
  | some (m, rest) => s.setMarks (insertSorted { m with start := p, finish := some (p + s.zc) } rest)
  | none => s

/-- X_k, web k's E-coordinate at the merge point (section 2.5). -/
def State.mergeCoord (s : State) (k : WebId) : Nat := s.webPos k - (s.bridge k).content

/-- A bridge entry becomes a JOINT mark about m = LINE − (X − e) and is inserted; a start, or an end (log 34), that this would make
negative is held at 0 (R19, R30). -/
def State.transferEntry (s : State) (x : Nat) (b : BridgeEntry) : State × InsertAnswer :=
  s.insertMark
    { start := s.linePos + b.e - (x + b.before), finish := some (s.linePos + b.e + b.after - x), body := .joint b.station b.suspect }

/-- Transfers of due entries, in list order, with the number lost to a full map. -/
def State.transferList (s : State) (x : Nat) : List BridgeEntry → State × Nat
  | [] => (s, 0)
  | b :: bs =>
    let (s1, a) := s.transferEntry x b
    let (s2, n) := s1.transferList x bs
    (s2, if a = .lost then n + 1 else n)

/-- Every entry of bridge list k with e ≤ X_k is transferred, from the head (R30); the numbers transferred and lost. -/
def State.transferDue (s : State) (k : WebId) : State × Nat × Nat :=
  let x := s.mergeCoord k
  let due := (s.bridge k).entries.takeWhile fun b => decide (b.e ≤ x)
  let s1 := s.onBridge k fun b => { b with entries := b.entries.drop due.length }
  let (s2, lost) := s1.transferList x due
  (s2, due.length, lost)

/-- A bridge entry placed at its sorted place, after the entries of equal E-coordinate (R29). -/
def insertEntry (b : BridgeEntry) : List BridgeEntry → List BridgeEntry
  | [] => [b]
  | x :: xs => if b.e < x.e then b :: x :: xs else x :: insertEntry b xs

/-- A joint request of S1 to S6 to bridge k (R29). -/
def State.bridgeJoint (s : State) (k : WebId) (b : BridgeEntry) : State :=
  if b.e ≤ s.mergeCoord k then (s.transferEntry (s.mergeCoord k) b).1
  else if (s.bridge k).entries.length < Config.bridgeCapacity then
    s.onBridge k fun g => { g with entries := insertEntry b g.entries }
  else
    let s1 := (s.lowerRa s.linePos).countLostMark
    s1.raise .mapFull ⟨.bridge, k.val + 1⟩ (natBytes 1 (b.station.val + 1) ++ natBytes 6 b.e ++ optBytes 6 s1.map.ra)

/-- A joint request: to the bridge list of S1 to S6's web, or to the map for S7 (R29, R72). -/
def State.placeJoint (s : State) (i : SpliceId) (pos before after : Nat) (suspect : Bool) : State :=
  match spliceWeb i with
  | some k => s.bridgeJoint k { e := pos, before := before, after := after, station := i, suspect := suspect }
  | none => (s.insertMark { start := pos - before, finish := some (pos + after), body := .joint i suspect }).1

/-! ### Bridge levels (R31) -/

/-- Bridge k claims when web k is in use and B_k is below its slow level. -/
def State.bridgeClaims (s : State) (k : WebId) : Bool := s.webInUse k && decide ((s.bridge k).content < (s.bridge k).slow)

/-- The BRIDGE entry set to the lowest crawl speed among the bridges claiming, absent when none claims. -/
def State.evalBridgeEntry (s : State) : State :=
  s.setEntry .bridge
    (leastClaim ((allIds 3).map fun k => if s.bridgeClaims k then some (s.bridge k).crawl else none))

/-- B_k set, with the level tests of R31: a rise from at or below the high level to above it raises BRIDGE_HIGH. -/
def State.setContent (s : State) (k : WebId) (v : Nat) : State :=
  let g := s.bridge k
  let s1 := (s.onBridge k fun b => { b with content := v }).evalBridgeEntry
  if g.content ≤ g.high ∧ g.high < v then s1.raise .bridgeHigh ⟨.bridge, k.val + 1⟩ (natBytes 6 v) else s1

end Sys2Proof.Machine
end

