-- ==== Sys2Proof/Machine/Operands.lean ====
section
/-! DEFINITION. How a command is taken and answered: its subjects and enumerated fields, the replies, the transmitter's choice, and the two
shapes of a meaning (an event of the part, and a host command with its reply). -/

namespace Sys2Proof.Machine

/-! ### Fields of a command -/

/-- The index of a subject numbered from 1 (assumption log 12). -/
def idOf (n : Nat) (v : Nat) : Option (Fin n) := if h : 1 ≤ v ∧ v ≤ n then some ⟨v - 1, by omega⟩ else none

/-- The index of a value coded from 0. -/
def codeOf (n : Nat) (v : Nat) : Option (Fin n) := if h : v < n then some ⟨v, h⟩ else none

/-- A flag byte: 0 clear, 1 set, any other value unassigned (R172, R173). -/
def flagOf (v : Nat) : Option Bool := if v = 0 then some false else if v = 1 then some true else none

/-- RISING, FALLING, BOTH (R172). -/
def edgeOf (v : Nat) : Option EdgeSelect :=
  match v with
  | 0 => some .rising
  | 1 => some .falling
  | 2 => some .both
  | _ => none

/-- lo ≤ v ≤ hi. -/
def within (lo hi v : Nat) : Bool := decide (lo ≤ v) && decide (v ≤ hi)

/-- The ordinal of the first failing check of a list of (passes, ordinal), in order. -/
def firstFailing : List (Bool × Nat) → Option Nat
  | [] => none
  | (ok, n) :: rest => if ok then firstFailing rest else some n

/-- Millimetres and metres in 0.1 mm. -/
def mm (v : Nat) : Nat := v * 10

def metres (v : Nat) : Nat := v * 10000

/-! ### Replies (R167, R173) -/

/-- OK with its content. -/
def okReply (content : List Byte) : List Byte := natBytes 1 0 ++ content

/-- The statuses in the order of R167's table. -/
def stOk : Nat := 0
def stMalformed : Nat := 1
def stUnknown : Nat := 2
def stState : Nat := 3
def stRange : Nat := 4
def stFull : Nat := 5
def stAbsent : Nat := 6
def stDuplicate : Nat := 7
def stLate : Nat := 8
def stNotReady : Nat := 9
def stPending : Nat := 10

/-- A status alone. -/
def bareReply (status : Nat) : List Byte := natBytes 1 status

/-- STATE with the subject and its present state (R173). -/
def stateReply (x : Subject) (state : Nat) : List Byte := natBytes 1 stState ++ x.bytes ++ natBytes 1 state

/-- STATE for a refusal on the line state (R173). -/
def State.lineReply (s : State) : List Byte := stateReply lineSubject s.lsv.line.ctorIdx

/-- RANGE with the ordinal of the failing field (R173). -/
def rangeReply (ordinal : Nat) : List Byte := natBytes 1 stRange ++ natBytes 1 ordinal

/-- An item of a NOT_READY or PENDING reply: subject and state or value, 5 bytes (R173). -/
def itemBytes (i : Subject × Nat) : List Byte := i.1.bytes ++ natBytes 2 i.2

/-- NOT_READY or PENDING with its items. -/
def itemsReply (status : Nat) (items : List (Subject × Nat)) : List Byte := natBytes 1 status ++ listBytes itemBytes items

/-- A free value: the time left on a running timer, not above its limit (assumption log 1). -/
def State.timeLeft (s : State) (limit : Nat) : Nat := min limit (Config.timeLeft s.fresh)

/-- One free value taken. -/
def State.takeFresh (s : State) : State := { s with fresh := s.fresh + 1 }

/-! ### The transmitter (R168, R169) -/

/-- The classes of notices, highest first: SAFETY 0, LINE 1, JOB 2, INFO 3 (R174). -/
def NoticeKind.class : NoticeKind → Nat
  | .driveFault | .stageFault | .inputTrip => 0
  | .partStarted | .lineState | .counterFault | .linkStale | .mapFull | .markLate | .reelOut | .spliceSuspect | .spliceBlocked
  | .zoneFault | .glueFault | .setupFault | .setupLost | .knifeSkipped | .stackerFault => 1
  | .orderStaged | .orderLocked | .orderDeferred | .orderStarted | .orderDone | .orderShort | .spliceDone | .spliceAborted
  | .reelLoaded | .reelLow | .stackReady | .countMismatch => 2
  | .speedLimit | .bridgeHigh | .linkError | .linkOverflow => 3

/-- The codes of notices (R174). -/
def NoticeKind.code : NoticeKind → Nat
  | .driveFault => 0x01
  | .stageFault => 0x02
  | .inputTrip => 0x03
  | .partStarted => 0x10
  | .lineState => 0x11
  | .counterFault => 0x12
  | .linkStale => 0x13
  | .mapFull => 0x14
  | .markLate => 0x15
  | .reelOut => 0x16
  | .spliceSuspect => 0x17
  | .spliceBlocked => 0x18
  | .zoneFault => 0x19
  | .glueFault => 0x1A
  | .setupFault => 0x1B
  | .setupLost => 0x1C
  | .knifeSkipped => 0x1D
  | .stackerFault => 0x1E
  | .orderStaged => 0x20
  | .orderLocked => 0x21
  | .orderDeferred => 0x22
  | .orderStarted => 0x23
  | .orderDone => 0x24
  | .orderShort => 0x25
  | .spliceDone => 0x26
  | .spliceAborted => 0x27
  | .reelLoaded => 0x28
  | .reelLow => 0x29
  | .stackReady => 0x2A
  | .countMismatch => 0x2B
  | .speedLimit => 0x30
  | .bridgeHigh => 0x31
  | .linkError => 0x32
  | .linkOverflow => 0x33

/-- The earliest pending entry of a class. -/
def firstOfClass (c : Nat) (es : List NoticeEntry) : Option NoticeEntry := es.find? fun e => e.kind.class = c

/-- The notice the transmitter takes: the highest class, and of that class the earliest in pending order (R169). -/
def chooseNotice (es : List NoticeEntry) : Option NoticeEntry :=
  (firstOfClass 0 es).or ((firstOfClass 1 es).or ((firstOfClass 2 es).or (firstOfClass 3 es)))

/-- At a frame boundary the next frame is begun: the reply at the head of the reply queue, otherwise the chosen notice. No frame is begun
while one is being sent or clear-to-send is inactive (R168). -/
def State.beginFrame (s : State) : State :=
  if s.lnk.sending.isSome || !s.lnk.cts then s
  else
    match s.lnk.replyQueue with
    | f :: _ => { s with lnk := { s.lnk with sending := some (.reply f) } }
    | [] =>
      match chooseNotice s.lnk.notices with
      | some e => { s with lnk := { s.lnk with sending := some (.notice e 0) } }
      | none => s

/-- CRC-16 with polynomial x^16 + x^12 + x^5 + 1: one bit shifted in, most significant first (R172). -/
def crcBit (r : BitVec 16) (b : Bool) : BitVec 16 :=
  if r.msb != b then (r <<< 1) ^^^ 0x1021#16 else r <<< 1

/-- One byte shifted in. -/
def crcByte (r : BitVec 16) (b : Byte) : BitVec 16 :=
  [7, 6, 5, 4, 3, 2, 1, 0].foldl (fun r i => crcBit r (b.getLsbD i)) r

/-- The check over the bytes of a frame from the tag to the end of the payload (R172). -/
def crc (bs : List Byte) : BitVec 16 := bs.foldl crcByte 0xFFFF#16

/-- The bytes of a frame behind its lead: tag, code, length, payload, check (R172). N is 0 to 240, so that of a longer payload the first
240 bytes are sent (log 15). -/
def frameBody (tag code : Nat) (payload : List Byte) : List Byte :=
  let sent := payload.take Config.payloadLimit
  let body := natBytes 2 tag ++ natBytes 1 code ++ natBytes 1 sent.length ++ sent
  body ++ natBytes 2 (crc body).toNat

/-- The payload of a notice frame: subject, count, detail (R174). -/
def NoticeEntry.payload (e : NoticeEntry) : List Byte := e.subject.bytes ++ natBytes 1 e.count ++ e.detail

/-- The characters of the frame being sent, each with its mark bit (R163, R172, R174). -/
def Sending.characters : Sending → List (Bool × Byte)
  | .reply f => (true, 0x2C#8) :: (frameBody f.tag f.code f.payload).map fun b => (false, b)
  | .notice e _ => (true, 0x3C#8) :: (frameBody 0 e.kind.code e.payload).map fun b => (false, b)

/-! ### The two shapes of a meaning -/

/-- An event: the terminals take their new levels always; the part acts unless it is held in reset (R160, assumption log 8); the
transmitter then begins a frame if it can (assumption log 5). -/
def event (terminals act : State → State) (s : State) : Host.Outcome State Fault Refusal :=
  if s.held then .next (terminals s) else .next (act (terminals s)).beginFrame

/-- A reply put at the tail of the reply queue (R167). -/
def State.pushReply (s : State) (f : Frame) : State := { s with lnk := { s.lnk with replyQueue := s.lnk.replyQueue ++ [f] } }

/-- A command carried to its block and its reply queued, in one act (R167). -/
def State.serve (s : State) (tag code : Nat) (cmd : State → State × List Byte) : State :=
  let (s1, payload) := cmd s
  s1.pushReply { tag := tag, code := code, payload := payload }

/-- A host command: taken while the reply queue has room, and otherwise it waits with no effect (R167, assumption log 4). -/
def hostCommand (tag code : Nat) (cmd : State → State × List Byte) (s : State) : Host.Outcome State Fault Refusal :=
  if s.held then .next s
  else if s.lnk.replyQueue.length < Config.linkCapacity then .next (s.serve tag code cmd).beginFrame
  else .next s

end Sys2Proof.Machine
end

