-- ==== Sys2Proof/Machine/Flags.lean ====
section
/-! DEFINITION. Derived conditions: output owners and conditions, generator duties, the main-drive speed terminal, the silence monitor,
ready-to-receive (log 17). -/

namespace Sys2Proof.Machine

/-! ### Drive outputs (R103, R104) -/

/-- An owner of an output: a set heat zone, or a side of the pair of a set glue station in use (R103). -/
inductive Owner
  | zone (n : ZoneId)
  | sideA (k : GlueId)
  | sideB (k : GlueId)
  deriving DecidableEq, Repr

/-- The subject that an owner is (R173). -/
def Owner.subject : Owner → Subject
  | .zone n => ⟨.heatZone, n.val + 1⟩
  | .sideA k => ⟨.glueStation, k.val + 1⟩
  | .sideB k => ⟨.glueStation, k.val + 1⟩

/-- Zone n owns output o. -/
def State.zoneOwns (s : State) (o : OutputId) (n : ZoneId) : Bool :=
  match (s.zone n).settings with
  | some z => decide (z.output = o)
  | none => false

/-- The sides of glue station k that own output o. -/
def State.glueOwns (s : State) (o : OutputId) (k : GlueId) : List Owner :=
  match (s.glue k).settings with
  | some g =>
    if s.glueInUse k then
      (if g.outA = o then [.sideA k] else []) ++ (if g.outB = o then [.sideB k] else [])
    else []
  | none => []

/-- The list of an output's owners (R103). R103 and R116 give them no order: the zones stand in rising number, then the glue stations in
rising number with side a before side b (log 13). -/
def State.owners (s : State) (o : OutputId) : List Owner :=
  ((allIds 12).filter (s.zoneOwns o)).map .zone ++ (allIds 4).flatMap (s.glueOwns o)

/-- The owner statuses (R103). -/
inductive OwnerStatus
  | unowned
  | owned
  | modeMismatch
  | conflict
  deriving DecidableEq, Repr

/-- The owner status of an output with its owner when OWNED (R103). -/
def State.ownership (s : State) (o : OutputId) : OwnerStatus × Option Owner :=
  match s.owners o with
  | [] => (.unowned, none)
  | [.zone n] => if (s.output o).mode = .pwm then (.owned, some (.zone n)) else (.modeMismatch, none)
  | [w] => if (s.output o).mode = .continuous then (.owned, some w) else (.modeMismatch, none)
  | _ => (.conflict, none)

def State.ownerStatus (s : State) (o : OutputId) : OwnerStatus := (s.ownership o).1

def State.ownedBy (s : State) (o : OutputId) : Option Owner := (s.ownership o).2

/-- The forcing causes that hold an output: FI1 to FI4, the supply-range shutdown, the thermal shutdown latch (R104); in this order they are
bits 0 to 5 of ReadDrive's set (log 13). -/
def State.forcingCauses (s : State) (o : OutputId) : List Bool :=
  ((allIds 4).map fun i => (s.input i).latched && (s.input i).mask.getLsbD o.val) ++ [decide (s.dst.supply ≠ .normal), s.dst.thermal]

/-- FORCED holds when the trip latch is clear and a forcing cause holds (R104). -/
def State.forced (s : State) (o : OutputId) : Bool := !(s.output o).trip && (s.forcingCauses o).any id

/-- An output is faulted while TRIPPED, FORCED or with its open-load flag set (R109). -/
def State.faulted (s : State) (o : OutputId) : Bool := (s.output o).trip || s.forced o || (s.output o).openLoad

/-- A zone's demand as an output takes it: the posted demand when the output is OWNED by the zone, else 0 (R105). -/
def State.demandOf (s : State) (o : OutputId) : Nat :=
  match s.ownedBy o with
  | some (.zone n) => (s.zone n).demand
  | _ => 0

/-- The level a glue station commands on the output, OFF when none does (R103). -/
def State.levelOf (s : State) (o : OutputId) : Level :=
  match s.ownedBy o with
  | some (.sideA k) => (s.glue k).levelA
  | some (.sideB k) => (s.glue k).levelB
  | _ => .off

/-- The conditions of an output (R104). -/
inductive OutputCondition
  | tripped
  | forced
  | driving
  | idle
  deriving DecidableEq, Repr

/-- An output's condition (R104). -/
def State.condition (s : State) (o : OutputId) : OutputCondition :=
  if (s.output o).trip then .tripped
  else if s.forced o then .forced
  else
    match s.ownedBy o with
    | some (.zone n) => if 0 < (s.zone n).demand then .driving else .idle
    | some _ => if s.levelOf o ≠ .off then .driving else .idle
    | none => .idle

/-! ### Pulse generators (R105) -/

/-- An output is mapped to a generator when it is in PWM mode and names it. -/
def State.mapped (s : State) (g : GenId) (o : OutputId) : Bool :=
  decide ((s.output o).mode = .pwm) && decide ((s.output o).generator = some g)

/-- The demanded duty: the greatest demand among the mapped outputs (R105). -/
def State.demandedDuty (s : State) (g : GenId) : Nat :=
  (((allIds 16).filter (s.mapped g)).map s.demandOf).foldl max 0

/-- The duty: the demanded duty, held at 600 while the warning is present (R105, R111). -/
def State.duty (s : State) (g : GenId) : Nat :=
  if s.dst.warning then min (s.demandedDuty g) Config.dutyCap else s.demandedDuty g

/-! ### Fault inputs (R113) -/

/-- The input is active while its level equals its active level. -/
def FaultInput.active (i : FaultInput) : Bool := i.level == i.activeHigh

/-! ### The main drive (R158) -/

/-- The main-drive speed terminal in 0.1 mV, driven by the speed reference: 0 V at 0 and 10 V at 4,000 (R158; linear between, log 17). -/
def State.mainDrive (s : State) : Nat := s.lsv.speedRef * 100000 / 4000

/-! ### Link (R166, R170) -/

/-- The line states in which the silence monitor may run (R170). -/
def LineState.monitored : LineState → Bool
  | .run | .hold | .stopping => true
  | .setup | .ready | .halted | .park => false

/-- The silence monitor runs in RUN, HOLD and STOPPING while the timeout is not 0 (R170). -/
def State.monitorRuns (s : State) : Bool := s.lsv.line.monitored && decide (s.lnk.timeout ≠ 0)

/-- The ready-to-receive terminal is active while the command queue holds fewer than 4 frames (R166). -/
def State.readyToReceive (s : State) : Bool := decide (s.lnk.cmdQueue.length < Config.linkCapacity)

/-! ### Keep-wet (R97) -/

/-- The line counts as stopped for keep-wet while the zero-speed count is 10; the next LINE advance clears it. -/
def State.countsStopped (s : State) : Bool := decide (s.bnd.zeroSpeed = Config.stoppedSamples)

/-! ### Splice stations -/

/-- A station claims SPLICE in MATCHING, MATCHED and CONFIRMING (R70). -/
def SplicePhase.claims : SplicePhase → Bool
  | .matching | .matched | .confirming => true
  | .idle | .standby | .suspect | .blocked => false

end Sys2Proof.Machine
end

