-- ==== Sys2Proof/Machine/BondCore.lean ====
section
/-! DEFINITION. The bond controller's own rules: setpoints, demands, BOND claims, glue targets and moves, spans (R84 to R97). -/

namespace Sys2Proof.Machine

/-! ### Heat zones -/

/-- A zone's lookup position, LINE − D_in + LH held at 0 (R84). -/
def State.zoneLookup (s : State) (n : ZoneId) : Nat := s.linePos + s.bnd.heatLead - s.zoneIn n

/-- The setpoint of a zone with the feed-forward of the grade that gives it (R84, R86). -/
def State.chooseSetpoint (s : State) (n : ZoneId) : Nat × Nat :=
  if s.lsv.line = .park then (s.bnd.standby, 0)
  else
    match s.gradeAt (s.zoneLookup n) with
    | some g => (g.setpoint, g.feedForward)
    | none => (s.bnd.standby, 0)

/-- A zone's setpoint is evaluated (R84). In PARK it needs no lookup; outside PARK an unset zone has no lookup position and keeps its
value (log 21). -/
def State.evalZone (s : State) (n : ZoneId) : State :=
  if (s.zone n).settings.isSome || decide (s.lsv.line = .park) then
    let (sp, ff) := s.chooseSetpoint n
    s.onZone n fun z => { z with setpoint := sp, feedForward := ff }
  else s

/-- A zone claims while it is enabled and LOW or FAULT (R89). -/
def Zone.claims (z : Zone) : Bool := z.enabled && (decide (z.state = .low) || decide (z.state = .fault))

/-- The BOND claim of a zone: the low-heat speed at its lookup position, 0 when the lookup answers none (R89). -/
def State.bondClaim (s : State) (n : ZoneId) : Option Nat :=
  if (s.zone n).claims then
    some (match s.gradeAt (s.zoneLookup n) with
      | some g => g.lowHeat
      | none => 0)
  else none

/-- The claims of all zones and the BOND entry are evaluated (R89). -/
def State.evalBond (s : State) : State :=
  let s1 := s.forAll 12 fun t n => t.onZone n fun z => { z with claim := s.bondClaim n }
  s1.setEntry .bond (leastClaim ((allIds 12).map s.bondClaim))

/-- A zone's fault cause set as a bit set, SENSOR 0 and OUTPUT 1 (R172). -/
def Zone.causeBytes (z : Zone) : List Byte := bitSetBytes 1 [z.sensor, z.output]

/-- The subject of a zone (R173). -/
def zoneSubject (n : ZoneId) : Subject := ⟨.heatZone, n.val + 1⟩

/-- The exit distance of a zone, 0 while the zone is unset. -/
def State.zoneOut (s : State) (n : ZoneId) : Nat :=
  match (s.zone n).settings with
  | some z => z.dOut
  | none => 0

/-- A zone opens its span: start LINE − D_out held at 0 (R88). -/
def State.openZoneSpan (s : State) (n : ZoneId) : State :=
  let start := s.linePos - s.zoneOut n
  (s.openSpan (.zone n) start).onZone n fun z => { z with span := some start }

/-- A zone closes its span, if it has one, with end LINE − D_in (R83, R88). -/
def State.closeZoneSpan (s : State) (n : ZoneId) : State :=
  if (s.zone n).span.isSome then
    (s.closeSpan (.zone n) (s.linePos - s.zoneIn n)).onZone n fun z => { z with span := none }
  else s

/-- A zone enters a state: demand 0 in OFF and FAULT, ZONE_FAULT on entry to FAULT, the span of R88, and the claims of R89. Every entry to
FAULT is noticed, also the one that a SENSOR fault makes from OFF with OUTPUT already in the cause set (R85; log 35). -/
def State.enterZone (s : State) (n : ZoneId) (new : ZoneState) : State :=
  if (s.zone n).state = new then s
  else
    let s1 := s.onZone n fun z =>
      { z with state := new, demand := if new = .off ∨ new = .fault then 0 else z.demand }
    let s2 := if new = .fault then s1.raise .zoneFault (zoneSubject n) (s1.zone n).causeBytes else s1
    let s3 :=
      if new = .low ∨ new = .fault then (if (s2.zone n).span.isSome then s2 else s2.openZoneSpan n)
      else s2.closeZoneSpan n
    s3.evalBond

/-- The state a zone chooses from a valid reading (R85). -/
def chooseZoneState (old : ZoneState) (output : Bool) (t setpoint band : Nat) : ZoneState :=
  match old with
  | .off | .fault => if output then .fault else if setpoint + 20 ≤ t + band then .inBand else .low
  | .low => if setpoint + 20 ≤ t + band then .inBand else .low
  | .inBand => if t + band < setpoint then .low else .inBand

/-- The demand law (R86): FF × v / 40 + gain × (S − T), rounded down and held within 0 to 1,000. -/
def demandLaw (ff v gain setpoint t : Nat) : Nat := min 1000 (ff * v / 40 + gain * setpoint - gain * t)

/-- A valid value outside 0.0 to 350.0 °C is an invalid mark (R85). -/
def limitedReading (top : Nat) : Reading → Reading
  | .valid v => if v ≤ top then .valid v else .invalid
  | other => other

/-- The demand after a reading (R86); an absent reading gives no T, and the posted demand stands. -/
def State.postDemand (s : State) (n : ZoneId) (r : Reading) : State :=
  s.onZone n fun z =>
    match z.state, r, z.settings with
    | .off, _, _ => { z with demand := 0 }
    | .fault, _, _ => { z with demand := 0 }
    | _, .valid t, some c => { z with demand := demandLaw z.feedForward s.lcu.measured c.gain z.setpoint t }
    | _, _, _ => z

/-- SENSOR joins the cause set and the zone enters FAULT if it is not there (R85). -/
def State.zoneSensorFault (s : State) (n : ZoneId) : State :=
  (s.onZone n fun z => { z with sensor := true }).enterZone n .fault

/-- The judgement of a reading of an enabled zone (R85). A zone enabled again goes on with the stale-reading count it had (log 35). -/
def State.judgeTemperature (s : State) (n : ZoneId) (r : Reading) : State :=
  match r with
  | .invalid => (s.onZone n fun z => { z with stale := 0 }).zoneSensorFault n
  | .absent =>
    let s1 := s.onZone n fun z => { z with stale := countUp Config.staleLimit z.stale }
    if (s1.zone n).stale = Config.staleLimit then s1.zoneSensorFault n else s1
  | .valid t =>
    let s1 := s.onZone n fun z => { z with stale := 0, sensor := false }
    match (s1.zone n).settings with
    | some c =>
      s1.enterZone n (chooseZoneState (s1.zone n).state (s1.zone n).output t (s1.zone n).setpoint c.band)
    | none => s1

/-- A temperature reading (R84 to R86, R89). -/
def State.takeTemperature (s : State) (n : ZoneId) (r : Reading) : State :=
  let s1 := s.onZone n fun z => { z with latest := r }
  if (s1.zone n).enabled then (((s1.evalZone n).judgeTemperature n r).postDemand n r).evalBond else s1

/-- A zone's output is reported faulted or clear (R87). -/
def State.zoneReport (s : State) (n : ZoneId) (isFault : Bool) : State :=
  let s1 := s.onZone n fun z => { z with output := isFault }
  if isFault && (s1.zone n).enabled then s1.enterZone n .fault else s1

/-! ### Glue stations -/

/-- The subject of a glue station (R173). -/
def glueSubject (k : GlueId) : Subject := ⟨.glueStation, k.val + 1⟩

/-- A glue station's lookup position (R92). -/
def State.glueLookup (s : State) (k : GlueId) : Nat := s.gluePoint k + s.bnd.glueLead

/-- The gap that a grade gives a station. -/
def Grade.gap (g : Grade) (k : GlueId) : Nat := g.gaps[k]

/-- The target gap of a set station (R92). -/
def State.chooseTarget (s : State) (k : GlueId) (c : GlueSettings) : Nat :=
  if s.lsv.line = .park then c.parkGap
  else
    match s.gradeAt (s.glueLookup k) with
    | some g => g.gap k
    | none =>
      match s.stagedOrder with
      | some o =>
        match s.gradeEntry o.grade with
        | some g => g.gap k
        | none => (s.glue k).target
      | none => (s.glue k).target

/-- R lies within G ± tolerance (R93). -/
def inTolerance (r g tol : Nat) : Bool := decide (r ≤ g + tol) && decide (g ≤ r + tol)

/-- The state of a station at its gap: LIFTED at the park gap, else IN_POSITION (R93). -/
def restState (g park : Nat) : GlueState := if g = park then .lifted else .inPosition

def GlueState.resting : GlueState → Bool
  | .inPosition | .lifted => true
  | .off | .moving | .fault => false

/-- A station enters a state; its keep-wet counter is loaded on entry to IN_POSITION or LIFTED during a stop and cleared on leaving
them (R97). -/
def State.setGlueState (s : State) (k : GlueId) (new : GlueState) : State :=
  s.onGlue k fun g =>
    if g.state = new then g
    else
      { g with
        state := new
        keepWet := if new.resting && s.countsStopped then g.settings.map (·.interval) else none }

/-- Both outputs of the pair commanded. -/
def State.setPair (s : State) (k : GlueId) (a b : Level) : State := s.onGlue k fun g => { g with levelA := a, levelB := b }

/-- Drive toward G: a high and b low when R < G, a low and b high when R > G (R93). -/
def State.driveToward (s : State) (k : GlueId) (r : Nat) : State :=
  if r < (s.glue k).target then s.setPair k .high .low else s.setPair k .low .high

/-- The rules that a station's settings give its moves. -/
def GlueSettings.moveRules (c : GlueSettings) : MoveRules :=
  { tolerance := c.tolerance, moveLimit := c.moveLimit, stopMode := c.stopMode }

/-- The rules in force follow the settings: at take-up and at each gap reading (R91; a running move timer, log 42). -/
def GlueStation.takeRules (g : GlueStation) : GlueStation :=
  match g.settings with
  | some c => { g with rules := c.moveRules }
  | none => g

/-- The pair left as the stop mode in force says (section 5.5). -/
def State.leavePair (s : State) (k : GlueId) : State :=
  match (s.glue k).rules.stopMode with
  | .brake => s.setPair k .low .low
  | .coast => s.setPair k .off .off

/-- A station's open span is closed with its glue point (R91, R95). -/
def State.closeGlueSpan (s : State) (k : GlueId) : State :=
  if (s.glue k).span.isSome then
    (s.closeSpan (.glue k) (s.gluePoint k)).onGlue k fun g => { g with span := none }
  else s

/-- A gap reading or a new target judged in IN_POSITION, LIFTED or MOVING, by the rules in force (R91, R93). -/
def State.judgeGap (s : State) (k : GlueId) (r : Nat) : State :=
  match (s.glue k).settings with
  | some c =>
    let g := s.glue k
    let fits := inTolerance r g.target g.rules.tolerance
    if g.state.resting then
      if fits then s.setGlueState k (restState g.target c.parkGap)
      else (s.setGlueState k .moving).driveToward k r
    else if g.state = .moving then
      if fits then ((s.leavePair k).setGlueState k (restState g.target c.parkGap)).closeGlueSpan k
      else s.driveToward k r
    else s
  | none => s

/-- A station's target is evaluated, and a new target is taken by the movement rule (R92). -/
def State.evalGlue (s : State) (k : GlueId) : State :=
  match (s.glue k).settings with
  | some c =>
    if (s.glue k).state = .off then s
    else
      let t := s.chooseTarget k c
      if t = (s.glue k).target then s
      else
        let s1 := s.onGlue k fun g => { g with target := t }
        match (s1.glue k).lastValid with
        | some r => s1.judgeGap k r
        | none => s1
  | none => s

/-- The fault causes of a glue station (R94). -/
inductive GlueCause
  | timeout
  | output
  | sensor
  deriving DecidableEq, Repr

/-- A cause joins the set. -/
def GlueStation.addCause (g : GlueStation) : GlueCause → GlueStation
  | .timeout => { g with timeout := true }
  | .output => { g with output := true }
  | .sensor => { g with sensor := true }

/-- A glue station's fault cause set as a bit set (R172). -/
def GlueStation.causeSet (g : GlueStation) : List Byte := bitSetBytes 1 [g.timeout, g.output, g.sensor]

/-- The set is empty. -/
def GlueStation.noCause (g : GlueStation) : Bool := !(g.timeout || g.output || g.sensor)

/-- A station opens a span at its glue point unless one is open (R95). -/
def State.openGlueSpan (s : State) (k : GlueId) : State :=
  if (s.glue k).span.isSome then s
  else (s.openSpan (.glue k) (s.gluePoint k)).onGlue k fun g => { g with span := some (s.gluePoint k) }

/-- A fault cause at a station: from IN_POSITION, LIFTED or MOVING it enters FAULT; in FAULT the cause joins the set; in OFF nothing
is taken (R91, R94). -/
def State.glueFault (s : State) (k : GlueId) (c : GlueCause) : State :=
  match (s.glue k).state with
  | .off => s
  | .fault => s.onGlue k (·.addCause c)
  | .moving | .inPosition | .lifted =>
    let s1 := ((s.onGlue k (·.addCause c)).setGlueState k .fault).setPair k .off .off
    (s1.openGlueSpan k).raise .glueFault (glueSubject k) (natBytes 1 c.ctorIdx)

/-- A station's output is reported faulted or clear (R94; log 19). -/
def State.glueReport (s : State) (k : GlueId) (isFault : Bool) : State :=
  if isFault then s.glueFault k .output
  else if (s.glue k).state = .off then s
  else s.onGlue k fun g => { g with output := false }

/-- A gap reading (R91 to R94): the rules that the settings give apply from it on. The target is evaluated before the reading is taken, so a
new target is judged by the valid reading before this one, and then this reading is recorded and judged (R92; log 42). -/
def State.takeGap (s : State) (k : GlueId) (r : Reading) : State :=
  if (s.glue k).state = .off then s
  else
    let s1 := ((s.onGlue k GlueStation.takeRules).evalGlue k).onGlue k fun g => { g with latest := r }
    match r with
    | .valid v => (s1.onGlue k fun g => { g with stale := 0, lastValid := some v }).judgeGap k v
    | .invalid => (s1.onGlue k fun g => { g with stale := 0 }).glueFault k .sensor
    | .absent =>
      let s2 := s1.onGlue k fun g => { g with stale := countUp Config.staleLimit g.stale }
      if (s2.glue k).stale = Config.staleLimit then s2.glueFault k .sensor else s2

/-- A set station in use takes up: its target is the park gap, it is MOVING, both outputs OFF until its first valid reading (R91). -/
def State.glueTakesUp (s : State) (k : GlueId) : State :=
  match (s.glue k).settings with
  | some c =>
    (s.onGlue k fun g => { g.takeRules with target := c.parkGap, lastValid := none, stale := 0 }).setGlueState k .moving
      |>.setPair k .off .off
  | none => s

/-- A station taken out of use: OFF with its outputs OFF, its span closed, its cause set empty (R91, log 20). -/
def State.glueTakenOut (s : State) (k : GlueId) : State :=
  if (s.glue k).state = .off then s
  else
    (((s.closeGlueSpan k).setGlueState k .off).setPair k .off .off).onGlue k fun g =>
      { g with timeout := false, output := false, sensor := false }

/-! ### Line advances and the announcement -/

/-- The LINE advance that ends a stop clears the zero-speed count and every keep-wet counter (R97). -/
def State.endStop (s : State) : State :=
  if s.countsStopped then { s with bnd := { s.bnd with zeroSpeed := 0, glues := s.bnd.glues.map fun g => { g with keepWet := none } } }
  else s

/-- All setpoints and targets are evaluated (R84, R92), the zones and the stations in rising order (log 45). -/
def State.evalBonds (s : State) : State := (s.forAll 12 State.evalZone).forAll 4 State.evalGlue

/-- The BND's part of a LINE advance (R84, R92, R97). -/
def State.bondLineAdvance (s : State) : State := s.endStop.evalBonds

/-- The BND's part of an SFk advance: the target of GSk (R92). -/
def State.bondWebAdvance (s : State) (k : WebId) : State := s.evalGlue ⟨k.val, by omega⟩

/-- The zero-speed count at a speed sample; its reaching 10 starts the stop and loads the counters (R97). -/
def State.countZeroSpeed (s : State) : State :=
  if s.lcu.measured = 0 then
    let s1 : State := { s with bnd := { s.bnd with zeroSpeed := countUp Config.stoppedSamples s.bnd.zeroSpeed } }
    if s1.countsStopped && !s.countsStopped then
      { s1 with
        bnd := { s1.bnd with
          glues := s1.bnd.glues.map fun g =>
            if g.state.resting then { g with keepWet := g.settings.map (·.interval) } else g } }
    else s1
  else { s with bnd := { s.bnd with zeroSpeed := 0 } }

end Sys2Proof.Machine
end

