-- ==== Sys2Proof/Machine/SpliceCore.lean ====
section
/-! DEFINITION. The splice stations' own rules: SPLICE claims, arming, firing, abort (R69 to R71, R77). -/

namespace Sys2Proof.Machine

/-- The subject of a splice station (R173). -/
def spliceSubject (i : SpliceId) : Subject := ⟨.spliceStation, i.val + 1⟩

/-- The claim of a station (R70). -/
def SpliceStation.spliceClaim (t : SpliceStation) : Option Nat :=
  if t.phase.claims then t.settings.map (·.speed) else none

/-- The SPLICE entry is the lowest claim among the stations, absent when none claims (R70). -/
def State.evalSplice (s : State) : State :=
  s.setEntry .splice (leastClaim ((allIds 7).map fun i => (s.splice i).spliceClaim))

/-- A station enters a splice state and the SPLICE entry is evaluated (R70). -/
def State.enterSplice (s : State) (i : SpliceId) (p : SplicePhase) : State :=
  (s.onSplice i fun t => { t with phase := p }).evalSplice

/-- The joint channel's arm request; a channel of an UNUSED station refuses it (R10). -/
def State.armChannel (s : State) (i : SpliceId) : State :=
  if s.spliceInUse i then s.onJoint i fun c => { c with armed := true } else s

/-- The joint channel's disarm request (R10). -/
def State.disarmChannel (s : State) (i : SpliceId) : State := s.onJoint i fun c => { c with armed := false }

/-- A station fires (R71). -/
def State.fire (s : State) (i : SpliceId) : State :=
  let c := s.splicePos i
  let s1 := s.onSplice i fun t =>
    { t with
      accelerate := false, pulse := true, firePos := some c
      windowEnd := t.settings.map fun g => c + g.window
      force := false }
  (s1.armChannel i).enterSplice i .confirming

/-- A MATCHED station with a running reel fires at its reserve, or at once with its force flag set (R71). -/
def SpliceStation.firesNow (t : SpliceStation) : Bool :=
  decide (t.phase = .matched) &&
    match t.activeReel, t.settings with
    | some r, some g => t.force || decide (r.remaining ≤ g.reserve)
    | _, _ => false

/-- The firing test (R71). -/
def State.fireTest (s : State) (i : SpliceId) : State := if (s.splice i).firesNow then s.fire i else s

/-- The station enters MATCHED, and the firing test is made (R71). -/
def State.enterMatched (s : State) (i : SpliceId) : State := (s.enterSplice i .matched).fireTest i

/-- The station enters MATCHING, and MATCHED at once when the speed-match terminal is active (R69, R71, R76). -/
def State.enterMatching (s : State) (i : SpliceId) (force : Bool) : State :=
  let s1 := (s.onSplice i fun t => { t with accelerate := true, force := force }).enterSplice i .matching
  if (s1.splice i).speedMatch then s1.enterMatched i else s1

/-- The line state is RUN or HOLD. -/
def LineState.runs : LineState → Bool
  | .run | .hold => true
  | .setup | .ready | .stopping | .halted | .park => false

/-- The terms of the arming test (R69). -/
def State.arms (s : State) (i : SpliceId) : Bool :=
  s.spliceInUse i && decide ((s.splice i).phase = .standby) && s.lsv.line.runs && decide (0 < s.lcu.measured) &&
    match (s.splice i).activeReel, (s.splice i).settings with
    | some r, some g => decide (r.remaining ≤ g.arm)
    | _, _ => false

/-- The arming test (R69). -/
def State.armTest (s : State) (i : SpliceId) : State := if s.arms i then s.enterMatching i false else s

/-- A station in MATCHING or MATCHED returns to STANDBY with notice SPLICE_ABORTED, the state left as detail (R77). -/
def State.abortSplice (s : State) (i : SpliceId) : State :=
  let p := (s.splice i).phase
  if p = .matching ∨ p = .matched then
    ((s.onSplice i fun t => { t with accelerate := false, force := false }).enterSplice i .standby).raise .spliceAborted
      (spliceSubject i) (natBytes 1 p.ctorIdx)
  else s

end Sys2Proof.Machine
end

