-- ==== Sys2Proof/Machine/Line.lean ====
section
/-! DEFINITION. The line state: its changes and their announcement, hold causes and stop causes (R148, R152, R153, R160). -/

namespace Sys2Proof.Machine

/-! ### Codes (R172, R175) -/

/-- The hold-cause set as its bit set. -/
def HoldSet.bytes (h : HoldSet) : List Byte :=
  bitSetBytes 1 [h.linkStale, h.setupOverdue, h.spliceSuspect, h.webCounter, h.faultInput]

def HoldSet.isEmpty (h : HoldSet) : Bool :=
  !(h.linkStale || h.setupOverdue || h.spliceSuspect || h.webCounter || h.faultInput)

/-- A cause is in the set. -/
def HoldSet.has (h : HoldSet) : HoldCause → Bool
  | .linkStale => h.linkStale
  | .setupOverdue => h.setupOverdue
  | .spliceSuspect => h.spliceSuspect
  | .webCounter => h.webCounter
  | .faultInput => h.faultInput

/-- A cause put in or taken out. -/
def HoldSet.put (h : HoldSet) (c : HoldCause) (b : Bool) : HoldSet :=
  match c with
  | .linkStale => { h with linkStale := b }
  | .setupOverdue => { h with setupOverdue := b }
  | .spliceSuspect => { h with spliceSuspect := b }
  | .webCounter => { h with webCounter := b }
  | .faultInput => { h with faultInput := b }

/-- An optional stop cause as one byte. -/
def stopCauseByte : Option StopCause → List Byte
  | some c => natBytes 1 c.ctorIdx
  | none => absentBytes 1

/-- The detail of LINE_STATE (R175), the old state being given and the new one being the present. -/
def State.lineDetail (s : State) (old : LineState) : List Byte :=
  natBytes 1 old.ctorIdx ++ natBytes 1 s.lsv.line.ctorIdx ++ s.lsv.holds.bytes ++
    match s.lsv.stopRec with
    | some r =>
      stopCauseByte (if r.active then r.ruling else none) ++ stopCauseByte (some r.latest) ++ optSubjectBytes r.latestDetail
    | none => stopCauseByte none ++ stopCauseByte none ++ optSubjectBytes none

/-- LINE_STATE raised (R148, R152, R153). -/
def State.raiseLine (s : State) (old : LineState) : State := s.raise .lineState lineSubject (s.lineDetail old)

/-! ### Changes of the line state (R148) -/

/-- The STOP entry of a line state (section 9.1). -/
def LineState.stopEntry : LineState → Option Nat
  | .run | .hold => none
  | .setup | .ready | .stopping | .halted | .park => some 0

/-- The HOLD entry of a line state (section 9.1). -/
def LineState.holdEntry (thread : Nat) : LineState → Option Nat
  | .hold => some thread
  | .setup | .ready | .run | .stopping | .halted | .park => none

/-- The states whose entry sets the speed reference to 0 (R148, R158). -/
def LineState.stands : LineState → Bool
  | .setup | .ready | .halted | .park => true
  | .run | .hold | .stopping => false

/-- The new state with what its entry sets: speed reference 0 in the standing states (R158), stopped-sample count 0 (R154), the stop
record inactive on entry to READY (section 9.4), the silence monitor's count 0 when it starts or stops (R170). -/
def State.putLine (s : State) (new : LineState) : State :=
  let l := s.lsv
  { s with
    lsv := { l with
      line := new
      speedRef := if new.stands then 0 else l.speedRef
      stopped := 0
      stopRec := if new = .ready then l.stopRec.map fun r => { r with active := false } else l.stopRec }
    lnk := { s.lnk with expiries := if l.line.monitored = new.monitored then s.lnk.expiries else 0 } }

/-- The STOP and HOLD entries set for the present state, in one change of the table (log 48). -/
def State.setLineEntries (s : State) : State :=
  s.setCeiling { s.lsv.ceiling with stop := s.lsv.line.stopEntry, hold := s.lsv.line.holdEntry s.lsv.thread }

/-- The announcement to the SPC: arming on entry to RUN or HOLD, aborts on entry to STOPPING or HALTED (R69, R77). The stations take it in
the order S1 to S7 (log 45). -/
def State.announceSplice (s : State) (new : LineState) : State :=
  match new with
  | .run | .hold => s.forAll 7 State.armTest
  | .stopping | .halted => s.forAll 7 State.abortSplice
  | .setup | .ready | .park => s

/-- The announcement to the BND: setpoints and targets on entry to and exit from PARK (R84, R92, R99). -/
def State.announceBond (s : State) (old new : LineState) : State :=
  if old = .park ∨ new = .park then s.evalBonds else s

/-- A change of the line state, taken whole (R148); the SPC is told before the BND (log 48). -/
def State.changeLine (s : State) (new : LineState) : State :=
  let old := s.lsv.line
  ((((s.putLine new).setLineEntries).announceSplice new).announceBond old new).raiseLine old

/-! ### Hold causes (R152) -/

/-- The set after a change, with the move between RUN and HOLD or the notice. -/
def State.holdsChanged (s : State) (h : HoldSet) : State :=
  let s1 : State := { s with lsv := { s.lsv with holds := h } }
  match s.lsv.line with
  | .run => if h.isEmpty then s1.raiseLine .run else s1.changeLine .hold
  | .hold => if h.isEmpty then s1.changeLine .run else s1.raiseLine .hold
  | .setup | .ready | .stopping | .halted | .park => s1

/-- A hold cause added by its owner. -/
def State.addHold (s : State) (c : HoldCause) : State :=
  if s.lsv.holds.has c then s else s.holdsChanged (s.lsv.holds.put c true)

/-- A hold cause removed by its owner. -/
def State.removeHold (s : State) (c : HoldCause) : State :=
  if s.lsv.holds.has c then s.holdsChanged (s.lsv.holds.put c false) else s

/-! ### Stop causes (R153) -/

/-- A new stop record (section 9.4); the count of causes taken since the stop began starts with this cause. -/
def newRecord (c : StopCause) (d : Option Subject) (pos : Nat) : StopRecord :=
  { active := true, ruling := some c, detail := d, position := some pos, latest := c, latestDetail := d, count := 1 }

/-- A cause recorded as the latest; the count rises when the record is active. -/
def StopRecord.take (r : StopRecord) (c : StopCause) (d : Option Subject) : StopRecord :=
  { r with latest := c, latestDetail := d, count := if r.active then countUp 255 r.count else r.count }

/-- A cause that becomes the ruling cause of a stop under way. -/
def StopRecord.rule (r : StopRecord) (c : StopCause) (d : Option Subject) (pos : Nat) : StopRecord :=
  { r with ruling := some c, detail := d, position := some pos }

/-- The stop record replaced. -/
def State.setRecord (s : State) (r : StopRecord) : State := { s with lsv := { s.lsv with stopRec := some r } }

/-- The present record with a cause taken, or a new one when there is none. -/
def State.takenRecord (s : State) (c : StopCause) (d : Option Subject) : StopRecord :=
  match s.lsv.stopRec with
  | some r => r.take c d
  | none => newRecord c d s.linePos

/-- The last stop record with a cause taken in SETUP (R153). -/
def State.setupRecord (s : State) (c : StopCause) (d : Option Subject) : StopRecord :=
  match s.lsv.stopRec with
  | some r => r.take c d
  | none => { active := false, ruling := none, detail := none, position := none, latest := c, latestDetail := d, count := 0 }

/-- A stop cause taken according to the line state (R153). -/
def State.stopCause (s : State) (c : StopCause) (d : Option Subject) : State :=
  match s.lsv.line with
  | .run | .hold =>
    (s.setRecord (newRecord c d s.linePos)).changeLine (if c = .trip then .halted else .stopping)
  | .stopping =>
    let r := s.takenRecord c d
    if c = .trip then (s.setRecord (r.rule c d s.linePos)).changeLine .halted
    else if r.ruling = some .hostStop then (s.setRecord (r.rule c d s.linePos)).raiseLine .stopping
    else (s.setRecord r).raiseLine .stopping
  | .ready | .park => (s.setRecord (newRecord c d s.linePos)).changeLine .halted
  | .halted => (s.setRecord (s.takenRecord c d)).raiseLine .halted
  | .setup => (s.setRecord (s.setupRecord c d)).raiseLine .setup

end Sys2Proof.Machine
end

