-- ==== Sys2Proof/Machine/DriveCore.lean ====
section
/-! DEFINITION. The drive stage's own rules: fault and clear reports, the fault inputs' records and line actions (R109, R113, R114). -/

namespace Sys2Proof.Machine

/-- An owner takes a fault report or a clear report of one of its outputs (R87, R94). -/
def State.ownerReport (s : State) (w : Owner) (isFault : Bool) : State :=
  match w with
  | .zone n => s.zoneReport n isFault
  | .sideA k => s.glueReport k isFault
  | .sideB k => s.glueReport k isFault

/-- The reports that a change from `old` to `new` makes for one output (R103, R109): a change of faulted is reported to the owner; an
owner that loses a faulted output gets a clear report; a new owner gets a fault report if the output is faulted. The two sides of one glue
station are two owners: an output that changes side is reported clear and then, if it is faulted, faulted (log 19). -/
def outputReports (old new : State) (o : OutputId) : List (Owner × Bool) :=
  let before := old.ownedBy o
  let after := new.ownedBy o
  if before = after then
    match after with
    | some w => if old.faulted o = new.faulted o then [] else [(w, new.faulted o)]
    | none => []
  else
    (match before with
      | some w => if old.faulted o then [(w, false)] else []
      | none => []) ++
    (match after with
      | some w => if new.faulted o then [(w, true)] else []
      | none => [])

/-- The reports of a change in the order they are sent: the clear reports, then the fault reports, each output by output, so that an
owner that exchanges one faulted output for another keeps OUTPUT (log 19). -/
def changeReports (old new : State) : List (Owner × Bool) :=
  let all := (allIds 16).flatMap (outputReports old new)
  (all.filter fun r => !r.2) ++ all.filter fun r => r.2

/-- The reports of a change, sent to the owners (R109). -/
def State.sendReports (new old : State) : State :=
  (changeReports old new).foldl (fun t r => t.ownerReport r.1 r.2) new

/-- The subject of an output, and of a fault input (R173). -/
def outputSubject (o : OutputId) : Subject := ⟨.driveOutput, o.val + 1⟩

def inputSubject (i : InputId) : Subject := ⟨.faultInput, i.val + 1⟩

def stageSubject : Subject := ⟨.stage, 0⟩

/-- The kinds of DRIVE_FAULT (R175). -/
inductive DriveFaultKind
  | trip
  | openLoad
  | openLoadPassive
  deriving DecidableEq, Repr

/-- DRIVE_FAULT raised with the kind and the owner (R106 to R108, R175). -/
def State.raiseDrive (s : State) (o : OutputId) (k : DriveFaultKind) : State :=
  s.raise .driveFault (outputSubject o) (natBytes 1 k.ctorIdx ++ optSubjectBytes ((s.ownedBy o).map Owner.subject))

/-- The conditions that STAGE_FAULT reports (R175). -/
inductive StageCondition
  | under
  | over
  | thermalWarning
  | thermalShutdown
  deriving DecidableEq, Repr

def State.raiseStage (s : State) (c : StageCondition) : State := s.raise .stageFault stageSubject (natBytes 1 c.ctorIdx)

/-- The line action of an input, handed to the Line Supervisor (R114). -/
def State.lineAction (s : State) (i : InputId) : State :=
  match (s.input i).action with
  | .none => s
  | .hold => s.addHold .faultInput
  | .stop => s.stopCause .faultStop (some (inputSubject i))
  | .trip => s.stopCause .trip (some (inputSubject i))

/-- An input's record latches (R113). -/
def State.latchInput (s : State) (i : InputId) : State :=
  let s1 := s.onInput i fun f => { f with latched := true, position := s.linePos, count := countUp 255 f.count }
  let s2 := (s1.sendReports s).lineAction i
  s2.raise .inputTrip (inputSubject i) (natBytes 1 (s2.input i).action.ctorIdx ++ natBytes 6 (s2.input i).position)

/-- The record latches when the input is active and the record is clear (R113). -/
def State.judgeInput (s : State) (i : InputId) : State :=
  if (s.input i).active && !(s.input i).latched then s.latchInput i else s

/-- An input with action HOLD has a latched record (R114). -/
def State.holdRecord (s : State) : Bool := (allIds 4).any fun i => (s.input i).latched && decide ((s.input i).action = .hold)

/-- The latched records of inputs with action TRIP (R114). -/
def State.tripRecords (s : State) : List InputId :=
  (allIds 4).filter fun i => (s.input i).latched && decide ((s.input i).action = .trip)

/-- The active inputs with action TRIP, latched or not (R155). -/
def State.activeTrips (s : State) : List InputId :=
  (allIds 4).filter fun i => (s.input i).active && decide ((s.input i).action = .trip)

end Sys2Proof.Machine
end

