-- ==== Sys2Proof/Machine/DryEndCore.lean ====
section
/-! DEFINITION. The dry end controller's own rules: the next cut, the KNIFE claims, the slitter-scorer requests (R118 to R124, R131). -/

namespace Sys2Proof.Machine

/-! ### The next cut -/

/-- The first ORDER_CHANGE mark whose start is at or above a position (R123, R126). -/
def State.firstChange (s : State) (b : Nat) : Option Mark := s.map.marks.find? fun m => m.isChange && decide (b ≤ m.start)

/-- The incoming tag of an ORDER_CHANGE mark. -/
def Mark.incoming (m : Mark) : Option Nat :=
  match m.body with
  | .orderChange _ t _ => t
  | _ => none

/-- A derived next cut: its position and kind, the change target with the incoming tag of its mark (section 7.3). -/
structure NextCut where
  pos : Nat
  kind : CutKind
  target : Option Nat
  incoming : Option Nat
  deriving DecidableEq, Repr

/-- The next cut in SHEET mode (R123). -/
def sheetCutFrom (b len ls : Nat) (m : Option Mark) : NextCut :=
  match m with
  | none => { pos := b + len, kind := .sheetCut, target := none, incoming := none }
  | some m =>
    let (pos, kind) :=
      if b + len ≤ m.start then (b + len, CutKind.sheetCut)
      else if ls ≤ m.start - b then (m.start, CutKind.scrapCut)
      else (m.start + ls, CutKind.scrapCut)
    { pos := pos, kind := kind, target := some m.start, incoming := m.incoming }

/-- The next cut in SCRAP mode (R124). -/
def scrapCutFrom (b z ls : Nat) : NextCut :=
  { pos := if z - b < 2 * ls then z else b + ls, kind := .scrapCut, target := none, incoming := none }

/-- A lane's next cut, none in IDLE mode (R123, R124). -/
def State.nextCut (s : State) (j : LaneId) : Option NextCut :=
  let l := s.lane j
  match l.mode, l.base, l.scrapEnd with
  | .sheet, some b, _ => some (sheetCutFrom b l.sheetLen s.dec.scrapLen (s.firstChange b))
  | .scrap, some b, some z => some (scrapCutFrom b z s.dec.scrapLen)
  | _, _, _ => none

/-! ### The KNIFE ceiling (R131) -/

/-- The piece length a lane claims by, in 0.1 mm. -/
def State.claimLength (s : State) (j : LaneId) (b : Nat) : Nat :=
  let l := s.lane j
  let near :=
    match s.firstChange b with
    | some m => decide (m.start - b ≤ s.dec.changeLead)
    | none => false
  let scrapNext :=
    match s.nextCut j with
    | some n => decide (n.kind = .scrapCut)
    | none => false
  if l.mode = .scrap || near || scrapNext then s.dec.scrapLen else l.sheetLen

/-- A lane's claim in m/min: the piece length in millimetres times the rate, divided by 1,000, rounded down, held at 400. -/
def State.knifeClaim (s : State) (j : LaneId) : Option Nat :=
  match (s.lane j).mode, (s.lane j).base with
  | .idle, _ => none
  | _, some b => some (min 400 (s.claimLength j b * s.dec.rates[j] / 10000))
  | _, none => none

/-- The KNIFE entry is the lower claim of the two lanes, absent when neither claims. -/
def State.evalKnife (s : State) : State := s.setEntry .knife (leastClaim ((allIds 2).map fun j => (s.lane j).claim))

/-- One lane's claim and the KNIFE entry are evaluated. -/
def State.evalLaneClaim (s : State) (j : LaneId) : State := (s.onLane j fun l => { l with claim := s.knifeClaim j }).evalKnife

/-- The lane's next cut is derived from the unlocked end mark. -/
def State.findsEndMark (s : State) (j : LaneId) : Bool :=
  match (s.lane j).mode, (s.lane j).base with
  | .sheet, some b =>
    match s.firstChange b with
    | some m => m.isUnlockedChange
    | none => false
  | _, _ => false

/-- The claims are evaluated at a move of the end mark found by the lane. -/
def State.endMarkMoved (s : State) : State :=
  s.forAll 2 fun t j => if t.findsEndMark j then t.evalLaneClaim j else t

/-! ### Required cuts handed by the OBK (R129) -/

/-- The required cuts of an order lane as last handed. -/
def CutLane.required (l : CutLane) (tag : Nat) : Option Nat := (l.handed.find? fun h => h.1 = tag).map (·.2)

/-- Required cuts taken. -/
def CutLane.hand (l : CutLane) (tag cuts : Nat) : CutLane :=
  { l with handed := (l.handed.filter fun h => h.1 ≠ tag) ++ [(tag, cuts)] }

/-- An order lane's required cuts dropped. -/
def CutLane.drop (l : CutLane) (tag : Nat) : CutLane := { l with handed := l.handed.filter fun h => h.1 ≠ tag }

/-! ### Slitter-scorer stations (R118 to R120) -/

/-- The subject of a station (R173). -/
def slitSubject (i : SlitId) : Subject := ⟨.slitterStation, i.val + 1⟩

/-- The station's condition reported to the OBK, which keeps it as the STAGED order's setup condition (R43). -/
def State.reportSetup (s : State) (i : SlitId) (c : SetupCond) : State :=
  match (s.slit i).setup with
  | some g => s.onOrder g.tag fun o => { o with setup := c }
  | none => s

/-- Positioning begins: the setup goes to the head drives, the timer starts, POSITIONING is reported (R118, R119). -/
def State.startPositioning (s : State) (i : SlitId) (g : Setup) : State :=
  (s.onSlit i fun t => { t with setup := some g, heads := .goto g, state := .positioning }).reportSetup i .positioning

/-- A cancel request (R119). -/
def State.cancelStation (s : State) (i : SlitId) : State :=
  match (s.slit i).state with
  | .positioning | .ready | .fault => s.onSlit i fun t => { t with setup := none, heads := .stop, state := .idle }
  | .idle | .engaged => s

/-- An engage request (R120). -/
def State.engageStation (s : State) (i : SlitId) : State := s.onSlit i fun t => { t with state := .engaged }

/-- A swap request: the ENGAGED station goes to IDLE with its setup cleared and the READY station to ENGAGED, in one act (R120). -/
def State.swapStations (s : State) (i : SlitId) : State :=
  s.forAll 2 fun t k =>
    t.onSlit k fun g =>
      if k = i then { g with state := .engaged }
      else if g.state = .engaged then { g with state := .idle, setup := none }
      else g

end Sys2Proof.Machine
end

