-- ==== Sys2Proof/Machine/OrderCore.lean ====
section
/-! DEFINITION. The order book's own rules: the end mark, staging, lock, deferral, swap, first start, makeup, completion (R42 to R57). -/

namespace Sys2Proof.Machine

/-- The subject of an order (R173). -/
def orderSubject (tag : Nat) : Subject := ⟨.order, tag⟩

/-! ### Run length and limits (R44) -/

/-- The run-time fields of an order lane. -/
def Order.run (o : Order) (j : LaneId) : LaneRun := o.runs[j]

/-- The required cuts of a lane: ceil(target / outs) + makeup; 0 for a lane the order lacks. -/
def Order.required (o : Order) (j : LaneId) : Nat :=
  match o.lane j with
  | some l => (l.target + l.outs - 1) / l.outs + (o.run j).makeup
  | none => 0

/-- A lane's required cuts times its sheet length, in 0.1 mm. -/
def Order.laneLength (o : Order) (j : LaneId) : Nat :=
  match o.lane j with
  | some l => o.required j * mm l.length
  | none => 0

/-- The run length: the greatest over the order's lanes. -/
def Order.runLength (o : Order) : Nat := max (o.laneLength 0) (o.laneLength 1)

/-- The upstream limit U = LINE − D_SLIT + M_LOCK + 1. -/
def State.upstreamLimit (s : State) : Nat := s.linePos + s.obk.lockMargin + 1 - s.dSlit

/-- The required cuts of a lane handed to the DEC (R44, R129). -/
def State.handLane (s : State) (o : Order) (j : LaneId) : State :=
  match o.lane j with
  | some _ => s.onLane j fun l => l.hand o.tag (o.required j)
  | none => s

/-- The required cuts of each lane handed to the DEC. -/
def State.handCuts (s : State) (o : Order) : State := (s.handLane o 0).handLane o 1

/-! ### The GRADE entry (R50, R157) -/

/-- The speed limit of an order's grade. -/
def State.gradeLimit (s : State) (o : Order) : Option Nat := (s.gradeEntry o.grade).map (·.limit)

/-- The grades of the RUNNING order and, with a locked end mark, of the incoming order are given to the LSV. -/
def State.nameGrades (s : State) : State :=
  match s.runningOrder with
  | some o =>
    s.setEntry .grade
      (leastClaim [s.gradeLimit o, if s.obk.endStatus = .locked then s.stagedOrder.bind s.gradeLimit else none])
  | none => s.setEntry .grade none

/-! ### The end mark (R45) -/

/-- The status of the end mark. -/
def State.setEndStatus (s : State) (e : EndStatus) : State := { s with obk := { s.obk with endStatus := e } }

/-- The insert request of the RUNNING order's end mark; one that is not stored is kept as a pending insertion. -/
def State.insertEndMark (s : State) (o : Order) (incoming : Option Nat) : State :=
  let (s1, a) :=
    s.insertMark { start := o.endPos, finish := some (o.endPos + s.zc), body := .orderChange o.tag incoming false }
  if a = .stored then { s1 with obk := { s1.obk with endStatus := .unlocked, pendingIncoming := none } }
  else { s1 with obk := { s1.obk with endStatus := .pending, pendingIncoming := incoming } }

/-- E set; when it changes, a placed unlocked mark is moved, and the KNIFE claims see the move (R45, R131). -/
def State.moveEnd (s : State) (o : Order) (e : Nat) : State :=
  let s1 := s.onOrder o.tag fun x => { x with endPos := e }
  if e ≠ o.endPos ∧ s.obk.endStatus = .unlocked then (s1.moveMark e).endMarkMoved else s1

/-- The incoming tag set or cleared on the unlocked mark or on the pending record (R42, R55). -/
def State.setEndIncoming (s : State) (t : Option Nat) : State :=
  match s.obk.endStatus with
  | .unlocked => s.setIncoming t
  | .pending => { s with obk := { s.obk with pendingIncoming := t } }
  | .none | .locked => s

/-- On a removal event: the pending E is raised to U when below it, and the insertion is retried (R45). -/
def State.retryPending (s : State) : State :=
  if s.obk.endStatus = .pending then
    match s.runningOrder with
    | some o =>
      let e := max o.endPos s.upstreamLimit
      (s.onOrder o.tag fun x => { x with endPos := e }).insertEndMark { o with endPos := e } s.obk.pendingIncoming
    | none => s
  else s

/-! ### Staging (R42) -/

/-- The IDLE station staging takes: SSA when both are IDLE. -/
def State.idleStation (s : State) : Option SlitId := (allIds 2).find? fun i => (s.slit i).state = .idle

/-- Staging is applied. -/
def State.applyStaging (s : State) : State :=
  match s.stagedOrder, s.idleStation, s.orderIn .queued with
  | none, some i, some o =>
    let s1 := s.onOrder o.tag fun x => { x with phase := .staged, station := some i, setup := .positioning }
    let s2 := s1.startPositioning i { tag := o.tag, knives := o.knives, scores := o.scores }
    (s2.setEndIncoming (some o.tag)).raise .orderStaged (orderSubject o.tag) (natBytes 1 (i.val + 1))
  | _, _, _ => s

/-! ### Lock point and deferral (R47, R48) -/

/-- The lock point of an end mark at E is reached: LINE ≥ E + D_SLIT − M_LOCK. -/
def State.lockReached (s : State) (e : Nat) : Bool := decide (e + s.dSlit ≤ s.linePos + s.obk.lockMargin)

/-- The staged order, when its setup condition is READY. -/
def State.readyOrder (s : State) : Option Order := s.stagedOrder.filter fun o => o.setup = .ready

/-- The end mark locks (R47). -/
def State.lockEnd (s : State) (o t : Order) : State :=
  let s1 := (s.lockMark).setEndStatus .locked
  let s2 : State := { s1 with obk := { s1.obk with deferral := false } }
  (((s2.setEntry .setup none).removeHold .setupOverdue).nameGrades).raise .orderLocked (orderSubject o.tag)
    (natBytes 6 o.endPos ++ natBytes 2 t.tag)

/-- A deferral (R48). -/
def State.deferEnd (s : State) (o : Order) : State :=
  let e := o.endPos + s.obk.deferStep
  let d := min (Config.posLimit - 1) (o.deferred + s.obk.deferStep)
  let s1 := (s.moveEnd o e).onOrder o.tag fun x => { x with deferred := d }
  let s2 : State := { s1 with obk := { s1.obk with deferral := true } }
  let s3 := (s2.setEntry .setup (some s.obk.setupCrawl)).raise .orderDeferred (orderSubject o.tag) (natBytes 6 e ++ natBytes 6 d)
  if o.deferred < s.obk.maxDeferral ∧ s.obk.maxDeferral ≤ d then s3.addHold .setupOverdue else s3

/-- The lock test, made again after each deferral until the lock point lies beyond LINE or the mark locks. -/
def State.lockLoop : Nat → State → State
  | 0, s => s
  | fuel + 1, s =>
    match s.runningOrder with
    | some o =>
      if s.obk.endStatus = .unlocked && s.lockReached o.endPos then
        match s.readyOrder with
        | some t => s.lockEnd o t
        | none => (s.deferEnd o).lockLoop fuel
      else s
    | none => s

/-- How many deferrals a lock test can take: each moves E by the defer step. -/
def State.lockFuel (s : State) : Nat :=
  match s.runningOrder with
  | some o => (s.linePos + s.obk.lockMargin - (o.endPos + s.dSlit)) / max 1 s.obk.deferStep + 2
  | none => 0

/-- The lock test of a LINE advance (R47). -/
def State.lockTest (s : State) : State := s.lockLoop s.lockFuel

/-! ### Completion (R57) -/

/-- Every lane the order uses has its complete flag set. -/
def Order.allComplete (o : Order) : Bool := (o.run 0).complete && (o.lane2.isNone || (o.run 1).complete)

/-- The outcome of a completed order. -/
def Order.finalOutcome (o : Order) : OrderOutcome :=
  if 0 < (o.run 0).short ∨ 0 < (o.run 1).short then .short else if o.cutShort then .cutShort else .complete

/-- The lanes an order uses. -/
def Order.lanes (o : Order) : List LaneId := if o.lane2.isSome then [0, 1] else [0]

/-- The short cuts of each lane the order uses, as ORDER_SHORT carries them: one value a lane, with no count byte (log 13). -/
def Order.shortBytes (o : Order) : List Byte := o.lanes.flatMap fun j => natBytes 4 (o.run j).short

/-- A DRAINING order with every lane complete becomes DONE; it joins the tail of the book, so that DONE orders stand in the order in
which they became DONE (R60). -/
def State.doneTest (s : State) (tag : Nat) : State :=
  match s.findOrder tag with
  | some o =>
    if o.phase = .draining && o.allComplete then
      let d : Order := { o with phase := .done, outcome := o.finalOutcome }
      let s1 : State := { s with obk := { s.obk with orders := (s.obk.orders.filter fun x => x.tag ≠ tag) ++ [d] } }
      let s2 := s1.raise .orderDone (orderSubject tag) (natBytes 1 d.outcome.ctorIdx)
      if d.outcome = .short then s2.raise .orderShort (orderSubject tag) o.shortBytes else s2
    else s
  | none => s

/-- An order-lane completion report; a report for an order not in the book is ignored. -/
def State.completionReport (s : State) (tag : Nat) (j : LaneId) : State :=
  (s.onRun tag j fun r => { r with complete := true }).doneTest tag

/-! ### Becoming RUNNING (R49, R51) -/

/-- The order record as it stands on becoming RUNNING at a start. -/
def Order.started (o : Order) (start : Nat) : Order :=
  { o with phase := .running, start := start, endPos := start + o.runLength, deferred := 0 }

/-- An order becomes RUNNING: its record, its required cuts, its end mark, the GRADE entry, ORDER_STARTED, staging. -/
def State.startOrder (s : State) (o : Order) (start : Nat) : State :=
  let r := o.started start
  let s1 := ((s.onOrder o.tag fun _ => r).handCuts r).insertEndMark r none
  (s1.nameGrades.raise .orderStarted (orderSubject o.tag) (natBytes 6 start)).applyStaging

/-- The swap test of a LINE advance (R49). -/
def State.swapTest (s : State) : State :=
  match s.runningOrder, s.stagedOrder with
  | some o, some t =>
    if s.obk.endStatus = .locked ∧ o.endPos + s.dSlit ≤ s.linePos then
      let s1 :=
        match t.station with
        | some i => s.swapStations i
        | none => s
      let s2 := s1.onOrder o.tag fun x => { x with phase := .draining, station := none }
      (s2.startOrder t (o.endPos + s.zc)).doneTest o.tag
    else s
  | _, _ => s

/-- The lanes of the DEC at first start (R127). -/
def State.beginLane (s : State) (o : Order) (start : Nat) (j : LaneId) : State :=
  let c := s.linePos - s.dCut
  let s1 := s.onLane j fun l =>
    let base : CutLane := { l with
      sheetPiece := false, skipped := false, prevReject := false, cycling := false, skips := 0, good := 0 }
    match o.lane j with
    | some _ =>
      { base with mode := .scrap, order := some o.tag, pieceStart := some c, base := some c, scrapEnd := some start, resume := none }
    | none =>
      { base with mode := .idle, order := none, pieceStart := none, base := none, scrapEnd := none, resume := some start }
  s1.evalLaneClaim j

/-- First start (R51). -/
def State.firstStart (s : State) : State :=
  match s.stagedOrder with
  | some t =>
    let start := s.linePos + s.zc
    let s1 :=
      match t.station with
      | some i => s.engageStation i
      | none => s
    let s2 := (s1.beginLane t start 0).beginLane t start 1
    s2.startOrder t start
  | none => s

/-! ### Makeup (R52, R53) -/

/-- The end mark is unlocked, placed or pending. -/
def EndStatus.canMove : EndStatus → Bool
  | .unlocked | .pending => true
  | .none | .locked => false

/-- The conditions on which a makeup request is granted (R52). -/
def State.grantsMakeup (s : State) (o : Order) (j : LaneId) : Bool :=
  decide (o.phase = .running) && s.obk.endStatus.canMove && !o.cancelled && decide ((o.run j).makeup < o.makeupLimit)

/-- A makeup request of the DEC (R52, R53). -/
def State.makeupRequest (s : State) (tag : Nat) (j : LaneId) : State :=
  match s.findOrder tag with
  | some o =>
    match o.lane j with
    | some _ =>
      if s.grantsMakeup o j then
        let r : Order := { o with runs := modifyAt o.runs j fun x => { x with makeup := x.makeup + 1 } }
        let s1 := (s.onOrder tag fun _ => r).handLane r j
        if r.endPos < r.start + r.runLength then s1.moveEnd r (r.start + r.runLength) else s1
      else s.onRun tag j fun x => { x with short := countUp 999999 x.short }
    | none => { s with obk := { s.obk with stray := countUp 65535 s.obk.stray } }
  | none => { s with obk := { s.obk with stray := countUp 65535 s.obk.stray } }

end Sys2Proof.Machine
end

