-- ==== Sys2Proof/Machine/StackCore.lean ====
section
/-! DEFINITION. The stacker unit's own rules: gates, layers, offers, ejects, holdback, tallies (R134 to R146). -/

namespace Sys2Proof.Machine

/-- The top of the tally counts (R145). -/
def tallyTop : Nat := 999999

/-- The subject of a stacker, and of a lane (R173). -/
def stackerSubject (j : StackerId) : Subject := ⟨.stacker, j.val + 1⟩

def laneSubject (j : LaneId) : Subject := ⟨.lane, j.val + 1⟩

/-- The tally of an order lane, if the order is in the book. -/
def State.tally (s : State) (tag : Nat) (j : LaneId) : Option Tally := (s.findOrder tag).map fun o => (o.run j).tally

/-- The stack height of an order lane, read from the order book (R137). -/
def State.stackHeight (s : State) (tag : Nat) (j : LaneId) : Option Nat :=
  (s.findOrder tag).bind fun o => (o.lane j).map (·.height)

/-- A stack of `count` layers is full. -/
def State.stackFull (s : State) (tag count : Nat) (j : LaneId) : Bool :=
  match s.stackHeight tag j with
  | some h => decide (h ≤ count)
  | none => false

/-! ### The STACKER ceiling (R142) -/

/-- A stacker's claim: its crawl speed while its holdback holds at least its warn level. -/
def Stacker.claim (t : Stacker) : Option Nat := if t.warn ≤ t.holdback.length then some t.crawl else none

/-- The STACKER entry is the lower claim of the two stackers, absent when neither claims. -/
def State.evalStacker (s : State) : State :=
  s.setEntry .stacker (leastClaim ((allIds 2).map fun j => (s.stacker j).claim))

/-! ### The offer step (R138, R139) -/

/-- EJECTING is entered with the eject terminal pulsed and the eject timer started with the eject limit (R139, R143). -/
def State.enterEjecting (s : State) (j : StackerId) : State :=
  s.onStacker j fun t => { t with state := .ejecting, eject := true, timerLimit := t.ejectLimit }

/-- OFFERED is entered, and EJECTING at once when conveyor-ready is already active. -/
def State.enterOffered (s : State) (j : StackerId) : State :=
  let s1 := s.onStacker j fun t => { t with state := .offered }
  if (s1.stacker j).conveyorReady then s1.enterEjecting j else s1

/-- The offer step: DUE while the stack record list is full, OFFERED otherwise. -/
def State.offerStep (s : State) (j : StackerId) (isPartial : Bool) : State :=
  let s1 := s.onStacker j fun t => { t with partialFlag := isPartial }
  if (s1.stacker j).records.length < Config.recordCapacity then s1.enterOffered j
  else s1.onStacker j fun t => { t with state := .due }

/-! ### Completion and drain (R141, R146) -/

/-- A stacker holds no layer of an order, in the stack or in holdback. -/
def Stacker.freeOf (t : Stacker) (tag : Nat) : Bool := decide (t.tag ≠ some tag) && !t.holdback.contains tag

/-- The completion test of an order lane; its report is sent once (R146). -/
def State.completionTest (s : State) (tag : Nat) (j : LaneId) : State :=
  match s.tally tag j with
  | some t =>
    if t.drained && !t.reported && (s.stacker j).freeOf tag then
      (s.onTally tag j fun t => { t with reported := true }).completionReport tag j
    else s
  | none => s

/-- The stacker stands in STACKING with a stack of the order. -/
def Stacker.stacksOf (t : Stacker) (tag : Nat) : Bool :=
  decide (t.state = .stacking) && decide (t.tag = some tag) && decide (0 < t.count)

/-- The drain test of an order lane: becoming drained, a STACKING stack of it is offered as a tail (R141). -/
def State.drainTest (s : State) (tag : Nat) (j : LaneId) : State :=
  match s.tally tag j with
  | some t =>
    if t.laneEnd && decide (t.inQueue = 0) && !t.drained then
      let s1 := s.onTally tag j fun t => { t with drained := true }
      let s2 := if (s1.stacker j).stacksOf tag then s1.offerStep j true else s1
      s2.completionTest tag j
    else s
  | none => s

/-- The DEC's lane-end report (R124, R141). -/
def State.laneEndReport (s : State) (tag : Nat) (j : LaneId) : State :=
  (s.onTally tag j fun t => { t with laneEnd := true }).drainTest tag j

/-! ### Taking a layer (R137, R142) -/

/-- The reasons of STACKER_FAULT (R175). -/
inductive StackerFaultReason
  | ejectLimit
  | holdbackFull
  deriving DecidableEq, Repr

/-- STACKER_FAULT raised: reason and order tag, 0 when there is none (R172, R175). -/
def State.raiseStacker (s : State) (j : StackerId) (r : StackerFaultReason) (tag : Option Nat) : State :=
  s.raise .stackerFault (stackerSubject j) (natBytes 1 r.ctorIdx ++ natBytes 2 (tag.getD 0))

/-- A layer taken adds 1 to the layers-stacked count. -/
def State.countStacked (s : State) (tag : Nat) (j : StackerId) : State :=
  s.onTally tag j fun t => { t with stacked := countUp tallyTop t.stacked }

/-- A layer at the tail of holdback. -/
def State.holdLayer (s : State) (tag : Nat) (j : StackerId) : State :=
  (s.onStacker j fun t => { t with holdback := t.holdback ++ [tag] }).evalStacker

/-- A layer lost at a full holdback (R142). -/
def State.loseLayer (s : State) (tag : Nat) (j : StackerId) : State :=
  let s1 := s.onTally tag j fun t => { t with jamLost := countUp tallyTop t.jamLost }
  let s2 := s1.stopCause .stackJam (some (stackerSubject j))
  (s2.raiseStacker j .holdbackFull (some tag)).completionTest tag j

/-- A layer on the stack of its order, offered when full. -/
def State.stackLayer (s : State) (tag count : Nat) (j : StackerId) : State :=
  let s1 := (s.onStacker j fun t => { t with tag := some tag, count := count }).countStacked tag j
  if s1.stackFull tag count j then s1.offerStep j false else s1

/-- A layer delivered to a stacker (R137). -/
def State.takeLayer (s : State) (tag : Nat) (j : StackerId) : State :=
  let t := s.stacker j
  if t.state = .stacking then
    match t.tag with
    | none => s.stackLayer tag 1 j
    | some x =>
      if x = tag then s.stackLayer tag (t.count + 1) j
      else ((s.holdLayer tag j).countStacked tag j).offerStep j true
  else if t.holdback.length < Config.holdbackCapacity then (s.holdLayer tag j).countStacked tag j
  else s.loseLayer tag j

/-! ### The eject (R140) -/

/-- The holdback taken in order after an eject: the head run becomes the new stack (R140). The partial flag is for the stack being offered;
back in STACKING none is, and it is clear (log 44). -/
def State.refillStack (s : State) (j : StackerId) : State :=
  match (s.stacker j).holdback with
  | [] => s.onStacker j fun t => { t with state := .stacking, tag := none, count := 0, partialFlag := false }
  | tag :: _ =>
    let held := (s.stacker j).holdback
    let run := (held.takeWhile (· = tag)).length
    let n :=
      match s.stackHeight tag j with
      | some h => min h run
      | none => run
    let s1 := s.onStacker j fun t =>
      { t with state := .stacking, tag := some tag, count := n, partialFlag := false, holdback := held.drop n }
    let drained :=
      match s.tally tag j with
      | some t => t.drained
      | none => false
    if s1.stackFull tag n j then s1.offerStep j false
    else if !(s1.stacker j).holdback.isEmpty || drained then s1.offerStep j true
    else s1

/-- The sheet-eye count and the stack count differ by more than the tolerance. -/
def countsDiffer (eye count tolerance : Nat) : Bool := decide (count + tolerance < eye) || decide (eye + tolerance < count)

/-- The eject of a stack of an order completes (R140, R146). -/
def State.completeEject (s : State) (j : StackerId) : State :=
  let t := s.stacker j
  let eye := s.lcu.eyes[j].count
  let s1 := s.onEye j fun e => { e with count := 0 }
  match t.tag with
  | none => (s1.refillStack j).evalStacker
  | some tag =>
    let s2 := s1.onTally tag j fun y => { y with stacksMade := countUp tallyTop y.stacksMade }
    let number := ((s2.tally tag j).map (·.stacksMade)).getD 0
    let mismatch := countsDiffer eye t.count t.tolerance
    let s3 := s2.onStacker j fun x =>
      { x with
        records := x.records ++
          [{ tag := tag, number := number, layers := t.count, partialFlag := t.partialFlag, mismatch := mismatch }] }
    let s4 :=
      if mismatch then
        s3.raise .countMismatch (stackerSubject j)
          (natBytes 2 tag ++ natBytes 4 number ++ natBytes 2 t.count ++ natBytes 2 eye)
      else s3
    let s5 := s4.raise .stackReady (stackerSubject j) (natBytes 2 tag ++ natBytes 4 number ++ natBytes 2 t.count)
    ((s5.refillStack j).evalStacker).completionTest tag j

/-! ### The gates and deliveries (R134 to R136) -/

/-- The gate terminal set for a gate head (R134). -/
def gateFor (p : Piece) : Gate := if p.cls = .good then .accept else .reject

/-- The terminal set for the gate head, if there is one; with none it keeps its setting. -/
def State.setGateHead (s : State) (j : LaneId) : State :=
  match (s.queue j).unjudged with
  | p :: _ => s.setGate j (gateFor p)
  | [] => s

/-- One piece of an order lane less in the sheet queue. -/
def State.leaveQueue (s : State) (tag : Nat) (j : LaneId) : State := s.onTally tag j fun t => { t with inQueue := t.inQueue - 1 }

/-- A diverted piece's effect: layers diverted of its order lane, or the line scrap tally (R135). -/
def State.divert (s : State) (p : Piece) (j : LaneId) : State :=
  if p.tag = 0 then
    { s with stk := { s.stk with
        scrapPieces := countUp 4294967295 s.stk.scrapPieces
        scrapLength := min (Config.posLimit - 1) (s.stk.scrapLength + (p.finish - p.start)) } }
  else
    ((s.onTally p.tag j fun t => { t with diverted := countUp tallyTop t.diverted }).leaveQueue p.tag j).drainTest p.tag j

/-- The gate heads that have passed the gate are judged, one at a time (R134). -/
def State.judgeGate (j : LaneId) : Nat → State → State
  | 0, s => s
  | fuel + 1, s =>
    match (s.queue j).unjudged with
    | [] => s
    | p :: rest =>
      if p.finish + s.dRej ≤ s.linePos then
        let accepts := decide (p.cls = .good)
        let s1 := s.onQueue j fun q =>
          { accepted := if accepts then q.accepted ++ [p] else q.accepted, unjudged := rest }
        let s2 := s1.setGateHead j
        (if accepts then s2 else s2.divert p j).judgeGate j fuel
      else s

/-- The accepted pieces that reach their stacker are delivered, each as one layer (R136). -/
def State.deliver (j : LaneId) : Nat → State → State
  | 0, s => s
  | fuel + 1, s =>
    match (s.queue j).accepted with
    | [] => s
    | p :: rest =>
      if p.finish + s.dStk j ≤ s.linePos then
        let s1 := (s.onQueue j fun q => { q with accepted := rest }).leaveQueue p.tag j
        ((s1.takeLayer p.tag j).drainTest p.tag j).deliver j fuel
      else s

/-- The STK's part of a LINE advance: the gates of lane 1 and lane 2, then the deliveries of lane 1 and of lane 2, so that ST1 takes, or
loses, its layer before ST2 (log 2). -/
def State.stackAdvance (s : State) : State :=
  let s1 := s.forAll 2 fun t j => t.judgeGate j (t.queue j).unjudged.length
  s1.forAll 2 fun t j => t.deliver j (t.queue j).accepted.length

/-- The index of a class in the tally (KNIFE_SKIP to GOOD). -/
def classIndex : PieceClass → Option (Fin 8)
  | .changeScrap => none
  | .knifeSkip => some 0
  | .untracked => some 1
  | .splice => some 2
  | .bond => some 3
  | .host => some 4
  | .gateLag => some 5
  | .overrun => some 6
  | .good => some 7

/-- A piece appended by the DEC (R130, R134, R145). -/
def State.appendPiece (s : State) (p : Piece) (j : LaneId) : State :=
  let s1 := (s.onQueue j fun q => { q with unjudged := q.unjudged ++ [p] }).setGateHead j
  if p.tag = 0 then s1
  else
    s1.onTally p.tag j fun t =>
      { t with
        classes := match classIndex p.cls with
          | some i => modifyAt t.classes i (countUp tallyTop)
          | none => t.classes
        inQueue := countUp 96 t.inQueue }

end Sys2Proof.Machine
end

