-- ==== Sys2Proof/Machine/CutCore.lean ====
section
/-! DEFINITION. Cut events of the cut-off lanes: closing, classing, skips, mode changes, resuming (R122, R124 to R128). -/

namespace Sys2Proof.Machine

/-- A covering mark is a JOINT. -/
def Mark.isJoint (m : Mark) : Bool :=
  match m.body with
  | .joint .. => true
  | _ => false

/-- A covering mark is a BOND_RISK span or a RESTART mark. -/
def Mark.isBond (m : Mark) : Bool :=
  match m.body with
  | .bondRisk _ => true
  | .restart => true
  | _ => false

/-- A covering mark is a HOST_MARK. -/
def Mark.isHost (m : Mark) : Bool :=
  match m.body with
  | .hostMark _ => true
  | _ => false

/-- n > RA while RA is present. -/
def State.untracked (s : State) (n : Nat) : Bool :=
  match s.map.ra with
  | some r => decide (r < n)
  | none => false

/-- The lane's good cuts are at or above the required cuts handed for its order. -/
def CutLane.overrun (l : CutLane) : Bool :=
  match l.order.bind l.required with
  | some r => decide (r ≤ l.good)
  | none => false

/-- The class of a sheet piece [a, n): the first of the list that applies (R128). -/
def State.sheetClass (s : State) (l : CutLane) (a n : Nat) : PieceClass :=
  let marks := s.covering a n
  if l.skipped then .knifeSkip
  else if s.untracked n then .untracked
  else if marks.any (·.isJoint) then .splice
  else if marks.any (·.isBond) then .bond
  else if marks.any (·.isHost) then .host
  else if l.prevReject && decide (n - a < s.dec.gateSwitch) then .gateLag
  else if l.overrun then .overrun
  else .good

/-- The classes for which a makeup request is sent (R128). -/
def PieceClass.asksMakeup : PieceClass → Bool
  | .knifeSkip | .untracked | .splice | .bond | .host | .gateLag => true
  | .changeScrap | .overrun | .good => false

/-- The open piece closed at n (R128, R130). -/
def State.closePiece (s : State) (j : LaneId) (n : Nat) (kind : CutKind) : State :=
  let l := s.lane j
  match l.pieceStart with
  | none => s
  | some a =>
    match (if l.sheetPiece && decide (kind = .sheetCut) then l.order else none) with
    | none =>
      (s.onLane j fun x => { x with prevReject := true }).appendPiece
        { tag := 0, start := a, finish := n, cls := .changeScrap, layers := 0 } j
    | some tag =>
      let c := s.sheetClass l a n
      let s1 := s.onLane j fun x =>
        { x with prevReject := decide (c ≠ .good), good := if c = .good then x.good + 1 else x.good }
      let s2 := s1.appendPiece { tag := tag, start := a, finish := n, cls := c, layers := 1 } j
      if c.asksMakeup then s2.makeupRequest tag j else s2

/-- Entering the zone (R124 step 1), by the change target and incoming tag that the cut was derived from. -/
def State.enterChange (s : State) (j : LaneId) (c : NextCut) (b : Nat) : State :=
  match (s.lane j).mode, c.target with
  | .sheet, some p =>
    if p ≤ b then
      let out := (s.lane j).order
      let s1 := s.onLane j fun l => { l with mode := .scrap, scrapEnd := some (p + s.zc), order := c.incoming, good := 0 }
      match out with
      | some tag => (s1.onLane j fun l => l.drop tag).laneEndReport tag j
      | none => s1
    else s
  | _, _ => s

/-- The lane record for lane j of an order in the book. -/
def State.laneRecord (s : State) (tag : Option Nat) (j : LaneId) : Option LaneSpec :=
  match tag with
  | some t => (s.findOrder t).bind fun o => o.lane j
  | none => none

/-- Leaving the zone (R124 step 2). -/
def State.leaveZone (s : State) (j : LaneId) (b : Nat) : State :=
  let l := s.lane j
  match l.mode, l.scrapEnd with
  | .scrap, some z =>
    if z ≤ b then
      match s.laneRecord l.order j with
      | some r => s.onLane j fun x => { x with mode := .sheet, sheetLen := mm r.length, scrapEnd := none, good := 0 }
      | none =>
        s.onLane j fun x =>
          { x with
            mode := .idle, order := none, pieceStart := none, base := none, scrapEnd := none, resume := some z
            sheetPiece := false, skipped := false, prevReject := false }
    else s
  | _, _ => s

/-- The mode changes after a cut event, and the KNIFE claim (R124, R131). -/
def State.modeChanges (s : State) (j : LaneId) (c : NextCut) : State := ((s.enterChange j c c.pos).leaveZone j c.pos).evalLaneClaim j

/-- A cut that fires (R122): the piece is closed, and the next piece opens in the mode the lane then has. -/
def State.fireKnife (s : State) (j : LaneId) (c : NextCut) : State :=
  let s1 := s.onLane j fun l => { l with fire := true, cycling := true, skips := 0 }
  let s2 := (s1.closePiece j c.pos c.kind).onLane j fun l =>
    { l with pieceStart := some c.pos, base := some c.pos, skipped := false, sheetPiece := false }
  (s2.modeChanges j c).onLane j fun l => { l with sheetPiece := decide (l.mode = .sheet) }

/-- A cut that is skipped (R125). -/
def State.skipCut (s : State) (j : LaneId) (c : NextCut) : State :=
  let s1 := s.onLane j fun l =>
    { l with
      skipped := true, skips := l.skips + 1, base := some c.pos
      sheetPiece := l.sheetPiece && decide (c.kind = .sheetCut) }
  let s2 := s1.raise .knifeSkipped (laneSubject j) (natBytes 6 c.pos)
  let s3 := if 2 ≤ (s2.lane j).skips then s2.stopCause .knifeFault (some (laneSubject j)) else s2
  s3.modeChanges j c

/-- An IDLE lane watching for the order that next uses it (R126). -/
def State.resumeLane (s : State) (j : LaneId) (r : Nat) : State :=
  match s.firstChange r with
  | some m =>
    if !m.isUnlockedChange && decide (m.start + s.zc + s.dCut ≤ s.linePos) then
      let a := m.start + s.zc
      match s.laneRecord m.incoming j with
      | some rec =>
        (s.onLane j fun l =>
          { l with
            mode := .sheet, order := m.incoming, sheetLen := mm rec.length, pieceStart := some a, base := some a
            resume := none, good := 0, prevReject := false, sheetPiece := true, skipped := false }).evalLaneClaim j
      | none => s.onLane j fun l => { l with resume := some a }
    else s
  | none => s

/-- A lane's part of a LINE advance: the next cut is derived, then the cut event is tested; an IDLE lane watches (R122, R126). -/
def State.laneAdvance (s : State) (j : LaneId) : State :=
  match s.nextCut j with
  | some c =>
    if c.pos + s.dCut ≤ s.linePos then
      if (s.lane j).cycling then s.skipCut j c else s.fireKnife j c
    else s
  | none =>
    match (s.lane j).mode, (s.lane j).resume with
    | .idle, some r => s.resumeLane j r
    | _, _ => s

/-- The DEC's part of a LINE advance: lane 1, then lane 2 (log 2). -/
def State.dryEndAdvance (s : State) : State := (s.laneAdvance 0).laneAdvance 1

end Sys2Proof.Machine
end

