-- ==== Sys2Proof/Machine/SpliceTests.lean ====
section
/-! DEFINITION. The splice stations' tests on length, confirmation, the arm swap and the last-splice record (R66 to R68, R72 to R75). -/

namespace Sys2Proof.Machine

/-- The reel-out test (R67). -/
def State.reelOutTest (s : State) (i : SpliceId) : State :=
  match (s.splice i).activeReel with
  | some r =>
    if r.remaining = 0 ∧ (s.splice i).phase ≠ .suspect then
      let s1 := s.onSplice i fun t => { t with activeReel := none }
      (s1.stopCause .reelOut (some (spliceSubject i))).raise .reelOut (spliceSubject i) (natBytes 4 r.tag)
    else s
  | none => s

/-- The reel-low test (R68). -/
def State.reelLowTest (s : State) (i : SpliceId) : State :=
  match (s.splice i).phase, (s.splice i).activeReel, (s.splice i).settings with
  | .idle, some r, some g =>
    if 0 < g.reelLow ∧ r.remaining ≤ g.reelLow ∧ r.lowReported = false then
      (s.onSplice i fun t => { t with activeReel := some { r with lowReported := true } }).raise .reelLow (spliceSubject i)
        (natBytes 4 r.tag ++ natBytes 6 r.remaining)
    else s
  | _, _, _ => s

/-- The tests made on entry to a state other than SUSPECT (R67, R68). -/
def State.entryTests (s : State) (i : SpliceId) : State := (s.reelOutTest i).reelLowTest i

/-- The path length of a station, 0 while it is unset. -/
def SpliceStation.pathLength (t : SpliceStation) : Nat := (t.settings.map (·.path)).getD 0

/-- A suspect joint as it is placed and recorded: its extents are four times JB and JA (R72). -/
def State.suspectJoint (s : State) (i : SpliceId) : JointRecord :=
  { position := (s.splice i).firePos.getD 0 + (s.splice i).pathLength, before := 4 * s.spc.jb, after := 4 * s.spc.ja
    suspect := true }

/-- A joint handed on (R72). -/
def State.handJoint (s : State) (i : SpliceId) (r : JointRecord) : State :=
  s.placeJoint i r.position r.before r.after r.suspect

/-- The confirm window runs out (R74). The suspect joint stays on the last-splice record's account until the verdict. -/
def State.windowEnds (s : State) (i : SpliceId) : State :=
  let r := s.suspectJoint i
  let s1 := ((s.disarmChannel i).handJoint i r).enterSplice i .suspect
  (s1.addHold .spliceSuspect).raise .spliceSuspect (spliceSubject i)
    (natBytes 6 ((s.splice i).firePos.getD 0) ++ natBytes 6 r.position)

/-- The window test (R74). -/
def State.windowTest (s : State) (i : SpliceId) : State :=
  match (s.splice i).phase, (s.splice i).windowEnd with
  | .confirming, some w => if w ≤ s.splicePos i then s.windowEnds i else s
  | _, _ => s

/-- The advance taken from the active reel's remaining length, held at 0 (R66). -/
def State.takePaper (s : State) (i : SpliceId) (d : Nat) : State :=
  s.onSplice i fun t => { t with activeReel := t.activeReel.map fun r => { r with remaining := r.remaining - d } }

/-- A station's part of an advance of its web counter (R66). -/
def State.spliceAdvance (s : State) (i : SpliceId) (d : Nat) : State :=
  if s.spliceInUse i then
    (((((s.takePaper i d).fireTest i).windowTest i).reelOutTest i).armTest i).reelLowTest i
  else s

/-- The other arm. -/
def Arm.other : Arm → Arm
  | .a => .b
  | .b => .a

/-- The arms swap: the standby reel becomes the running reel, less the web run since position c (R73, R75). -/
def State.swapArms (s : State) (i : SpliceId) (c : Nat) : State :=
  let ran := s.splicePos i - c
  s.onSplice i fun t =>
    { t with
      activeArm := t.activeArm.other
      activeReel := t.standbyReel.map fun r => { r with remaining := metres r.loadLength - ran }
      standbyReel := none }

/-- The last-splice record of a station's present arms (section 4.4). An active arm that is OUT gives no old tag, no old paper and the stub
0, and an outcome without a swap gives the arms as they stand (log 41). -/
def SpliceStation.spliceRecord (t : SpliceStation) (o : SpliceOutcome) (j : Option JointRecord) : LastSplice :=
  { outcome := o
    oldTag := t.activeReel.map (·.tag)
    oldPaper := t.activeReel.map (·.paper)
    stub := (t.activeReel.map (·.remaining)).getD 0
    newTag := t.standbyReel.map (·.tag)
    joint := j }

/-- The record written. -/
def State.writeSplice (s : State) (i : SpliceId) (r : LastSplice) : State := s.onSplice i fun t => { t with lastSplice := some r }

/-- SPLICE_DONE raised: old reel tag, stub, new reel tag, joint position, suspect flag (R73). -/
def State.raiseSpliceDone (s : State) (i : SpliceId) (r : LastSplice) (j : JointRecord) : State :=
  s.raise .spliceDone (spliceSubject i)
    (optBytes 4 r.oldTag ++ natBytes 6 r.stub ++ optBytes 4 r.newTag ++ natBytes 6 j.position ++ flagBytes j.suspect)

/-- A capture event confirms a CONFIRMING splice (R73). -/
def State.confirmSplice (s : State) (i : SpliceId) (c : Nat) : State :=
  if (s.splice i).phase = .confirming then
    let j : JointRecord := { position := c + (s.splice i).pathLength, before := s.spc.jb, after := s.spc.ja, suspect := false }
    let r := (s.splice i).spliceRecord .confirmed (some j)
    let s1 := (((s.handJoint i j).swapArms i c).enterSplice i .idle).onSplice i fun t =>
      { t with confirmed := countUp 65535 t.confirmed }
    (((s1.writeSplice i r).raiseSpliceDone i r j)).entryTests i
  else s

/-- The reasons of SPLICE_BLOCKED (R175). -/
inductive BlockedReason
  | notMatched
  | failed
  deriving DecidableEq, Repr

def State.raiseBlocked (s : State) (i : SpliceId) (r : BlockedReason) : State :=
  s.raise .spliceBlocked (spliceSubject i) (natBytes 1 r.ctorIdx)

/-- The match limit in MATCHING (R71). -/
def State.matchLimit (s : State) (i : SpliceId) : State :=
  let r := (s.splice i).spliceRecord .notMatched none
  let s1 := (s.onSplice i fun t =>
    { t with accelerate := false, force := false, notMatched := countUp 65535 t.notMatched }).enterSplice i .blocked
  ((s1.writeSplice i r).raiseBlocked i .notMatched).entryTests i

/-- The speed-match terminal going active (R71). -/
def State.takeMatch (s : State) (i : SpliceId) : State :=
  if s.spliceInUse i && decide ((s.splice i).phase = .matching) then (s.enterMatched i).entryTests i else s

/-- Hold cause SPLICE_SUSPECT is removed when no station remains in SUSPECT (R75). -/
def State.settleSuspect (s : State) : State :=
  if (allIds 7).any fun i => decide ((s.splice i).phase = .suspect) then s else s.removeHold .spliceSuspect

/-- The verdict TOOK (R75). -/
def State.verdictTook (s : State) (i : SpliceId) : State :=
  let j := s.suspectJoint i
  let r := (s.splice i).spliceRecord .took (some j)
  let s1 := ((s.swapArms i ((s.splice i).firePos.getD 0)).enterSplice i .idle).onSplice i fun t =>
    { t with taken := countUp 65535 t.taken }
  (((s1.writeSplice i r).raiseSpliceDone i r j).settleSuspect).entryTests i

/-- The verdict FAILED (R75). -/
def State.verdictFailed (s : State) (i : SpliceId) : State :=
  let j := s.suspectJoint i
  let r := (s.splice i).spliceRecord .failed (some j)
  let s1 := (s.enterSplice i .blocked).onSplice i fun t => { t with failed := countUp 65535 t.failed }
  (((s1.writeSplice i r).raiseBlocked i .failed).settleSuspect).entryTests i

end Sys2Proof.Machine
end

