-- ==== Sys2Proof/Machine/Advance.lean ====
section
/-! DEFINITION. Counters and position-advance events: classification of transitions, faults, and what each block does at an advance
(R2 to R8, R26 to R30; the order of the blocks is log 2). -/

namespace Sys2Proof.Machine

/-! ### Counter faults (R6) -/

/-- The subject of a counter (R173). -/
def counterSubject (i : CounterId) : Subject := ⟨.counter, i.val⟩

/-- A counter fault. -/
def State.counterFault (s : State) (i : CounterId) (k : FaultKind) : State :=
  let p := (s.counter i).pos
  let s1 := s.onCounter i fun c =>
    { c with
      faultRecord := some { kind := k, position := p }, faultCount := countUp 255 c.faultCount
      faulted := c.faulted || decide (i ≠ 0) || decide (k = .overrange) }
  let s2 := if i = 0 then s1.stopCause .trackingLost (some (counterSubject i)) else s1.addHold .webCounter
  s2.raise .counterFault (counterSubject i) (natBytes 1 k.ctorIdx ++ natBytes 6 p)

/-! ### The MAP at a LINE advance (R26, R28, R30) -/

/-- A mark leaves the map once its end + D_LAST is at or below LINE; an open span never does. -/
def State.leaves (s : State) (m : Mark) : Bool :=
  match m.finish with
  | some e => decide (e + s.dLast ≤ s.linePos)
  | none => false

/-- The marks due for removal leave in map order; each removal is delivered to the OBK, which retries its pending insertion. -/
def State.removeMarks : Nat → State → State
  | 0, s => s
  | fuel + 1, s =>
    match takeFirst s.leaves s.map.marks with
    | some (_, rest) => ((s.setMarks rest).retryPending).removeMarks fuel
    | none => s

/-- The subject of a bridge (R173). -/
def bridgeSubject (k : WebId) : Subject := ⟨.bridge, k.val + 1⟩

/-- A LINE advance taken from a bridge content (R28). -/
def State.consumeBridge (s : State) (d : Nat) (k : WebId) : State :=
  let b := (s.bridge k).content
  if !s.webInUse k then s
  else if d ≤ b then s.setContent k (b - d)
  else
    let s1 := (s.onBridge k fun g => { g with shortfall := min (Config.posLimit - 1) (g.shortfall + (d - b)) }).setContent k 0
    if s1.lsv.line.monitored then s1.stopCause .bridgeEmpty (some (bridgeSubject k)) else s1

/-- The transfers of a web in use (R30). -/
def State.transferWeb (s : State) (k : WebId) : State := if s.webInUse k then (s.transferDue k).1 else s

/-- The MAP's part of a LINE advance (R26, R28, R30); among the webs, 1, 2, 3 in rising order (log 2). -/
def State.mapAdvance (s : State) (d : Nat) : State :=
  let s1 := s.removeMarks s.map.marks.length
  (s1.forAll 3 fun t k => t.consumeBridge d k).forAll 3 State.transferWeb

/-! ### Advances (R5, R8) -/

/-- The error tally window of an advance (R5). -/
def Counter.window (c : Counter) : Counter := if c.tallyBase + 10000 ≤ c.pos then { c with tally := 0, tallyBase := c.pos } else c

/-- A LINE advance by d, LINE standing at its new position. -/
def State.lineAdvance (s : State) (d : Nat) : State :=
  let s1 := (s.onCounter 0 Counter.window).mapAdvance d
  let s2 := (s1.lockTest.swapTest).spliceAdvance 6 d
  (s2.dryEndAdvance.stackAdvance).bondLineAdvance

/-- The liner and medium stations of web k. -/
def webStations (k : WebId) : SpliceId × SpliceId := (⟨2 * k.val, by omega⟩, ⟨2 * k.val + 1, by omega⟩)

/-- An SFk advance by d. -/
def State.webAdvance (s : State) (k : WebId) (d : Nat) : State :=
  let s1 := s.onCounter k.succ Counter.window
  let s2 := s1.setContent k ((s1.bridge k).content + d)
  ((s2.spliceAdvance (webStations k).1 d).spliceAdvance (webStations k).2 d).bondWebAdvance k

/-- A counter's advance delivered to the blocks. -/
def State.deliverAdvance (s : State) (i : CounterId) (d : Nat) : State :=
  if h : i = 0 then s.lineAdvance d else s.webAdvance (i.pred h) d

/-! ### Transitions (R2, R3) -/

/-- The kinds of transition (R2). -/
inductive Transition
  | still
  | forward
  | reverse
  | illegal
  deriving DecidableEq, Repr

/-- The next state of the forward cycle 00, 10, 11, 01 (R2). -/
def nextPhase (p : Phase) : Phase := { a := !p.b, b := p.a }

/-- The classification of a transition from the reference phase state (R2). -/
def classify (old new : Phase) : Transition :=
  if new = old then .still
  else if new = nextPhase old then .forward
  else if old = nextPhase new then .reverse
  else .illegal

/-- The counter counts: in use, not FAULTED, and for SFk its web-present gate is open (R2, R6, R7). -/
def State.counting (s : State) (i : CounterId) : Bool :=
  s.counterInUse i && !(s.counter i).faulted && (if h : i = 0 then true else s.lcu.webPresent[i.pred h])

/-- A forward count (R3, R6). -/
def State.forwardCount (s : State) (i : CounterId) : State :=
  let c := s.counter i
  if 0 < c.debt then s.onCounter i fun x => { x with debt := x.debt - 1 }
  else if Config.posLimit ≤ (c.c + 1) * 10000 / c.scale then s.counterFault i .overrange
  else
    let s1 := s.onCounter i fun x => { x with c := x.c + 1 }
    let new := (s1.counter i).pos
    if c.pos < new then s1.deliverAdvance i (new - c.pos) else s1

/-- A reverse count; a debt that passes 500 mm is a DEBT fault (R3, R4). -/
def State.reverseCount (s : State) (i : CounterId) : State :=
  let c := s.counter i
  let s1 := s.onCounter i fun x => { x with debt := x.debt + 1 }
  if 2 * c.debt ≤ c.scale ∧ c.scale < 2 * (c.debt + 1) then s1.counterFault i .debt else s1

/-- An illegal transition; the rise of the tally from 3 to 4 is a TRANSITIONS fault (R5). -/
def State.illegalCount (s : State) (i : CounterId) : State :=
  let s1 := s.onCounter i fun x => { x with tally := countUp 255 x.tally }
  if (s.counter i).tally = 3 then s1.counterFault i .transitions else s1

/-- A transition taken by a counter whose reference phase state was `old` (R2, R3). -/
def State.takeTransition (s : State) (i : CounterId) (old new : Phase) : State :=
  if s.counting i then
    match classify old new with
    | .still => s
    | .forward => s.forwardCount i
    | .reverse => s.reverseCount i
    | .illegal => s.illegalCount i
  else s

end Sys2Proof.Machine
end

