-- ==== Sys2Proof/Machine/Length.lean ====
section
/-! DEFINITION. The commands of the Length Counting Unit (chapter 1). -/

namespace Sys2Proof.Machine

/-! ### What all host commands share -/

/-- The line state is one of a list. -/
def State.lineIn (s : State) (ls : List LineState) : Bool := ls.contains s.lsv.line

/-- A refused command: no state changes. -/
def State.refuse (s : State) (reply : List Byte) : State × List Byte := (s, reply)

/-- The state that a STATE reply gives for an UNUSED subject (log 14). -/
def unusedState : Nat := 1

/-- An 0.1 mm length in millimetres and in metres, as settings are sent (R172). -/
def inMm (v : Nat) : Nat := v / 10

def inMetres (v : Nat) : Nat := v / 10000

/-! ### Events -/

/-- ENCODER_TRANSITION (R2 to R8): the new phase state becomes the reference phase state in every case. -/
def execEncoderTransition (i : CounterId) (ph : Phase) (s : State) : Host.Outcome State Fault Refusal :=
  event (fun t => { t with lcu := { t.lcu with phases := modifyAt t.lcu.phases i fun _ => ph } })
    (fun t => (t.onCounter i fun c => { c with refPhase := ph }).takeTransition i (t.counter i).refPhase ph) s

/-- WEB_PRESENT_CHANGE (R7): the gate is a condition on each transition. -/
def execWebPresentChange (k : WebId) (active : Bool) (s : State) : Host.Outcome State Fault Refusal :=
  event (fun t => { t with lcu := { t.lcu with webPresent := modifyAt t.lcu.webPresent k fun _ => active } }) id s

/-- The measured speed of a sample: Δ × 6 / 100 rounded up and held at 400 (R9). -/
def speedOf (d : Nat) : Nat := min 400 ((d * 6 + 99) / 100)

/-- The LCU's part of a speed sample (R9). -/
def State.measure (s : State) : State :=
  { s with lcu := { s.lcu with measured := speedOf (s.linePos - s.lcu.sampleBase), sampleBase := s.linePos } }

/-- One step of the speed reference toward ten times the target (R158). -/
def rampStep (ref target accel decel : Nat) : Nat :=
  if ref < target then min target (ref + accel) else if target < ref then max target (ref - decel) else ref

/-- The ramp of a speed sample (R158). -/
def State.ramp (s : State) : State :=
  { s with lsv := { s.lsv with speedRef := rampStep s.lsv.speedRef (10 * s.lsv.ceiling.target) s.lsv.accel s.lsv.decel } }

/-- The ruling cause of the present stop. -/
def State.ruling (s : State) : Option StopCause := s.lsv.stopRec.bind (·.ruling)

/-- The stopped-sample count of a speed sample in STOPPING; at 10 the stop ends (R154). -/
def State.countStopped (s : State) : State :=
  if s.lsv.line = .stopping then
    let n := if s.lcu.measured = 0 then countUp Config.stoppedSamples s.lsv.stopped else 0
    let s1 : State := { s with lsv := { s.lsv with stopped := n } }
    if n = Config.stoppedSamples then s1.changeLine (if s1.ruling = some .hostStop then .ready else .halted) else s1
  else s

/-- SPEED_SAMPLE (R9, R69, R97, R154, R158): its takers in the order of R1's table (log 3), and the
stations in the order S1 to S7 (log 45). -/
def execSpeedSample (s : State) : Host.Outcome State Fault Refusal :=
  event id (fun t => (((t.measure.ramp).countStopped).forAll 7 State.armTest).countZeroSpeed) s

/-- A change of an input counts as an edge under a selection (section 1.5). -/
def EdgeSelect.takes (e : EdgeSelect) (rising : Bool) : Bool :=
  match e with
  | .rising => rising
  | .falling => !rising
  | .both => true

/-- An edge at a joint channel (R10). -/
def State.jointEdge (s : State) (i : SpliceId) : State :=
  if s.lcu.joints[i].armed then
    let c := s.splicePos i
    (s.onJoint i fun _ => { armed := false, record := some c }).confirmSplice i c
  else s

/-- The edge select of a joint channel is a station setting; an unset station's channel takes no edge (R10, R63). -/
def State.jointTakes (s : State) (i : SpliceId) (rising : Bool) : Bool :=
  match (s.splice i).settings with
  | some g => g.edge.takes rising
  | none => false

/-- JOINT_EDGE (R10, R73). -/
def execJointEdge (i : SpliceId) (rising : Bool) (s : State) : Host.Outcome State Fault Refusal :=
  event id (fun t => if t.spliceInUse i && t.jointTakes i rising then t.jointEdge i else t) s

/-- SHEET_EYE_EDGE (R11). -/
def execSheetEyeEdge (j : StackerId) (rising : Bool) (s : State) : Host.Outcome State Fault Refusal :=
  event id (fun t =>
    if t.lcu.eyes[j].edge.takes rising then t.onEye j fun e => { e with count := countUp 65535 e.count } else t) s

/-- KNIFE_INDEX (R12, R122): a rising edge clears the lane's knife cycle flag. -/
def execKnifeIndex (j : LaneId) (high : Bool) (s : State) : Host.Outcome State Fault Refusal :=
  event (fun t => { t with lcu := { t.lcu with knifeIndex := modifyAt t.lcu.knifeIndex j fun _ => high } })
    (fun t => if high && !s.lcu.knifeIndex[j] then t.onLane j fun l => { l with cycling := false } else t) s

/-! ### Host commands -/

/-- SetScale's checks and effect (R13). -/
def State.setScale (s : State) (counter scale : Nat) : State × List Byte :=
  if !s.lineIn [.setup] then s.refuse s.lineReply
  else
    match codeOf 4 counter with
    | none => s.refuse (rangeReply 1)
    | some i =>
      if !s.counterInUse i then s.refuse (stateReply (counterSubject i) unusedState)
      else if 0 < (s.counter i).pos then s.refuse (stateReply (counterSubject i) 0)
      else if !within 1000 200000 scale then s.refuse (rangeReply 2)
      else (s.onCounter i fun c => { c with scale := scale, c := 0, debt := 0, tally := 0 }, okReply [])

/-- SET_SCALE. -/
def execSetScale (tag counter scale : Nat) (s : State) : Host.Outcome State Fault Refusal :=
  hostCommand tag 0x10 (fun t => t.setScale counter scale) s

/-- The conditions of R14 on the five distances, each with its ordinal; the distances in 0.1 mm. -/
def geometryChecks (g : Geometry) : List (Bool × Nat) :=
  [(within (mm 5000) (mm 120000) g.slit, 1),
   (within (g.slit + mm 2000) (mm 150000) g.cut, 2),
   (decide (g.cut + mm 1000 ≤ g.rej), 3),
   (decide (g.rej < g.stk1) && decide (g.stk1 ≤ g.cut + mm 27000), 4),
   (decide (g.rej < g.stk2) && decide (g.stk2 ≤ g.cut + mm 27000), 5)]

/-- SetGeometry's checks and effect (R14). A mark that a shorter D_LAST leaves behind stays until the next LINE advance removes it (log 50). -/
def State.setGeometry (s : State) (g : Geometry) : State × List Byte :=
  if !s.lineIn [.setup] then s.refuse s.lineReply
  else
    match firstFailing (geometryChecks g) with
    | some n => s.refuse (rangeReply n)
    | none => ({ s with lcu := { s.lcu with geometry := g } }, okReply [])

/-- SET_GEOMETRY. -/
def execSetGeometry (tag slit cut rej stk1 stk2 : Nat) (s : State) : Host.Outcome State Fault Refusal :=
  hostCommand tag 0x11 (fun t => t.setGeometry ⟨mm slit, mm cut, mm rej, mm stk1, mm stk2⟩) s

/-- A glue station taken out of use or brought back by a new line build (R91). -/
def State.rebuildGlue (old s : State) (k : GlueId) : State :=
  if old.glueInUse k && !s.glueInUse k then s.glueTakenOut k
  else if !old.glueInUse k && s.glueInUse k then s.glueTakesUp k
  else s

/-- The joint channels of UNUSED stations are DISARMED (R16). -/
def State.disarmUnused (s : State) : State := s.forAll 7 fun t i => if t.spliceInUse i then t else t.disarmChannel i

/-- SetLineBuild's checks and effect (R15, R16, R31, R91, R103). -/
def State.setLineBuild (s : State) (walls width : Nat) : State × List Byte :=
  if !s.lineIn [.setup] then s.refuse s.lineReply
  else
    match firstFailing [(within 1 3 walls, 1), (within 1000 2800 width, 2)] with
    | some n => s.refuse (rangeReply n)
    | none =>
      let s1 : State := { s with lcu := { s.lcu with walls := some walls, width := width } }
      let s2 := (s1.forAll 4 (s.rebuildGlue)).disarmUnused
      ((s2.evalBridgeEntry).sendReports s, okReply [])

/-- SET_LINE_BUILD. -/
def execSetLineBuild (tag walls width : Nat) (s : State) : Host.Outcome State Fault Refusal :=
  hostCommand tag 0x12 (fun t => t.setLineBuild walls width) s

/-- SetSheetEyes' checks and effect (R11). Of two edge selects without an assigned value the first is named (log 51). -/
def State.setSheetEyes (s : State) (edge1 edge2 : Nat) : State × List Byte :=
  if !s.lineIn [.setup, .ready] then s.refuse s.lineReply
  else
    match edgeOf edge1, edgeOf edge2 with
    | none, _ => s.refuse (rangeReply 1)
    | some _, none => s.refuse (rangeReply 2)
    | some e1, some e2 =>
      ((s.onEye 0 fun e => { e with edge := e1 }).onEye 1 fun e => { e with edge := e2 }, okReply [])

/-- SET_SHEET_EYES. -/
def execSetSheetEyes (tag edge1 edge2 : Nat) (s : State) : Host.Outcome State Fault Refusal :=
  hostCommand tag 0x13 (fun t => t.setSheetEyes edge1 edge2) s

/-- A fault record, or absent. -/
def faultBytes : Option FaultRecord → List Byte
  | some r => natBytes 1 r.kind.ctorIdx ++ natBytes 6 r.position
  | none => absentBytes 7

/-- A counter's part of ReadLength's reply (R17); the widths of C and the debt are logs 13 and 39. -/
def State.counterBytes (s : State) (i : CounterId) : List Byte :=
  let c := s.counter i
  flagBytes (!s.counterInUse i) ++ flagBytes c.faulted ++ natBytes 6 c.pos ++ natBytes 6 c.c ++ natBytes 4 c.debt ++
    natBytes 1 c.tally ++ natBytes 6 c.tallyBase ++ faultBytes c.faultRecord ++ natBytes 1 c.faultCount ++ natBytes 4 c.scale ++
    (if h : i = 0 then [] else flagBytes s.lcu.webPresent[i.pred h])

/-- A joint channel's condition and record. -/
def JointChannel.bytes (c : JointChannel) : List Byte := flagBytes c.armed ++ optBytes 6 c.record

/-- ReadLength's reply (R17, R12), 238 bytes long. A knife-index level is sent as a flag, 1 while it is HIGH; this, the widths of C and
debt, and D_LAST in mm as a distance that is set are the model's choice (log 13; what does not fit, log 39). -/
def State.lengthReply (s : State) : List Byte :=
  let g := s.lcu.geometry
  okReply ((allIds 4).flatMap s.counterBytes ++ natBytes 2 s.lcu.measured ++ optBytes 1 s.lcu.walls ++
    (if s.lcu.width = 0 then absentBytes 2 else natBytes 2 s.lcu.width) ++
    [g.slit, g.cut, g.rej, g.stk1, g.stk2, s.dLast].flatMap (fun d => natBytes 4 (inMm d)) ++
    s.lcu.joints.toList.flatMap JointChannel.bytes ++
    s.lcu.eyes.toList.flatMap (fun e => natBytes 1 e.edge.ctorIdx ++ natBytes 2 e.count) ++
    s.lcu.knifeIndex.toList.flatMap flagBytes)

/-- READ_LENGTH. -/
def execReadLength (tag : Nat) (s : State) : Host.Outcome State Fault Refusal :=
  hostCommand tag 0x14 (fun t => (t, t.lengthReply)) s

end Sys2Proof.Machine
end

