-- ==== Sys2Proof/Machine/Map.lean ====
section
/-! DEFINITION. The commands of the Web Map (chapter 2). -/

namespace Sys2Proof.Machine

/-- SetBridge's checks and effect (R31). -/
def State.setBridge (s : State) (web slow high crawl : Nat) : State × List Byte :=
  if !s.lineIn [.setup, .ready] then s.refuse s.lineReply
  else
    match idOf 3 web with
    | none => s.refuse (rangeReply 1)
    | some k =>
      if !s.webInUse k then s.refuse (stateReply (bridgeSubject k) unusedState)
      else
        match firstFailing [(within 1 100 slow, 2), (within (slow + 1) 500 high, 3), (within 5 400 crawl, 4)] with
        | some n => s.refuse (rangeReply n)
        | none =>
          ((s.onBridge k fun b => { b with slow := metres slow, high := metres high, crawl := crawl }).evalBridgeEntry, okReply [])

/-- SET_BRIDGE. -/
def execSetBridge (tag web slow high crawl : Nat) (s : State) : Host.Outcome State Fault Refusal :=
  hostCommand tag 0x20 (fun t => t.setBridge web slow high crawl) s

/-- ThreadBridge accepted (R32): the content, the transfers, the levels; the reply with B_k, X_k and the two numbers. -/
def State.thread (s : State) (k : WebId) (v : Nat) : State × List Byte :=
  let old := (s.bridge k).content
  let s1 := s.onBridge k fun b => { b with content := v, shortfall := 0 }
  let (s2, n, lost) := s1.transferDue k
  let s3 := s2.evalBridgeEntry
  let s4 := if old ≤ (s.bridge k).high ∧ (s.bridge k).high < v then s3.raise .bridgeHigh (bridgeSubject k) (natBytes 6 v) else s3
  (s4, okReply (natBytes 6 v ++ natBytes 6 (s4.mergeCoord k) ++ natBytes 1 n ++ natBytes 1 lost))

/-- ThreadBridge's checks and effect (R32). -/
def State.threadBridge (s : State) (web content : Nat) : State × List Byte :=
  if !s.lineIn [.ready] then s.refuse s.lineReply
  else
    match idOf 3 web with
    | none => s.refuse (rangeReply 1)
    | some k =>
      if !s.webInUse k then s.refuse (stateReply (bridgeSubject k) unusedState)
      else if 500 < content ∨ s.webPos k < metres content then s.refuse (rangeReply 2)
      else s.thread k (metres content)

/-- THREAD_BRIDGE. -/
def execThreadBridge (tag web content : Nat) (s : State) : Host.Outcome State Fault Refusal :=
  hostCommand tag 0x21 (fun t => t.threadBridge web content) s

/-- AddHostMark's checks and effect (R35); the indicator is STORED 0 or REJECT_ALL 1. Of the third check, an end below the start or more
than 100 m above it, the item named is the end, ordinal 2, which R35 and R173 leave open (log 38). -/
def State.addHostMark (s : State) (start finish reason : Nat) : State × List Byte :=
  if s.lineIn [.setup] then s.refuse s.lineReply
  else
    match firstFailing
      [(within 1 255 reason, 3), (decide (start < Config.posLimit), 1), (decide (finish < Config.posLimit), 2)] with
    | some n => s.refuse (rangeReply n)
    | none =>
      if start + s.dCut < s.linePos then s.refuse (bareReply stLate)
      else if finish < start ∨ 1000000 < finish - start then s.refuse (rangeReply 2)
      else
        let (s1, a) := s.insertMark { start := start, finish := some finish, body := .hostMark reason }
        (s1, okReply (flagBytes (decide (a ≠ .stored))))

/-- ADD_HOST_MARK. -/
def execAddHostMark (tag start finish reason : Nat) (s : State) : Host.Outcome State Fault Refusal :=
  hostCommand tag 0x22 (fun t => t.addHostMark start finish reason) s

/-- ResumeSorting is refused FULL while a mark or a joint could still be lost or a lost span is open (R23). -/
def State.sortingBlocked (s : State) : Bool :=
  decide (Config.mapCapacity ≤ s.map.marks.length) ||
    ((allIds 3).any fun k => s.webInUse k && decide (Config.bridgeCapacity ≤ (s.bridge k).entries.length)) ||
    s.map.lostZone.toList.any id || s.map.lostGlue.toList.any id

/-- ResumeSorting's effect (R23). -/
def State.resumeSorting (s : State) : State × List Byte :=
  if s.sortingBlocked then s.refuse (bareReply stFull)
  else
    let reply := okReply (optBytes 6 s.map.ra)
    if s.map.ra.isSome then
      ({ s with map := { s.map with ra := none, changeCount := (s.map.changeCount + 1) % 65536 } }, reply)
    else (s, reply)

/-- RESUME_SORTING. -/
def execResumeSorting (tag : Nat) (s : State) : Host.Outcome State Fault Refusal :=
  hostCommand tag 0x23 State.resumeSorting s

/-- The extent of a mark, sent in 4 bytes (R176). -/
def State.extentBytes (s : State) (m : Mark) : List Byte := natBytes 4 (min (2 ^ 32 - 1) (s.markEnd m - m.start))

/-- The flags of a mark entry's first byte: open 8, suspect 16, locked 32 (R176). -/
def Mark.flagWeight (m : Mark) : Nat :=
  (if m.finish.isNone then 8 else 0) +
    match m.body with
    | .joint _ suspect => if suspect then 16 else 0
    | .orderChange _ _ locked => if locked then 32 else 0
    | _ => 0

/-- A mark entry of 13 bytes (R176). -/
def State.markBytes (s : State) (m : Mark) : List Byte :=
  natBytes 1 (m.body.kindCode + m.flagWeight) ++ natBytes 6 m.start ++
    match m.body with
    | .joint i _ => s.extentBytes m ++ natBytes 1 (i.val + 1) ++ natBytes 1 0
    | .bondRisk x => s.extentBytes m ++ natBytes 1 x.number ++ natBytes 1 0
    | .orderChange out incoming _ => natBytes 2 out ++ natBytes 2 (incoming.getD 0) ++ natBytes 2 0
    | .hostMark r => s.extentBytes m ++ natBytes 1 r ++ natBytes 1 0
    | .restart => s.extentBytes m ++ natBytes 2 0

/-- ReadMap's reply (R36, R176); with both numbers out of range the first index is named (log 14). -/
def State.readMap (s : State) (first count : Nat) : List Byte :=
  match firstFailing [(decide (first ≤ 127), 1), (decide (count ≤ 16), 2)] with
  | some n => rangeReply n
  | none =>
    okReply (natBytes 1 s.map.marks.length ++ natBytes 2 s.map.changeCount ++ optBytes 6 s.map.ra ++
      natBytes 2 s.map.lostMarks ++ bitSetBytes 2 (s.map.lostZone.toList ++ s.map.lostGlue.toList) ++ natBytes 6 s.linePos ++
      listBytes s.markBytes ((s.map.marks.drop first).take count))

/-- READ_MAP. -/
def execReadMap (tag first count : Nat) (s : State) : Host.Outcome State Fault Refusal :=
  hostCommand tag 0x24 (fun t => (t, t.readMap first count)) s

/-- An entry of ReadBridge's reply (R37). -/
def State.bridgeEntryBytes (s : State) (k : WebId) (b : BridgeEntry) : List Byte :=
  natBytes 6 b.e ++ natBytes 6 b.before ++ natBytes 6 b.after ++ natBytes 1 (b.station.val + 1) ++ flagBytes b.suspect ++
    natBytes 6 (b.e - s.mergeCoord k)

/-- ReadBridge's reply (R37); with both numbers out of range the first index is named (log 14). -/
def State.readBridge (s : State) (web first count : Nat) : List Byte :=
  match idOf 3 web with
  | none => rangeReply 1
  | some k =>
    if !s.webInUse k then stateReply (bridgeSubject k) unusedState
    else
      match firstFailing [(decide (first ≤ 31), 2), (decide (count ≤ 16), 3)] with
      | some n => rangeReply n
      | none =>
        let b := s.bridge k
        okReply (natBytes 6 (s.webPos k) ++ natBytes 6 b.content ++ natBytes 6 (s.mergeCoord k) ++ natBytes 6 b.shortfall ++
          flagBytes (s.bridgeClaims k) ++ natBytes 1 (inMetres b.slow) ++ natBytes 2 (inMetres b.high) ++ natBytes 2 b.crawl ++
          natBytes 1 b.entries.length ++ listBytes (s.bridgeEntryBytes k) ((b.entries.drop first).take count))

/-- READ_BRIDGE. -/
def execReadBridge (tag web first count : Nat) (s : State) : Host.Outcome State Fault Refusal :=
  hostCommand tag 0x25 (fun t => (t, t.readBridge web first count)) s

end Sys2Proof.Machine
end

