-- ==== Sys2Proof/Machine/Orders.lean ====
section
/-! DEFINITION. The commands of the Order Book (chapter 3), with the record layouts of R176 that they share with the Stacker Unit. -/

namespace Sys2Proof.Machine

/-- SetChangeLimits accepted (R46). -/
def State.takeLimits (s : State) (margin step maximum crawl : Nat) : State :=
  let s1 : State :=
    { s with obk := { s.obk with
        lockMargin := metres margin, deferStep := metres step, maxDeferral := metres maximum, setupCrawl := crawl } }
  if s1.obk.deferral then
    let s2 := s1.setEntry .setup (some crawl)
    match s2.runningOrder with
    | some o => if s2.obk.maxDeferral ≤ o.deferred then s2.addHold .setupOverdue else s2.removeHold .setupOverdue
    | none => s2
  else s1

/-- SetChangeLimits' checks and effect (R46). -/
def State.setChangeLimits (s : State) (margin step maximum crawl : Nat) : State × List Byte :=
  if !s.lineIn [.setup, .ready, .park] then s.refuse s.lineReply
  else
    match firstFailing
      [(within 2 30 margin, 1), (within 1 20 step, 2), (within 10 500 maximum && decide (step ≤ maximum), 3), (within 5 400 crawl, 4)] with
    | some n => s.refuse (rangeReply n)
    | none => (s.takeLimits margin step maximum crawl, okReply [])

/-- SET_CHANGE_LIMITS. -/
def execSetChangeLimits (tag margin step maximum crawl : Nat) (s : State) : Host.Outcome State Fault Refusal :=
  hostCommand tag 0x30 (fun t => t.setChangeLimits margin step maximum crawl) s

/-! ### AddOrder (R39, R40) -/

/-- A knife list is strictly ascending with at least 50 mm between neighbours. -/
def knivesSpaced : List Nat → Bool
  | a :: b :: rest => decide (a + 50 ≤ b) && knivesSpaced (b :: rest)
  | _ => true

/-- The checks of a lane record, its fields having ordinals from `n` (R39). -/
def laneChecks (l : LaneSpec) (n : Nat) : List (Bool × Nat) :=
  [(within 500 6000 l.length, n), (within 1 8 l.outs, n + 1), (within 1 999999 l.target, n + 2), (within 10 999 l.height, n + 3)]

/-- The range checks of an order record against the web width (R39, R40 check 3); the ordinals are those of log 14. Of several fields that
fail, which R40 does not order, the first in the command's layout is named (log 51, the model's choice). -/
def orderChecks (o : OrderSpec) (width : Nat) : List (Bool × Nat) :=
  [(decide (o.grade < 32), 2),
   (within 2 10 o.knives.length && knivesSpaced o.knives && o.knives.all (fun p => decide (p ≤ width)), 3),
   (decide (o.scores.length ≤ 16) && o.scores.all (fun p => decide (p ≤ width)), 4),
   (within 1 2 o.lanes.length, 5)] ++
  (match o.lanes with
    | [a] => laneChecks a 6 ++ [(decide (o.makeupLimit ≤ 1000), 10)]
    | [a, b] => laneChecks a 6 ++ laneChecks b 10 ++ [(decide (o.makeupLimit ≤ 1000), 14)]
    | _ => [])

/-- The grade is defined, its wall count is W, and its gap for every glue station in use is 50 to 600 µm (R40 check 4). -/
def State.gradeFits (s : State) (g : Nat) : Bool :=
  match s.gradeEntry g with
  | some e => decide (e.walls = s.walls) && (allIds 4).all fun k => !s.glueInUse k || within 50 600 (e.gap k)
  | none => false

/-- The tally of an order lane as AddOrder creates it (R145). -/
def Tally.empty : Tally :=
  { classes := Vector.replicate 8 0, stacked := 0, diverted := 0, jamLost := 0, stacksMade := 0, inQueue := 0
    laneEnd := false, drained := false, reported := false }

/-- The run-time fields of an order lane as an order enters the book (R39). -/
def LaneRun.empty : LaneRun := { makeup := 0, short := 0, complete := false, tally := .empty }

/-- An order as it enters the book, QUEUED (R39, R40). -/
def enteredOrder (o : OrderSpec) (a : LaneSpec) (b : Option LaneSpec) : Order :=
  { tag := o.tag, grade := o.grade, knives := o.knives, scores := o.scores, lane1 := a, lane2 := b, makeupLimit := o.makeupLimit
    phase := .queued, station := none, setup := .positioning, start := 0, endPos := 0, runs := Vector.replicate 2 .empty
    deferred := 0, cancelled := false, cutShort := false, outcome := .complete }

/-- The number of queued orders ahead of a tag, 0 for an order not QUEUED (R59, R176). -/
def State.queuedAhead (s : State) (o : Order) : Nat :=
  if o.phase = .queued then ((s.obk.orders.takeWhile fun x => x.tag ≠ o.tag).filter fun x => x.phase = .queued).length else 0

/-- A station as its subject number, or absent (log 12). -/
def stationByte (i : Option SlitId) : List Byte := optBytes 1 (i.map fun k => k.val + 1)

/-- The station that a STAGED or RUNNING order holds. -/
def Order.stationByte (o : Order) : List Byte :=
  match o.phase with
  | .staged | .running => Machine.stationByte o.station
  | .queued | .draining | .done => absentBytes 1

/-- The reply to an accepted AddOrder (R40). -/
def State.addedReply (s : State) (tag : Nat) : List Byte :=
  match s.findOrder tag with
  | some o => okReply (natBytes 2 tag ++ natBytes 1 o.phase.ctorIdx ++ o.stationByte ++ natBytes 1 (s.queuedAhead o))
  | none => okReply []

/-- An order with its lanes entered and staging applied (R40). -/
def State.enterOrder (s : State) (o : Order) : State :=
  State.applyStaging { s with obk := { s.obk with orders := s.obk.orders ++ [o] } }

/-- The last checks of AddOrder and its effect (R40 checks 4 to 6). -/
def State.admitOrder (s : State) (o : OrderSpec) (a : LaneSpec) (b : Option LaneSpec) : State × List Byte :=
  let outs := a.outs + (b.map (·.outs)).getD 0
  if !s.gradeFits o.grade then s.refuse (rangeReply 2)
  else if o.knives.length - 1 < outs then s.refuse (rangeReply (if b.isSome then 11 else 7))
  else if Config.bookCapacity ≤ s.obk.orders.length then s.refuse (bareReply stFull)
  else
    let s1 := s.enterOrder (enteredOrder o a b)
    (s1, s1.addedReply o.tag)

/-- AddOrder's checks and effect (R40). -/
def State.addOrder (s : State) (o : OrderSpec) : State × List Byte :=
  if s.lineIn [.setup] then s.refuse s.lineReply
  else if !within 1 65535 o.tag then s.refuse (rangeReply 1)
  else if (s.findOrder o.tag).isSome then s.refuse (bareReply stDuplicate)
  else
    match firstFailing (orderChecks o s.lcu.width), o.lanes with
    | some n, _ => s.refuse (rangeReply n)
    | none, [a] => s.admitOrder o a none
    | none, [a, b] => s.admitOrder o a (some b)
    | none, _ => s.refuse (rangeReply 5)

/-- ADD_ORDER. -/
def execAddOrder (tag : Nat) (order : OrderSpec) (s : State) : Host.Outcome State Fault Refusal :=
  hostCommand tag 0x31 (fun t => t.addOrder order) s

/-! ### AmendTarget (R54) -/

/-- An order with the target of a lane changed. -/
def Order.retarget (o : Order) (j : LaneId) (target : Nat) : Order :=
  if j = 0 then { o with lane1 := { o.lane1 with target := target } }
  else { o with lane2 := o.lane2.map fun l => { l with target := target } }

/-- The required cuts of each lane an order uses, one value a lane, with no count byte (log 13). -/
def Order.requiredBytes (o : Order) : List Byte := o.lanes.flatMap fun j => natBytes 4 (o.required j)

/-- A RUNNING order's target changed (R54). -/
def State.amendRunning (s : State) (o : Order) (j : LaneId) (target : Nat) : State × List Byte :=
  let sum := (o.retarget j target).start + (o.retarget j target).runLength
  let byLimit := decide (sum < s.upstreamLimit)
  let r : Order := { o.retarget j target with cutShort := o.cutShort || byLimit }
  let e := max sum s.upstreamLimit
  let s1 := ((s.onOrder o.tag fun _ => r).handCuts r).moveEnd r e
  (s1, okReply (r.requiredBytes ++ natBytes 6 e ++ flagBytes byLimit))

/-- AmendTarget's action by order state (R54). The reply for an order that is not RUNNING leaves out E and the limit flag (log 13). -/
def State.amendOrder (s : State) (o : Order) (j : LaneId) (target : Nat) : State × List Byte :=
  match o.phase with
  | .queued | .staged =>
    let r := o.retarget j target
    (s.onOrder o.tag fun _ => r, okReply r.requiredBytes)
  | .running => if s.obk.endStatus.canMove && !o.cancelled then s.amendRunning o j target else s.refuse (bareReply stLate)
  | .draining | .done => s.refuse (bareReply stLate)

/-- AmendTarget's checks and effect (R54). -/
def State.amendTarget (s : State) (order lane target : Nat) : State × List Byte :=
  if s.lineIn [.setup] then s.refuse s.lineReply
  else
    match s.findOrder order, idOf 2 lane with
    | some o, some j =>
      if (o.lane j).isNone then s.refuse (bareReply stAbsent)
      else if !within 1 999999 target then s.refuse (rangeReply 3)
      else s.amendOrder o j target
    | _, _ => s.refuse (bareReply stAbsent)

/-- AMEND_TARGET. -/
def execAmendTarget (tag order lane target : Nat) (s : State) : Host.Outcome State Fault Refusal :=
  hostCommand tag 0x32 (fun t => t.amendTarget order lane target) s

/-! ### CancelOrder (R55, R56) -/

/-- A STAGED order cancelled (R55). -/
def State.cancelStaged (s : State) (o : Order) : State :=
  let s1 :=
    match o.station with
    | some i => s.cancelStation i
    | none => s
  ((s1.dropOrder o.tag).setEndIncoming none).applyStaging

/-- The good cuts the DEC has counted so far for a lane of an order. -/
def State.goodCuts (s : State) (tag : Nat) (j : LaneId) : Nat := if (s.lane j).order = some tag then (s.lane j).good else 0

/-- The RUNNING order cut short (R56). The reply's good cuts are one value for each lane it uses, with no count byte (log 13). -/
def State.cancelRunning (s : State) (o : Order) : State × List Byte :=
  let e := max o.start s.upstreamLimit
  let r : Order := { o with cancelled := true, cutShort := true }
  let s1 := (s.onOrder o.tag fun _ => r).moveEnd r e
  (s1, okReply (natBytes 6 e ++ o.lanes.flatMap fun j => natBytes 4 (s.goodCuts o.tag j)))

/-- CancelOrder's checks and effect (R55, R56). -/
def State.cancelOrder (s : State) (order : Nat) : State × List Byte :=
  if s.lineIn [.setup] then s.refuse s.lineReply
  else
    match s.findOrder order with
    | none => s.refuse (bareReply stAbsent)
    | some o =>
      match o.phase with
      | .queued => (s.dropOrder order, okReply [])
      | .staged => if s.obk.endStatus = .locked then s.refuse (bareReply stLate) else (s.cancelStaged o, okReply [])
      | .running => if s.obk.endStatus.canMove then s.cancelRunning o else s.refuse (bareReply stLate)
      | .draining | .done => s.refuse (bareReply stLate)

/-- CANCEL_ORDER. -/
def execCancelOrder (tag order : Nat) (s : State) : Host.Outcome State Fault Refusal :=
  hostCommand tag 0x33 (fun t => t.cancelOrder order) s

/-! ### Reading and collecting (R58 to R60, R176) -/

/-- A lane record of 9 bytes. -/
def LaneSpec.bytes (l : LaneSpec) : List Byte := natBytes 2 l.length ++ natBytes 1 l.outs ++ natBytes 4 l.target ++ natBytes 2 l.height

/-- An order record. -/
def Order.recordBytes (o : Order) : List Byte :=
  natBytes 2 o.tag ++ natBytes 1 o.grade ++ listBytes (natBytes 2) o.knives ++ listBytes (natBytes 2) o.scores ++
    listBytes LaneSpec.bytes (o.lane1 :: o.lane2.toList) ++ natBytes 2 o.makeupLimit

/-- The order has a start and an end position: from RUNNING onward. -/
def Order.placed (o : Order) : Bool :=
  match o.phase with
  | .queued | .staged => false
  | .running | .draining | .done => true

/-- The flag byte of the run-time block. -/
def State.orderFlags (s : State) (o : Order) : List Byte :=
  bitSetBytes 1
    [o.cancelled, o.cutShort, decide (o.phase = .running) && s.obk.deferral, (o.run 0).complete, (o.run 1).complete,
      decide (o.phase = .staged) && decide (s.obk.endStatus = .locked)]

/-- The run-time block of 25 bytes; what the order's state has no value for is sent absent (log 13). -/
def State.runtimeBytes (s : State) (o : Order) : List Byte :=
  natBytes 1 o.phase.ctorIdx ++ o.stationByte ++
    (if o.phase = .staged then natBytes 1 o.setup.ctorIdx else absentBytes 1) ++ natBytes 1 (s.queuedAhead o) ++
    optBytes 6 (if o.placed then some o.start else none) ++ optBytes 6 (if o.placed then some o.endPos else none) ++
    natBytes 1 (if o.phase = .running then s.obk.endStatus.ctorIdx else 0) ++ natBytes 6 o.deferred ++ s.orderFlags o ++
    (if o.phase = .done then natBytes 1 o.outcome.ctorIdx else absentBytes 1)

/-- A lane block of 10 bytes. -/
def Order.laneBlock (o : Order) (j : LaneId) : List Byte :=
  natBytes 4 (o.required j) ++ natBytes 2 (o.run j).makeup ++ natBytes 4 (o.run j).short

/-- An order as ReadOrder and CollectOrder carry it. -/
def State.orderBytes (s : State) (o : Order) : List Byte := o.recordBytes ++ s.runtimeBytes o ++ o.lanes.flatMap o.laneBlock

/-- A lane tally of 51 bytes. -/
def Order.tallyBytes (o : Order) (j : LaneId) : List Byte :=
  let t := (o.run j).tally
  natBytes 1 (j.val + 1) ++ t.classes.toList.flatMap (natBytes 4) ++
    [t.stacked, t.diverted, t.jamLost, t.stacksMade].flatMap (natBytes 4) ++ natBytes 1 t.inQueue ++
    bitSetBytes 1 [t.laneEnd, t.drained, t.reported]

/-- ReadOrder's reply (R59). -/
def State.readOrder (s : State) (order : Nat) : List Byte :=
  match s.findOrder order with
  | some o => okReply (s.orderBytes o)
  | none => bareReply stAbsent

/-- READ_ORDER. -/
def execReadOrder (tag order : Nat) (s : State) : Host.Outcome State Fault Refusal :=
  hostCommand tag 0x34 (fun t => (t, t.readOrder order)) s

/-- Orders by rising start. -/
def insertByStart (o : Order) : List Order → List Order
  | [] => [o]
  | x :: xs => if o.start < x.start then o :: x :: xs else x :: insertByStart o xs

/-- The orders in one state, in book order. -/
def State.ordersIn (s : State) (p : OrderPhase) : List Order := s.obk.orders.filter fun o => o.phase = p

/-- The book as ReadBook arranges it (R60). -/
def State.bookOrder (s : State) : List Order :=
  s.ordersIn .running ++ s.ordersIn .staged ++ s.ordersIn .queued ++
    (s.ordersIn .draining).foldl (fun l o => insertByStart o l) [] ++ s.ordersIn .done

/-- ReadBook's reply (R60). -/
def State.bookReply (s : State) : List Byte :=
  okReply (natBytes 1 s.obk.orders.length ++ natBytes 2 s.obk.stray ++
    listBytes (fun o => natBytes 2 o.tag ++ natBytes 1 o.phase.ctorIdx) s.bookOrder ++
    natBytes 1 (inMetres s.obk.lockMargin) ++ natBytes 1 (inMetres s.obk.deferStep) ++ natBytes 2 (inMetres s.obk.maxDeferral) ++
    natBytes 2 s.obk.setupCrawl ++ flagBytes s.obk.deferral ++ flagBytes s.lsv.holds.setupOverdue)

/-- READ_BOOK. -/
def execReadBook (tag : Nat) (s : State) : Host.Outcome State Fault Refusal :=
  hostCommand tag 0x35 (fun t => (t, t.bookReply)) s

/-- CollectOrder's checks and effect (R58). -/
def State.collectOrder (s : State) (order : Nat) : State × List Byte :=
  match s.findOrder order with
  | none => s.refuse (bareReply stAbsent)
  | some o =>
    if o.phase = .done then (s.dropOrder order, okReply (s.orderBytes o ++ o.lanes.flatMap o.tallyBytes))
    else s.refuse (stateReply (orderSubject order) o.phase.ctorIdx)

/-- COLLECT_ORDER. -/
def execCollectOrder (tag order : Nat) (s : State) : Host.Outcome State Fault Refusal :=
  hostCommand tag 0x36 (fun t => t.collectOrder order) s

end Sys2Proof.Machine
end

