-- ==== Sys2Proof/Machine/Splice.lean ====
section
/-! DEFINITION. The commands of the Splice Controller (chapter 4). -/

namespace Sys2Proof.Machine

/-! ### Events -/

/-- SPEED_MATCH (R71): the terminal going active matters in MATCHING; going inactive is ignored. -/
def execSpeedMatch (i : SpliceId) (active : Bool) (s : State) : Host.Outcome State Fault Refusal :=
  event (fun t => t.onSplice i fun x => { x with speedMatch := active })
    (fun t => if active && !(s.splice i).speedMatch then t.takeMatch i else t) s

/-- MATCH_TIMER_EXPIRY (R71): the timer runs in MATCHING alone. -/
def execMatchTimerExpiry (i : SpliceId) (s : State) : Host.Outcome State Fault Refusal :=
  event id (fun t => if t.spliceInUse i && decide ((t.splice i).phase = .matching) then t.matchLimit i else t) s

/-- PASTE_KNIFE_PULSE_END (R71): the 250 ms of the paste and knife outputs end. -/
def execPasteKnifePulseEnd (i : SpliceId) (s : State) : Host.Outcome State Fault Refusal :=
  event id (fun t => t.onSplice i fun x => { x with pulse := false }) s

/-! ### Host commands -/

/-- STATE for a station: UNUSED, or its splice state (R173). -/
def State.spliceStateReply (s : State) (i : SpliceId) : List Byte :=
  stateReply (spliceSubject i) (if s.spliceInUse i then (s.splice i).phase.ctorIdx else unusedState)

/-- The checks of R63, with their ordinals. -/
def stationChecks (a : StationArgs) : List (Bool × Nat) :=
  [(within 1 60 a.path, 2), (within 50 2000 a.arm, 3), (within 10 200 a.reserve && decide (a.reserve < a.arm), 4),
   (within 5 60 a.matchLimit, 5), (within 1 20 a.window && decide (a.window ≤ a.reserve), 6), (within 30 400 a.speed, 7),
   ((edgeOf a.edge).isSome, 8), (decide (a.reelLow ≤ 5000), 9), (within 500 5000 a.jb, 10), (within 500 5000 a.ja, 11)]

/-- A station's settings as they are taken (R63). -/
def settingsOf (a : StationArgs) : SpliceSettings :=
  { path := metres a.path, arm := metres a.arm, reserve := metres a.reserve, matchLimit := a.matchLimit, window := metres a.window
    speed := a.speed, edge := (edgeOf a.edge).getD .rising, reelLow := metres a.reelLow }

/-- SetStation's checks and effect (R63). -/
def State.setStation (s : State) (a : StationArgs) : State × List Byte :=
  if !s.lineIn [.setup] then s.refuse s.lineReply
  else
    match idOf 7 a.station with
    | none => s.refuse (rangeReply 1)
    | some i =>
      if !s.spliceInUse i then s.refuse (s.spliceStateReply i)
      else
        match firstFailing (stationChecks a) with
        | some n => s.refuse (rangeReply n)
        | none =>
          let s1 := s.onSplice i fun t => { t with settings := some (settingsOf a) }
          ({ s1 with spc := { s1.spc with jb := mm a.jb, ja := mm a.ja } }, okReply [])

/-- SET_STATION. -/
def execSetStation (tag : Nat) (args : StationArgs) (s : State) : Host.Outcome State Fault Refusal :=
  hostCommand tag 0x40 (fun t => t.setStation args) s

/-- Which arm is active, then the conditions of the arms: RUNNING 0 or OUT 1, EMPTY 0 or LOADED 1 (log 13). R64, R75 and R78 name both arms
and order them neither by role nor as A and B: the active arm's condition comes before the standby arm's (log 41). -/
def SpliceStation.armBytes (t : SpliceStation) : List Byte :=
  natBytes 1 t.activeArm.ctorIdx ++ flagBytes t.activeReel.isNone ++ flagBytes t.standbyReel.isSome

/-- The reply of LoadReel (R64). -/
def State.loadedReply (s : State) (i : SpliceId) : List Byte :=
  okReply (natBytes 1 (s.splice i).phase.ctorIdx ++ (s.splice i).armBytes)

/-- A reel tag is held on some arm of some station (R64). -/
def State.reelHeld (s : State) (reel : Nat) : Bool :=
  s.spc.stations.toList.any fun t => (t.activeReel.toList ++ t.standbyReel.toList).any fun r => decide (r.tag = reel)

/-- A reel becomes the running reel of a station, on the named arm (R64). -/
def State.loadRunning (s : State) (i : SpliceId) (arm : Arm) (r : Reel) : State :=
  (s.onSplice i fun t => { t with activeArm := arm, activeReel := some r }).raise .reelLoaded (spliceSubject i)
    (natBytes 1 arm.ctorIdx ++ natBytes 4 r.tag ++ natBytes 2 r.loadLength)

/-- A reel is placed on the EMPTY standby arm: IDLE goes to STANDBY, and the arming test is made (R64, R69). -/
def State.loadStandby (s : State) (i : SpliceId) (r : Reel) : State :=
  let s1 := s.onSplice i fun t => { t with standbyReel := some r }
  let s2 := if (s1.splice i).phase = .idle then (s1.enterSplice i .standby).entryTests i else s1
  s2.armTest i

/-- LoadReel by the roles of the arms (R64). Every refusal here names the station and its splice state, also that of the OUT active arm in a
line state other than READY and HALTED, which R173 could as well have name the line (log 14). -/
def State.loadByRole (s : State) (i : SpliceId) (arm : Arm) (r : Reel) : State × List Byte :=
  let t := s.splice i
  let stands := s.lineIn [.ready, .halted]
  if arm = t.activeArm then
    if t.activeReel.isNone && stands then
      let s1 := s.loadRunning i arm r
      (s1, s1.loadedReply i)
    else s.refuse (s.spliceStateReply i)
  else if t.standbyReel.isSome then s.refuse (s.spliceStateReply i)
  else
    let s1 := if t.activeReel.isNone && stands then s.loadRunning i arm r else s.loadStandby i r
    (s1, s1.loadedReply i)

/-- An arm, coded A 0 and B 1. -/
def armOf (v : Nat) : Option Arm := if v = 0 then some .a else if v = 1 then some .b else none

/-- LoadReel's checks and effect (R64); the arm byte is judged behind UNUSED and before the load length (log 28). -/
def State.loadReel (s : State) (station arm reel paper length : Nat) : State × List Byte :=
  match idOf 7 station with
  | none => s.refuse (rangeReply 1)
  | some i =>
    if !s.spliceInUse i then s.refuse (s.spliceStateReply i)
    else
      match armOf arm with
      | none => s.refuse (rangeReply 2)
      | some named =>
        if !within 100 20000 length then s.refuse (rangeReply 5)
        else if s.reelHeld reel then s.refuse (bareReply stDuplicate)
        else
          s.loadByRole i named
            { tag := reel, paper := paper, loadLength := length, remaining := metres length, lowReported := false }

/-- LOAD_REEL. -/
def execLoadReel (tag station arm reel paper length : Nat) (s : State) : Host.Outcome State Fault Refusal :=
  hostCommand tag 0x41 (fun t => t.loadReel station arm reel paper length) s

/-- A reel record of 15 bytes (R176). -/
def Reel.bytes (r : Reel) : List Byte :=
  natBytes 4 r.tag ++ natBytes 2 r.paper ++ natBytes 2 r.loadLength ++ natBytes 6 r.remaining ++ flagBytes r.lowReported

/-- The reel record on an arm that holds one. -/
def reelBytes (r : Option Reel) : List Byte := (r.map Reel.bytes).getD []

/-- UnloadReel's checks and effect (R65). -/
def State.unloadReel (s : State) (station : Nat) : State × List Byte :=
  match idOf 7 station with
  | none => s.refuse (rangeReply 1)
  | some i =>
    let p := (s.splice i).phase
    if s.spliceInUse i && (decide (p = .standby) || decide (p = .blocked)) then
      let s1 := (s.onSplice i fun t => { t with standbyReel := none }).enterSplice i .idle
      (s1.entryTests i, okReply (reelBytes (s.splice i).standbyReel))
    else s.refuse (s.spliceStateReply i)

/-- UNLOAD_REEL. -/
def execUnloadReel (tag station : Nat) (s : State) : Host.Outcome State Fault Refusal :=
  hostCommand tag 0x42 (fun t => t.unloadReel station) s

/-- ForceSplice's effect on a station that may take it (R76). -/
def State.force (s : State) (i : SpliceId) : State :=
  if (s.splice i).phase = .matched then s.fire i else s.enterMatching i true

/-- A station may be forced (R76). -/
def State.mayForce (s : State) (i : SpliceId) : Bool :=
  let p := (s.splice i).phase
  s.spliceInUse i && (s.splice i).activeReel.isSome &&
    (decide (p = .standby) || decide (p = .blocked) || decide (p = .matched))

/-- ForceSplice's checks and effect (R76); a refusal names the line before it names the station (log 14). -/
def State.forceSplice (s : State) (station : Nat) : State × List Byte :=
  if !s.lineIn [.run, .hold] then s.refuse s.lineReply
  else
    match idOf 7 station with
    | none => s.refuse (rangeReply 1)
    | some i =>
      if s.mayForce i then
        let s1 := (s.force i).entryTests i
        (s1, okReply (natBytes 1 (s1.splice i).phase.ctorIdx))
      else s.refuse (s.spliceStateReply i)

/-- FORCE_SPLICE. -/
def execForceSplice (tag station : Nat) (s : State) : Host.Outcome State Fault Refusal :=
  hostCommand tag 0x43 (fun t => t.forceSplice station) s

/-- The joint of a last-splice record, or absent; its coordinate follows from the station and is not sent, and an
absent joint's suspect flag is 0xFF (log 41). -/
def jointBytes : Option JointRecord → List Byte
  | some j => natBytes 6 j.position ++ natBytes 6 j.before ++ natBytes 6 j.after ++ flagBytes j.suspect
  | none => absentBytes 19

/-- A last-splice record, or, absent, 36 bytes 0xFF (log 13). -/
def lastSpliceBytes : Option LastSplice → List Byte
  | some r =>
    natBytes 1 r.outcome.ctorIdx ++ optBytes 4 r.oldTag ++ optBytes 2 r.oldPaper ++ natBytes 6 r.stub ++ optBytes 4 r.newTag ++
      jointBytes r.joint
  | none => absentBytes 36

/-- The reply of SpliceVerdict (R75): of both arms, which is active and the two conditions (log 41). -/
def State.verdictReply (s : State) (i : SpliceId) : List Byte :=
  let t := s.splice i
  okReply (natBytes 1 t.phase.ctorIdx ++ t.armBytes ++ lastSpliceBytes t.lastSplice)

/-- SpliceVerdict's checks and effect (R75); TOOK is 0 and FAILED 1. -/
def State.spliceVerdict (s : State) (station verdict : Nat) : State × List Byte :=
  match idOf 7 station with
  | none => s.refuse (rangeReply 1)
  | some i =>
    if !s.spliceInUse i || decide ((s.splice i).phase ≠ .suspect) then s.refuse (s.spliceStateReply i)
    else
      match flagOf verdict with
      | none => s.refuse (rangeReply 2)
      | some failed =>
        let s1 := if failed then s.verdictFailed i else s.verdictTook i
        (s1, s1.verdictReply i)

/-- SPLICE_VERDICT. -/
def execSpliceVerdict (tag station verdict : Nat) (s : State) : Host.Outcome State Fault Refusal :=
  hostCommand tag 0x44 (fun t => t.spliceVerdict station verdict) s

/-- A station's settings in their units, 0xFF while unset (log 13), and whether it is set. -/
def spliceSettingBytes : Option SpliceSettings → List Byte
  | some g =>
    natBytes 1 (inMetres g.path) ++ natBytes 2 (inMetres g.arm) ++ natBytes 1 (inMetres g.reserve) ++ natBytes 1 g.matchLimit ++
      natBytes 1 (inMetres g.window) ++ natBytes 2 g.speed ++ natBytes 1 g.edge.ctorIdx ++ natBytes 2 (inMetres g.reelLow) ++
      flagBytes true
  | none => absentBytes 11 ++ flagBytes false

/-- The time left on a running timer in its setting's unit, or absent (log 1). -/
def State.timeBytes (s : State) (runs : Bool) (w limit : Nat) : List Byte :=
  if runs then natBytes w (s.timeLeft limit) else absentBytes w

/-- ReadStation's reply (R78); the active arm comes before the standby arm (log 41), and the levels of the speed-match terminal and of the
accelerate output are sent as flags, 1 while active or on (log 13). -/
def State.stationReply (s : State) (i : SpliceId) : List Byte :=
  let t := s.splice i
  okReply (natBytes 1 t.phase.ctorIdx ++ flagBytes t.force ++ t.armBytes ++ reelBytes t.activeReel ++ reelBytes t.standbyReel ++
    optBytes 6 t.firePos ++ optBytes 6 t.windowEnd ++
    s.timeBytes (decide (t.phase = .matching)) 1 ((t.settings.map (·.matchLimit)).getD 0) ++
    flagBytes t.speedMatch ++ flagBytes t.accelerate ++ s.lcu.joints[i].bytes ++ flagBytes t.phase.claims ++
    optBytes 2 s.lsv.ceiling.splice ++ lastSpliceBytes t.lastSplice ++
    [t.confirmed, t.taken, t.failed, t.notMatched].flatMap (natBytes 2) ++ spliceSettingBytes t.settings ++
    natBytes 2 (inMm s.spc.jb) ++ natBytes 2 (inMm s.spc.ja))

/-- ReadStation's checks (R78); a running timer's time left takes a free value. -/
def State.readStation (s : State) (station : Nat) : State × List Byte :=
  match idOf 7 station with
  | none => s.refuse (rangeReply 1)
  | some i =>
    if !s.spliceInUse i then s.refuse (s.spliceStateReply i)
    else (if (s.splice i).phase = .matching then s.takeFresh else s, s.stationReply i)

/-- READ_STATION. -/
def execReadStation (tag station : Nat) (s : State) : Host.Outcome State Fault Refusal :=
  hostCommand tag 0x45 (fun t => t.readStation station) s

end Sys2Proof.Machine
end

