-- ==== Sys2Proof/Machine/Bond.lean ====
section
/-! DEFINITION. The commands of the Bond Controller (chapter 5). -/

namespace Sys2Proof.Machine

/-! ### Events -/

/-- TEMPERATURE_READING (R84 to R89); a value above 350.0 °C is an invalid mark. -/
def execTemperatureReading (n : ZoneId) (r : Reading) (s : State) : Host.Outcome State Fault Refusal :=
  event id (fun t => t.takeTemperature n (limitedReading 3500 r)) s

/-- GAP_READING (R92 to R95); a value above 5,000 µm is invalid. -/
def execGapReading (k : GlueId) (r : Reading) (s : State) : Host.Outcome State Fault Refusal :=
  event id (fun t => t.takeGap k (limitedReading 5000 r)) s

/-- MOVE_TIMER_EXPIRY (R94): the timer runs in MOVING alone. -/
def execMoveTimerExpiry (k : GlueId) (s : State) : Host.Outcome State Fault Refusal :=
  event id (fun t => if (t.glue k).state = .moving then t.glueFault k .timeout else t) s

/-- The keep-wet turn as it is set, 0 while the station is unset. -/
def GlueStation.turnSetting (g : GlueStation) : Nat :=
  match g.settings with
  | some c => c.turn
  | none => 0

/-- A keep-wet second at one station: the counter falls by 1, and at 0 a turn starts, its timer running the turn as it is then set, and
the counter is loaded again (R97, R98). -/
def GlueStation.keepWetTick (g : GlueStation) : GlueStation :=
  match g.keepWet with
  | none => g
  | some n =>
    if n ≤ 1 then { g with keepWet := g.settings.map (·.interval), rollRun := true, turnTime := g.turnSetting }
    else { g with keepWet := some (n - 1) }

/-- KEEP_WET_SECOND (R97). -/
def execKeepWetSecond (s : State) : Host.Outcome State Fault Refusal :=
  event id (fun t => { t with bnd := { t.bnd with glues := t.bnd.glues.map GlueStation.keepWetTick } }) s

/-- TURN_TIMER_EXPIRY (R98): the roll-run terminal goes off. -/
def execTurnTimerExpiry (k : GlueId) (s : State) : Host.Outcome State Fault Refusal :=
  event id (fun t => t.onGlue k fun g => { g with rollRun := false }) s

/-! ### The grade table (R80, R81) -/

/-- The orders in the book that name a grade, in any state. -/
def State.gradeUsers (s : State) (g : Nat) : Nat := (s.obk.orders.filter fun o => o.grade = g).length

/-- A gap field is within its range for its station: 50 to 600 µm in use, or also 0 when not in use. -/
def State.gapFits (s : State) (k : GlueId) (v : Nat) : Bool := within 50 600 v || (!s.glueInUse k && decide (v = 0))

/-- The field checks of a defined entry (R80 check 3), with their ordinals. Of several fields that fail, which R80 does not order, the first
in the command's layout is named (log 51). -/
def State.gradeChecks (s : State) (a : GradeArgs) : List (Bool × Nat) :=
  [(within 1 3 a.walls, 3), (decide (a.flute ≤ 255), 4), (within 1200 2000 a.setpoint, 5), (decide (a.feedForward ≤ 100), 6),
   (decide (5 ≤ a.lowHeat) && decide (a.lowHeat ≤ a.limit), 7), (within 5 400 a.limit, 8),
   (s.gapFits 0 a.gap1, 9), (s.gapFits 1 a.gap2, 10), (s.gapFits 2 a.gap3, 11), (s.gapFits 3 a.gap4, 12)]

/-- The entry that SetGrade gives. -/
def gradeOfArgs (a : GradeArgs) : Grade :=
  { walls := a.walls, flute := a.flute, setpoint := a.setpoint, feedForward := a.feedForward, lowHeat := a.lowHeat, limit := a.limit
    gaps := #v[a.gap1, a.gap2, a.gap3, a.gap4] }

/-- An entry as it is read: the defined flag and, when defined, the fields (R80, R81). -/
def gradeBytes : Option Grade → List Byte
  | some g =>
    flagBytes true ++ natBytes 1 g.walls ++ natBytes 1 g.flute ++ natBytes 2 g.setpoint ++ natBytes 1 g.feedForward ++
      natBytes 2 g.lowHeat ++ natBytes 2 g.limit ++ g.gaps.toList.flatMap (natBytes 2)
  | none => flagBytes false

/-- An entry replaced; the reply carries it as it now stands. -/
def State.putGrade (s : State) (i : Fin 32) (g : Option Grade) : State × List Byte :=
  ({ s with bnd := { s.bnd with grades := modifyAt s.bnd.grades i fun _ => g } }, okReply (gradeBytes g))

/-- SetGrade's checks and effect (R80); STATE names the first order that names the grade. -/
def State.setGrade (s : State) (a : GradeArgs) : State × List Byte :=
  match codeOf 32 a.number with
  | none => s.refuse (rangeReply 1)
  | some i =>
    match s.obk.orders.find? fun o => o.grade = a.number with
    | some o => s.refuse (stateReply (orderSubject o.tag) o.phase.ctorIdx)
    | none =>
      match flagOf a.defined with
      | none => s.refuse (rangeReply 2)
      | some false => s.putGrade i none
      | some true =>
        match firstFailing (s.gradeChecks a) with
        | some n => s.refuse (rangeReply n)
        | none => s.putGrade i (some (gradeOfArgs a))

/-- SET_GRADE. -/
def execSetGrade (tag : Nat) (args : GradeArgs) (s : State) : Host.Outcome State Fault Refusal :=
  hostCommand tag 0x50 (fun t => t.setGrade args) s

/-- ReadGrade's reply (R81). -/
def State.readGrade (s : State) (grade : Nat) : List Byte :=
  match codeOf 32 grade with
  | none => rangeReply 1
  | some i => okReply (gradeBytes s.bnd.grades[i] ++ natBytes 1 (s.gradeUsers grade))

/-- READ_GRADE. -/
def execReadGrade (tag grade : Nat) (s : State) : Host.Outcome State Fault Refusal :=
  hostCommand tag 0x51 (fun t => (t, t.readGrade grade)) s

/-! ### Heat zones (R82, R83, R100) -/

/-- The checks of R82 on a zone's fields, with their ordinals. Of distances both in range with D_in ≥ D_out the item named is D_out (log 38);
of both out of range it is D_in (log 51). The channels TC1 to TC12 are coded 1 to 12 (log 12). -/
def zoneChecks (a : ZoneArgs) : List (Bool × Nat) :=
  [(decide (a.dIn ≤ 119999), 2), (decide (a.dOut ≤ 119999) && decide (a.dIn < a.dOut), 3), (within 1 16 a.output, 4),
   (within 1 12 a.channel, 5), (within 10 300 a.band, 6), (decide (a.gain ≤ 20), 7)]

/-- A zone's settings as they are taken. -/
def zoneSettingsOf (a : ZoneArgs) (o : OutputId) : ZoneSettings :=
  { dIn := mm a.dIn, dOut := mm a.dOut, output := o, channel := a.channel, band := a.band, gain := a.gain }

/-- SetZone's checks and effect (R82, R103). -/
def State.setZone (s : State) (a : ZoneArgs) : State × List Byte :=
  if !s.lineIn [.setup] then s.refuse s.lineReply
  else
    match idOf 12 a.zone with
    | none => s.refuse (rangeReply 1)
    | some n =>
      if (s.zone n).enabled then s.refuse (stateReply (zoneSubject n) (s.zone n).state.ctorIdx)
      else
        match firstFailing (zoneChecks a), idOf 16 a.output with
        | some f, _ => s.refuse (rangeReply f)
        | none, none => s.refuse (rangeReply 4)
        | none, some o =>
          ((s.onZone n fun z => { z with settings := some (zoneSettingsOf a o) }).sendReports s, okReply [])

/-- SET_ZONE. -/
def execSetZone (tag : Nat) (args : ZoneArgs) (s : State) : Host.Outcome State Fault Refusal :=
  hostCommand tag 0x52 (fun t => t.setZone args) s

/-- A zone enabled or disabled (R83). Its stale-reading count is kept (log 35). -/
def State.putEnable (s : State) (n : ZoneId) (enable : Bool) : State :=
  if enable = (s.zone n).enabled then s
  else if enable then s.onZone n fun z => { z with enabled := true }
  else (s.onZone n fun z => { z with enabled := false }).enterZone n .off

/-- SetZoneEnable's checks and effect (R83). -/
def State.setZoneEnable (s : State) (zone enable : Nat) : State × List Byte :=
  if !s.lineIn [.setup, .ready, .park] then s.refuse s.lineReply
  else
    match idOf 12 zone with
    | none => s.refuse (rangeReply 1)
    | some n =>
      if enable = 1 ∧ (s.zone n).settings.isNone then s.refuse (stateReply (zoneSubject n) (s.zone n).state.ctorIdx)
      else
        match flagOf enable with
        | none => s.refuse (rangeReply 2)
        | some b =>
          let s1 := s.putEnable n b
          (s1, okReply (natBytes 1 (s1.zone n).state.ctorIdx ++ flagBytes (s1.zone n).enabled))

/-- SET_ZONE_ENABLE. -/
def execSetZoneEnable (tag zone enable : Nat) (s : State) : Host.Outcome State Fault Refusal :=
  hostCommand tag 0x53 (fun t => t.setZoneEnable zone enable) s

/-- SetBondCommon's checks and effect (R82). -/
def State.setBondCommon (s : State) (heatLead glueLead standby : Nat) : State × List Byte :=
  if !s.lineIn [.setup, .ready, .park] then s.refuse s.lineReply
  else
    match firstFailing [(decide (heatLead ≤ 50), 1), (decide (glueLead ≤ 20), 2), (within 600 2000 standby, 3)] with
    | some n => s.refuse (rangeReply n)
    | none =>
      ({ s with bnd := { s.bnd with heatLead := metres heatLead, glueLead := metres glueLead, standby := standby } }, okReply [])

/-- SET_BOND_COMMON. -/
def execSetBondCommon (tag heatLead glueLead standby : Nat) (s : State) : Host.Outcome State Fault Refusal :=
  hostCommand tag 0x54 (fun t => t.setBondCommon heatLead glueLead standby) s

/-- A reading and its kind, in the order of R100: the value, absent unless valid, then VALID 0, INVALID 1, ABSENT 2 (R85's order). -/
def readingBytes (r : Reading) : List Byte :=
  (match r with
    | .valid v => natBytes 2 v
    | .invalid | .absent => absentBytes 2) ++ natBytes 1 r.ctorIdx

/-- A grade lookup answer: change zone 0, grade 1, none 2, as the table of R34 lists them, with the grade or absent (R172, log 12). -/
def GradeAnswer.bytes (a : GradeAnswer) : List Byte := natBytes 1 a.ctorIdx ++ optBytes 1 a.grade?

/-- A zone's settings in their units, 0xFF while unset (log 13), and whether it is set. -/
def zoneSettingBytes : Option ZoneSettings → List Byte
  | some c =>
    natBytes 4 (inMm c.dIn) ++ natBytes 4 (inMm c.dOut) ++ natBytes 1 (c.output.val + 1) ++ natBytes 1 c.channel ++
      natBytes 2 c.band ++ natBytes 1 c.gain ++ flagBytes true
  | none => absentBytes 13 ++ flagBytes false

/-- ReadZone's reply (R100); of an unset zone, the lookup is taken with D_in as 0 (log 21). -/
def State.zoneReply (s : State) (n : ZoneId) : List Byte :=
  let z := s.zone n
  okReply (zoneSettingBytes z.settings ++ flagBytes z.enabled ++ natBytes 1 z.state.ctorIdx ++ z.causeBytes ++ readingBytes z.latest ++
    natBytes 1 z.stale ++ natBytes 2 z.setpoint ++ (s.gradeLookup (s.zoneLookup n)).bytes ++ natBytes 2 z.demand ++
    optBytes 2 z.claim ++ flagBytes z.span.isSome ++ optBytes 6 z.span)

/-- ReadZone's check (R100). -/
def State.readZone (s : State) (zone : Nat) : List Byte :=
  match idOf 12 zone with
  | none => rangeReply 1
  | some n => s.zoneReply n

/-- READ_ZONE. -/
def execReadZone (tag zone : Nat) (s : State) : Host.Outcome State Fault Refusal :=
  hostCommand tag 0x56 (fun t => (t, t.readZone zone)) s

/-! ### Glue stations (R91, R100) -/

/-- STATE for a glue station: UNUSED, or its state. -/
def State.glueStateReply (s : State) (k : GlueId) : List Byte :=
  stateReply (glueSubject k) (if s.glueInUse k then (s.glue k).state.ctorIdx else unusedState)

/-- The checks of R91 with their ordinals: the fields in the order of section 5.5. Of equal outputs the item named is output b, and of a turn
not below the interval the turn (log 38). The channels GC1 to GC4 and the terminals RR1 to RR4 are coded 1 to 4 (log 12). -/
def glueChecks (a : GlueArgs) : List (Bool × Nat) :=
  [(within 1 16 a.outA, 2), (within 1 16 a.outB && decide (a.outA ≠ a.outB), 3), (within 1 4 a.channel, 4), (within 1 4 a.rollRun, 5),
   (within 5 50 a.tolerance, 6), (within 2 60 a.moveLimit, 7), (decide (a.stopMode ≤ 1), 8), (within 10 600 a.interval, 9),
   (within 1 30 a.turn && decide (a.turn < a.interval), 10), (within 700 3000 a.parkGap, 11)]

/-- A station's settings as they are taken; BRAKE is 0 and COAST 1. -/
def glueSettingsOf (a : GlueArgs) (x y : OutputId) : GlueSettings :=
  { outA := x, outB := y, channel := a.channel, rollRun := a.rollRun, tolerance := a.tolerance, moveLimit := a.moveLimit
    stopMode := if a.stopMode = 0 then .brake else .coast
    interval := a.interval, turn := a.turn, parkGap := a.parkGap }

/-- SetGlue accepted (R91): a station in OFF takes up, one already set keeps its state; owner reports follow (R103). -/
def State.takeGlue (s : State) (k : GlueId) (c : GlueSettings) : State :=
  let s1 := s.onGlue k fun g => { g with settings := some c }
  (if (s.glue k).state = .off then s1.glueTakesUp k else s1).sendReports s

/-- SetGlue's checks and effect (R91). -/
def State.setGlue (s : State) (a : GlueArgs) : State × List Byte :=
  if !s.lineIn [.setup] then s.refuse s.lineReply
  else
    match idOf 4 a.station with
    | none => s.refuse (rangeReply 1)
    | some k =>
      if !s.glueInUse k then s.refuse (s.glueStateReply k)
      else
        match firstFailing (glueChecks a), idOf 16 a.outA, idOf 16 a.outB with
        | some n, _, _ => s.refuse (rangeReply n)
        | none, some x, some y => (s.takeGlue k (glueSettingsOf a x y), okReply [])
        | none, _, _ => s.refuse (rangeReply 2)

/-- SET_GLUE. -/
def execSetGlue (tag : Nat) (args : GlueArgs) (s : State) : Host.Outcome State Fault Refusal :=
  hostCommand tag 0x55 (fun t => t.setGlue args) s

/-- A station's settings in their units, 0xFF while unset (log 13), and whether it is set. -/
def glueSettingBytes : Option GlueSettings → List Byte
  | some c =>
    natBytes 1 (c.outA.val + 1) ++ natBytes 1 (c.outB.val + 1) ++ natBytes 1 c.channel ++ natBytes 1 c.rollRun ++
      natBytes 1 c.tolerance ++ natBytes 1 c.moveLimit ++ natBytes 1 c.stopMode.ctorIdx ++ natBytes 2 c.interval ++
      natBytes 1 c.turn ++ natBytes 2 c.parkGap ++ flagBytes true
  | none => absentBytes 12 ++ flagBytes false

/-- The target is the park gap. -/
def GlueStation.atPark (g : GlueStation) : Bool :=
  match g.settings with
  | some c => decide (c.parkGap = g.target)
  | none => false

/-- ReadGlue's reply (R100). The time left on each timer is held to what the timer runs with: the move limit in force (R91, R93) and the
turn that it was started with, which a new setting does not cut short (R98). -/
def State.gluePayload (s : State) (k : GlueId) : List Byte :=
  let g := s.glue k
  okReply (glueSettingBytes g.settings ++ natBytes 1 g.state.ctorIdx ++ g.causeSet ++ natBytes 2 g.target ++ flagBytes g.atPark ++
    readingBytes g.latest ++ natBytes 1 g.levelA.ctorIdx ++ natBytes 1 g.levelB.ctorIdx ++
    s.timeBytes (decide (g.state = .moving)) 1 g.rules.moveLimit ++ optBytes 2 g.keepWet ++ flagBytes g.rollRun ++
    (if g.rollRun then natBytes 1 (s.takeFresh.timeLeft g.turnTime) else absentBytes 1) ++ flagBytes s.countsStopped ++
    flagBytes g.span.isSome ++ optBytes 6 g.span)

/-- ReadGlue's checks (R100); the two times left take free values. -/
def State.readGlue (s : State) (station : Nat) : State × List Byte :=
  match idOf 4 station with
  | none => s.refuse (rangeReply 1)
  | some k =>
    if !s.glueInUse k then s.refuse (s.glueStateReply k)
    else (if (s.glue k).state = .moving || (s.glue k).rollRun then s.takeFresh.takeFresh else s, s.gluePayload k)

/-- READ_GLUE. -/
def execReadGlue (tag station : Nat) (s : State) : Host.Outcome State Fault Refusal :=
  hostCommand tag 0x57 (fun t => t.readGlue station) s

/-- ReadBond's reply (R100). -/
def State.bondReply (s : State) : List Byte :=
  okReply (natBytes 1 (inMetres s.bnd.heatLead) ++ natBytes 1 (inMetres s.bnd.glueLead) ++ natBytes 2 s.bnd.standby ++
    optBytes 2 s.lsv.ceiling.bond ++ s.bnd.zones.toList.flatMap (fun z => natBytes 1 z.state.ctorIdx) ++
    s.bnd.glues.toList.flatMap fun g => natBytes 1 g.state.ctorIdx)

/-- READ_BOND. -/
def execReadBond (tag : Nat) (s : State) : Host.Outcome State Fault Refusal :=
  hostCommand tag 0x58 (fun t => (t, t.bondReply)) s

end Sys2Proof.Machine
end

