-- ==== Sys2Proof/Machine/Drive.lean ====
section
/-! DEFINITION. The commands of the Drive Stage (chapter 6). -/

namespace Sys2Proof.Machine

/-! ### Events -/

/-- An output's open-load flag set with its notice and its owner's report (R107, R108). -/
def State.flagOpen (s : State) (o : OutputId) (k : DriveFaultKind) : State :=
  let s1 := s.onOutput o fun x => { x with openLoad := true }
  (s1.raiseDrive o k).sendReports s

/-- An output is checked at a passive test second: IDLE, in PWM or CONTINUOUS mode, test on, flag clear (R108). -/
def State.passiveChecked (s : State) (o : OutputId) : Bool :=
  decide (s.condition o = .idle) && decide ((s.output o).mode ≠ .off) && (s.output o).passive && !(s.output o).openLoad

/-- PASSIVE_TEST_SECOND (R108): the answers of the open-load senses, bit o for output o + 1. Every output is checked as it stands at that
second, and those that fail are taken in the order OUT1 to OUT16 (log 45). -/
def execPassiveTestSecond (opens : BitVec 16) (s : State) : Host.Outcome State Fault Refusal :=
  event (fun t => t.forAll 16 fun x o => x.onOutput o fun y => { y with openSense := opens.getLsbD o.val })
    (fun t =>
      ((allIds 16).filter fun o => t.passiveChecked o && opens.getLsbD o.val).foldl (fun x o => x.flagOpen o .openLoadPassive) t) s

/-- An over-current on a DRIVING output trips it (R106). -/
def State.tripOutput (s : State) (o : OutputId) : State :=
  if s.condition o = .driving then
    let s1 := s.onOutput o fun x => { x with trip := true, tripCount := countUp 255 x.tripCount }
    (s1.raiseDrive o .trip).sendReports s
  else s

/-- OVERCURRENT_EVENT (R106); false is the sense back to NORMAL. -/
def execOvercurrentEvent (o : OutputId) (isOver : Bool) (s : State) : Host.Outcome State Fault Refusal :=
  event (fun t => t.onOutput o fun x => { x with overCurrent := isOver }) (fun t => if isOver then t.tripOutput o else t) s

/-- OPEN_LOAD_EVENT (R107); false is the sense back to LOAD_PRESENT. -/
def execOpenLoadEvent (o : OutputId) (isOpen : Bool) (s : State) : Host.Outcome State Fault Refusal :=
  event (fun t => t.onOutput o fun x => { x with openSense := isOpen })
    (fun t =>
      if isOpen && decide (t.condition o = .driving) && !(t.output o).openLoad then t.flagOpen o .openLoad else t) s

/-- STAGE_FAULT for a supply out of range (R110). -/
def State.raiseSupply (s : State) : State :=
  match s.dst.supply with
  | .normal => s
  | .underRange => s.raiseStage .under
  | .overRange => s.raiseStage .over

/-- SUPPLY_CHANGE (R110). -/
def execSupplyChange (v : Supply) (s : State) : Host.Outcome State Fault Refusal :=
  event (fun t => { t with dst := { t.dst with supply := v } })
    (fun t => if v = s.dst.supply then t else (t.sendReports s).raiseSupply) s

/-- THERMAL_WARNING_CHANGE (R111): going present raises STAGE_FAULT; the cap follows from the flag (R105). -/
def execThermalWarningChange (present : Bool) (s : State) : Host.Outcome State Fault Refusal :=
  event (fun t => { t with dst := { t.dst with warning := present } })
    (fun t => if present && !s.dst.warning then t.raiseStage .thermalWarning else t) s

/-- THERMAL_SHUTDOWN (R111): the latch sets once; while it is set the event changes nothing. -/
def execThermalShutdown (s : State) : Host.Outcome State Fault Refusal :=
  event id (fun t =>
    if t.dst.thermal then t
    else (State.sendReports { t with dst := { t.dst with thermal := true } } t).raiseStage .thermalShutdown) s

/-- A fault input's level has changed: going active with its record clear latches it; with its record latched it is counted (R113). -/
def State.inputChanged (s : State) (i : InputId) : State :=
  if (s.input i).active then
    if (s.input i).latched then s.onInput i fun f => { f with count := countUp 255 f.count } else s.latchInput i
  else s

/-- FAULT_INPUT_CHANGE (R113). -/
def execFaultInputChange (i : InputId) (high : Bool) (s : State) : Host.Outcome State Fault Refusal :=
  event (fun t => t.onInput i fun f => { f with level := high })
    (fun t => if high = (s.input i).level then t else t.inputChanged i) s

/-! ### Settings (R102, R103, R112) -/

/-- The output modes coded OFF 0, PWM 1, CONTINUOUS 2. -/
def modeOf (v : Nat) : Option OutputMode :=
  match v with
  | 0 => some .off
  | 1 => some .pwm
  | 2 => some .continuous
  | _ => none

/-- The generator that a mode allows: PG1 to PG8, coded 1 to 8 (log 12), in PWM mode, absent (0xFF) in the others; `none` when it does not
fit (R102). -/
def generatorFor (m : OutputMode) (v : Nat) : Option (Option GenId) :=
  match m with
  | .pwm => (idOf 8 v).map some
  | .off | .continuous => if v = 255 then some none else none

/-- The reply of SetOutput: settings, owner status, condition (R102). -/
def State.outputReply (s : State) (o : OutputId) : List Byte :=
  let x := s.output o
  okReply (natBytes 1 x.mode.ctorIdx ++ optBytes 1 (x.generator.map fun g => g.val + 1) ++ flagBytes x.passive ++
    natBytes 1 (s.ownerStatus o).ctorIdx ++ natBytes 1 (s.condition o).ctorIdx)

/-- SetOutput accepted (R102, R103). -/
def State.takeOutput (s : State) (o : OutputId) (m : OutputMode) (g : Option GenId) (passive : Bool) : State × List Byte :=
  let s1 := (s.onOutput o fun x => { x with mode := m, generator := g, passive := passive }).sendReports s
  (s1, s1.outputReply o)

/-- SetOutput's checks and effect (R102); the passive byte has no range check of its own rule and is judged first (R173). -/
def State.setOutput (s : State) (output mode generator passive : Nat) : State × List Byte :=
  if !s.lineIn [.setup] then s.refuse s.lineReply
  else
    match flagOf passive, idOf 16 output, modeOf mode with
    | none, _, _ => s.refuse (rangeReply 4)
    | some _, none, _ => s.refuse (rangeReply 1)
    | some _, some _, none => s.refuse (rangeReply 2)
    | some p, some o, some m =>
      match generatorFor m generator with
      | none => s.refuse (rangeReply 3)
      | some g => s.takeOutput o m g p

/-- SET_OUTPUT. -/
def execSetOutput (tag output mode generator passive : Nat) (s : State) : Host.Outcome State Fault Refusal :=
  hostCommand tag 0x60 (fun t => t.setOutput output mode generator passive) s

/-- SetGenerator's checks and effect (section 6.2). -/
def State.setGenerator (s : State) (generator frequency : Nat) : State × List Byte :=
  if !s.lineIn [.setup] then s.refuse s.lineReply
  else
    match idOf 8 generator with
    | none => s.refuse (rangeReply 1)
    | some g =>
      if !within 50 2000 frequency then s.refuse (rangeReply 2)
      else ({ s with dst := { s.dst with genFreq := modifyAt s.dst.genFreq g fun _ => frequency } }, okReply [])

/-- SET_GENERATOR. -/
def execSetGenerator (tag generator frequency : Nat) (s : State) : Host.Outcome State Fault Refusal :=
  hostCommand tag 0x61 (fun t => t.setGenerator generator frequency) s

/-- The line actions coded NONE 0 to TRIP 3. -/
def actionOf (v : Nat) : Option LineAction :=
  match v with
  | 0 => some .none
  | 1 => some .hold
  | 2 => some .stop
  | 3 => some .trip
  | _ => none

/-- SetFaultInput's checks and effect (R112); the active level is HIGH 0 or LOW 1. -/
def State.setFaultInput (s : State) (input level mask action : Nat) : State × List Byte :=
  if !s.lineIn [.setup] then s.refuse s.lineReply
  else
    match idOf 4 input with
    | none => s.refuse (rangeReply 1)
    | some i =>
      if (s.input i).latched then s.refuse (stateReply (inputSubject i) 1)
      else
        match flagOf level, actionOf action with
        | none, _ => s.refuse (rangeReply 2)
        | some _, none => if mask < 65536 then s.refuse (rangeReply 4) else s.refuse (rangeReply 3)
        | some low, some a =>
          if mask < 65536 then
            ((s.onInput i fun f => { f with activeHigh := !low, mask := BitVec.ofNat 16 mask, action := a }).judgeInput i, okReply [])
          else s.refuse (rangeReply 3)

/-- SET_FAULT_INPUT. -/
def execSetFaultInput (tag input level mask action : Nat) (s : State) : Host.Outcome State Fault Refusal :=
  hostCommand tag 0x62 (fun t => t.setFaultInput input level mask action) s

/-! ### ClearDriveFaults (R96, R115) -/

/-- Steps 1 to 3: trip latches with a NORMAL sense, every open-load flag, the thermal latch without a warning. -/
def State.clearLatches (s : State) : State :=
  { s with dst := { s.dst with
      outputs := s.dst.outputs.map fun x => { x with trip := x.trip && x.overCurrent, openLoad := false }
      thermal := s.dst.thermal && s.dst.warning } }

/-- Step 4: the latched flags of inactive inputs, and FAULT_INPUT when no HOLD record remains latched. -/
def State.clearRecords (s : State) : State :=
  let s1 : State :=
    { s with dst := { s.dst with inputs := s.dst.inputs.map fun f => { f with latched := f.latched && f.active } } }
  if s1.holdRecord then s1 else s1.removeHold .faultInput

/-- A station's outputs are both free of trip, force and open-load (R96). -/
def State.pairFree (s : State) (c : GlueSettings) : Bool := !s.faulted c.outA && !s.faulted c.outB

/-- A reading is valid. -/
def isValid : Reading → Bool
  | .valid _ => true
  | .invalid | .absent => false

/-- A glue station in FAULT is recovered: the causes that are gone leave; with none left it is MOVING and judged at once (R96). -/
def State.recoverGlue (s : State) (k : GlueId) : State :=
  match (s.glue k).state, (s.glue k).settings with
  | .fault, some c =>
    let s1 := s.onGlue k fun g =>
      { g with timeout := false, output := g.output && !s.pairFree c, sensor := g.sensor && !isValid g.latest }
    if (s1.glue k).noCause then
      let s2 := s1.setGlueState k .moving
      match (s2.glue k).lastValid with
      | some r => s2.judgeGap k r
      | none => s2
    else s1
  | _, _ => s

/-- What remains after ClearDriveFaults, each kind as a list with its count byte (R115, log 13). -/
def State.remaining (s : State) : List Byte :=
  listBytes (fun o => natBytes 1 (o.val + 1) ++ flagBytes (s.output o).overCurrent) ((allIds 16).filter fun o => (s.output o).trip) ++
    listBytes (fun w => flagBytes w) (if s.dst.thermal then [s.dst.warning] else []) ++
    listBytes (fun v => natBytes 1 (Supply.ctorIdx v)) (if s.dst.supply = .normal then [] else [s.dst.supply]) ++
    listBytes (fun i => natBytes 1 (i.val + 1) ++ flagBytes (!(s.input i).level)) ((allIds 4).filter fun i => (s.input i).latched) ++
    listBytes (fun k => natBytes 1 (k.val + 1) ++ (s.glue k).causeSet) ((allIds 4).filter fun k => (s.glue k).state = .fault)

/-- ClearDriveFaults' six steps (R115), the last in the order GS1 to GS4 (log 45). -/
def State.clearDriveFaults (s : State) : State × List Byte :=
  let s1 := (s.clearLatches.clearRecords).sendReports s
  let s2 := s1.forAll 4 State.recoverGlue
  (s2, okReply s2.remaining)

/-- CLEAR_DRIVE_FAULTS. -/
def execClearDriveFaults (tag : Nat) (s : State) : Host.Outcome State Fault Refusal :=
  hostCommand tag 0x63 State.clearDriveFaults s

/-! ### ReadDrive (R116) -/

/-- The present command of an output: the demand of an owning zone and the level of an owning glue station, the other absent, and both absent
without a single owner that fits the mode (log 13). -/
def State.commandBytes (s : State) (o : OutputId) : List Byte :=
  match s.ownedBy o with
  | some (.zone _) => natBytes 2 (s.demandOf o) ++ absentBytes 1
  | some _ => absentBytes 2 ++ natBytes 1 (s.levelOf o).ctorIdx
  | none => absentBytes 3

/-- An output's part of ReadDrive's reply (R116). Its layout is the model's choice (log 13): the owners are a list of subjects, which does
not tell the sides of a glue pair apart, and the forcing causes are a bit set. -/
def State.outputBytes (s : State) (o : OutputId) : List Byte :=
  let x := s.output o
  natBytes 1 x.mode.ctorIdx ++ optBytes 1 (x.generator.map fun g => g.val + 1) ++ flagBytes x.passive ++
    natBytes 1 (s.ownerStatus o).ctorIdx ++ listBytes (fun w => w.subject.bytes) (s.owners o) ++
    natBytes 1 (s.condition o).ctorIdx ++ bitSetBytes 1 (s.forcingCauses o) ++ flagBytes x.trip ++ flagBytes x.openLoad ++
    natBytes 1 x.tripCount ++ s.commandBytes o ++ flagBytes x.overCurrent ++ flagBytes x.openSense

/-- A generator's part: frequency, demanded duty, duty, whether the cap holds it, that is, takes something from it (log 13). -/
def State.generatorBytes (s : State) (g : GenId) : List Byte :=
  natBytes 2 s.dst.genFreq[g] ++ natBytes 2 (s.demandedDuty g) ++ natBytes 2 (s.duty g) ++
    flagBytes (decide (s.duty g < s.demandedDuty g))

/-- A fault input's part: settings, level, whether active, trip record. -/
def FaultInput.bytes (f : FaultInput) : List Byte :=
  flagBytes (!f.activeHigh) ++ natBytes 2 f.mask.toNat ++ natBytes 1 f.action.ctorIdx ++ flagBytes (!f.level) ++ flagBytes f.active ++
    flagBytes f.latched ++ natBytes 6 f.position ++ natBytes 1 f.count

/-- ReadDrive's reply (R116; its length, log 15). -/
def State.driveReply (s : State) : List Byte :=
  okReply ((allIds 16).flatMap s.outputBytes ++ (allIds 8).flatMap s.generatorBytes ++ natBytes 1 s.dst.supply.ctorIdx ++
    flagBytes s.dst.warning ++ flagBytes s.dst.thermal ++ s.dst.inputs.toList.flatMap FaultInput.bytes)

/-- READ_DRIVE. -/
def execReadDrive (tag : Nat) (s : State) : Host.Outcome State Fault Refusal :=
  hostCommand tag 0x64 (fun t => (t, t.driveReply)) s

end Sys2Proof.Machine
end

