-- ==== Sys2Proof/Machine/DryEnd.lean ====
section
/-! DEFINITION. The commands of the Dry End Controller (chapter 7). -/

namespace Sys2Proof.Machine

/-! ### Events -/

/-- KNIFE_FIRE_PULSE_END (R122): the 50 ms of the knife fire terminal end. -/
def execKnifeFirePulseEnd (j : LaneId) (s : State) : Host.Outcome State Fault Refusal :=
  event id (fun t => t.onLane j fun l => { l with fire := false }) s

/-- The in-position terminal going active (R118). -/
def State.reachPosition (s : State) (i : SlitId) : State :=
  if (s.slit i).state = .positioning then (s.onSlit i fun g => { g with state := .ready }).reportSetup i .ready else s

/-- IN_POSITION_ACTIVE (R118): judged only by its changes. -/
def execInPositionActive (i : SlitId) (s : State) : Host.Outcome State Fault Refusal :=
  event (fun t => t.onSlit i fun g => { g with inPosition := true })
    (fun t => if (s.slit i).inPosition then t else t.reachPosition i) s

/-- The in-position terminal going inactive (R118). -/
def State.losePosition (s : State) (i : SlitId) : State :=
  match (s.slit i).state with
  | .ready | .engaged => s.raise .setupLost (slitSubject i) (natBytes 1 (s.slit i).state.ctorIdx)
  | .idle | .positioning | .fault => s

/-- IN_POSITION_INACTIVE (R118). -/
def execInPositionInactive (i : SlitId) (s : State) : Host.Outcome State Fault Refusal :=
  event (fun t => t.onSlit i fun g => { g with inPosition := false })
    (fun t => if (s.slit i).inPosition then t.losePosition i else t) s

/-- The positioning limit in POSITIONING (R118). -/
def State.positioningLimit (s : State) (i : SlitId) : State :=
  let tag := ((s.slit i).setup.map (·.tag)).getD 0
  let s1 := s.onSlit i fun g => { g with state := .fault, heads := .stop, faultCount := countUp 255 g.faultCount }
  (s1.reportSetup i .fault).raise .setupFault (slitSubject i) (natBytes 2 tag)

/-- POSITIONING_TIMER_EXPIRY (R118): the timer runs in POSITIONING alone. -/
def execPositioningTimerExpiry (i : SlitId) (s : State) : Host.Outcome State Fault Refusal :=
  event id (fun t => if (t.slit i).state = .positioning then t.positioningLimit i else t) s

/-! ### Host commands -/

/-- The checks of R121 with their ordinals. -/
def cutoffChecks (a : CutoffArgs) : List (Bool × Nat) :=
  [(within 300 1000 a.scrap, 1), (within 1 8 a.mult, 2), (decide (a.gate ≤ 2000), 3), (within 50 500 a.rate1, 4),
   (within 50 500 a.rate2, 5), (decide (a.lead ≤ 100), 6), (within 5 120 a.limit, 7)]

/-- SetCutoff's checks and effect (R121). -/
def State.setCutoff (s : State) (a : CutoffArgs) : State × List Byte :=
  if !s.lineIn [.setup] then s.refuse s.lineReply
  else
    match firstFailing (cutoffChecks a) with
    | some n => s.refuse (rangeReply n)
    | none =>
      ({ s with dec := { s.dec with
          scrapLen := mm a.scrap, zoneMult := a.mult, gateSwitch := mm a.gate, rates := #v[a.rate1, a.rate2]
          changeLead := metres a.lead, posLimit := a.limit } }, okReply [])

/-- SET_CUTOFF. -/
def execSetCutoff (tag : Nat) (args : CutoffArgs) (s : State) : Host.Outcome State Fault Refusal :=
  hostCommand tag 0x70 (fun t => t.setCutoff args) s

/-- RetrySetup's checks and effect (R119). -/
def State.retrySetup (s : State) (station : Nat) : State × List Byte :=
  match idOf 2 station with
  | none => s.refuse (rangeReply 1)
  | some i =>
    match (s.slit i).state, (s.slit i).setup with
    | .fault, some g => (s.startPositioning i g, okReply [])
    | st, _ => s.refuse (stateReply (slitSubject i) st.ctorIdx)

/-- RETRY_SETUP. -/
def execRetrySetup (tag station : Nat) (s : State) : Host.Outcome State Fault Refusal :=
  hostCommand tag 0x71 (fun t => t.retrySetup station) s

/-- A setup, or none: tag 0 and two empty lists. -/
def setupBytes : Option Setup → List Byte
  | some g => natBytes 2 g.tag ++ listBytes (natBytes 2) g.knives ++ listBytes (natBytes 2) g.scores
  | none => natBytes 4 0

/-- A station's part of ReadSlitter's reply; `s` gives the free value of its timer. -/
def State.slitBytes (s : State) (i : SlitId) : List Byte :=
  let g := s.slit i
  natBytes 1 g.state.ctorIdx ++ setupBytes g.setup ++ s.timeBytes (decide (g.state = .positioning)) 1 s.dec.posLimit ++
    flagBytes g.inPosition ++ natBytes 1 g.faultCount

/-- ReadSlitter (R132). -/
def State.readSlitter (s : State) : State × List Byte :=
  (if (s.slit 0).state = .positioning || (s.slit 1).state = .positioning then s.takeFresh.takeFresh else s,
   okReply (s.slitBytes 0 ++ s.takeFresh.slitBytes 1 ++ natBytes 1 s.dec.posLimit))

/-- READ_SLITTER. -/
def execReadSlitter (tag : Nat) (s : State) : Host.Outcome State Fault Refusal :=
  hostCommand tag 0x72 State.readSlitter s

/-- A piece record as ReadLanes gives it (R130, R132). -/
def Piece.bytes (p : Piece) : List Byte :=
  natBytes 2 p.tag ++ natBytes 6 p.start ++ natBytes 6 p.finish ++ natBytes 1 p.cls.ctorIdx ++ natBytes 1 p.layers

/-- z in SCRAP mode, the resume point in IDLE mode, absent in SHEET mode (log 13). -/
def CutLane.endPoint (l : CutLane) : Option Nat :=
  match l.mode with
  | .sheet => none
  | .scrap => l.scrapEnd
  | .idle => l.resume

/-- The kind of a next cut, or absent. -/
def cutKindBytes (n : Option NextCut) : List Byte := optBytes 1 (n.map fun c => c.kind.ctorIdx)

/-- A lane's part of ReadLanes' reply (R132). -/
def State.laneBytes (s : State) (j : LaneId) : List Byte :=
  let l := s.lane j
  let n := s.nextCut j
  let q := (s.queue j).accepted ++ (s.queue j).unjudged
  natBytes 1 l.mode.ctorIdx ++ natBytes 2 (l.order.getD 0) ++ optBytes 6 l.pieceStart ++ optBytes 6 l.base ++
    optBytes 6 (n.map (·.pos)) ++ cutKindBytes n ++ optBytes 6 (n.bind (·.target)) ++ optBytes 6 l.endPoint ++
    flagBytes l.sheetPiece ++ flagBytes l.skipped ++ flagBytes l.prevReject ++ flagBytes l.cycling ++ natBytes 4 l.skips ++
    natBytes 4 l.good ++ optBytes 4 (l.order.bind l.required) ++ optBytes 2 l.claim ++ natBytes 1 q.length ++
    listBytes Piece.bytes (q.take 4)

/-- ReadLanes' reply (R132; its length, log 15). -/
def State.lanesReply (s : State) : List Byte :=
  okReply (s.laneBytes 0 ++ s.laneBytes 1 ++ optBytes 2 s.lsv.ceiling.knife ++ natBytes 2 (inMm s.dec.scrapLen) ++
    natBytes 1 s.dec.zoneMult ++ natBytes 2 (inMm s.dec.gateSwitch) ++ s.dec.rates.toList.flatMap (natBytes 2) ++
    natBytes 1 (inMetres s.dec.changeLead) ++ natBytes 1 s.dec.posLimit)

/-- READ_LANES. -/
def execReadLanes (tag : Nat) (s : State) : Host.Outcome State Fault Refusal :=
  hostCommand tag 0x73 (fun t => (t, t.lanesReply)) s

end Sys2Proof.Machine
end

