-- ==== Sys2Proof/Machine/Stack.lean ====
section
/-! DEFINITION. The commands of the Stacker Unit (chapter 8). -/

namespace Sys2Proof.Machine

/-! ### Events -/

/-- CONVEYOR_READY (R139): going active in OFFERED starts the eject. -/
def execConveyorReady (j : StackerId) (active : Bool) (s : State) : Host.Outcome State Fault Refusal :=
  event (fun t => t.onStacker j fun x => { x with conveyorReady := active })
    (fun t => if active && !(s.stacker j).conveyorReady && decide ((t.stacker j).state = .offered) then t.enterEjecting j else t) s

/-- EJECT_PULSE_END (R139): the 200 ms of the eject terminal end. -/
def execEjectPulseEnd (j : StackerId) (s : State) : Host.Outcome State Fault Refusal :=
  event id (fun t => t.onStacker j fun x => { x with eject := false }) s

/-- The eject limit in EJECTING (R139). -/
def State.ejectLimit (s : State) (j : StackerId) : State :=
  let s1 := s.onStacker j fun x => { x with state := .fault }
  (s1.stopCause .stackJam (some (stackerSubject j))).raiseStacker j .ejectLimit (s.stacker j).tag

/-- EJECT_TIMER_EXPIRY (R139): the timer runs in EJECTING alone. -/
def execEjectTimerExpiry (j : StackerId) (s : State) : Host.Outcome State Fault Refusal :=
  event id (fun t => if (t.stacker j).state = .ejecting then t.ejectLimit j else t) s

/-- EJECT_DONE (R140): going active in EJECTING or FAULT completes the eject. -/
def execEjectDone (j : StackerId) (active : Bool) (s : State) : Host.Outcome State Fault Refusal :=
  event (fun t => t.onStacker j fun x => { x with ejectDone := active })
    (fun t =>
      if active && !(s.stacker j).ejectDone && (decide ((t.stacker j).state = .ejecting) || decide ((t.stacker j).state = .fault))
      then t.completeEject j else t) s

/-! ### Host commands -/

/-- SetStacker's checks and effect (R143). -/
def State.setStacker (s : State) (stacker warn crawl limit tolerance : Nat) : State × List Byte :=
  if !s.lineIn [.setup, .ready, .park] then s.refuse s.lineReply
  else
    match idOf 2 stacker with
    | none => s.refuse (rangeReply 1)
    | some j =>
      match firstFailing [(within 10 50 warn, 2), (within 5 400 crawl, 3), (within 2 60 limit, 4), (decide (tolerance ≤ 5), 5)] with
      | some n => s.refuse (rangeReply n)
      | none =>
        ((s.onStacker j fun x => { x with warn := warn, crawl := crawl, ejectLimit := limit, tolerance := tolerance }).evalStacker,
          okReply [])

/-- SET_STACKER. -/
def execSetStacker (tag stacker warn crawl limit tolerance : Nat) (s : State) : Host.Outcome State Fault Refusal :=
  hostCommand tag 0x80 (fun t => t.setStacker stacker warn crawl limit tolerance) s

/-- ForceEject's checks and effect (R141). -/
def State.forceEject (s : State) (stacker : Nat) : State × List Byte :=
  match idOf 2 stacker with
  | none => s.refuse (rangeReply 1)
  | some j =>
    let t := s.stacker j
    if t.state = .stacking ∧ 0 < t.count then (s.offerStep j true, okReply [])
    else if t.state = .fault then (s.enterOffered j, okReply [])
    else s.refuse (stateReply (stackerSubject j) t.state.ctorIdx)

/-- FORCE_EJECT. -/
def execForceEject (tag stacker : Nat) (s : State) : Host.Outcome State Fault Refusal :=
  hostCommand tag 0x81 (fun t => t.forceEject stacker) s

/-- A stack record of 9 bytes (R176). -/
def StackRecord.bytes (r : StackRecord) : List Byte :=
  natBytes 2 r.tag ++ natBytes 4 r.number ++ natBytes 2 r.layers ++ bitSetBytes 1 [r.partialFlag, r.mismatch]

/-- The oldest records removed; a stacker in DUE with room enters OFFERED (R138, R144). -/
def State.takeRecords (s : State) (j : StackerId) (count : Nat) : State :=
  let s1 := s.onStacker j fun x => { x with records := x.records.drop count }
  if (s1.stacker j).state = .due ∧ (s1.stacker j).records.length < Config.recordCapacity then s1.enterOffered j else s1

/-- CollectStacks' checks and effect (R144). -/
def State.collectStacks (s : State) (stacker count : Nat) : State × List Byte :=
  match idOf 2 stacker with
  | none => s.refuse (rangeReply 1)
  | some j =>
    if 8 < count then s.refuse (rangeReply 2)
    else
      let s1 := s.takeRecords j count
      (s1, okReply (listBytes StackRecord.bytes ((s.stacker j).records.take count) ++
        natBytes 1 (s1.stacker j).records.length ++ natBytes 1 (s1.stacker j).state.ctorIdx))

/-- COLLECT_STACKS. -/
def execCollectStacks (tag stacker count : Nat) (s : State) : Host.Outcome State Fault Refusal :=
  hostCommand tag 0x82 (fun t => t.collectStacks stacker count) s

/-- Holdback as runs of consecutive layers of one order (R147). -/
def runsOf : List Nat → List (Nat × Nat)
  | [] => []
  | t :: ts =>
    match runsOf ts with
    | (u, n) :: rest => if u = t then (u, n + 1) :: rest else (t, 1) :: (u, n) :: rest
    | [] => [(t, 1)]

/-- A stacker's part of ReadStackers' reply; `s` gives the free value of its timer, held to the limit that the timer was started with
(R143). -/
def State.stackerBytes (s : State) (j : StackerId) : List Byte :=
  let t := s.stacker j
  natBytes 1 t.state.ctorIdx ++ flagBytes t.partialFlag ++ natBytes 2 (t.tag.getD 0) ++ natBytes 2 t.count ++
    natBytes 1 t.holdback.length ++ listBytes (fun r => natBytes 2 r.1 ++ natBytes 1 r.2) (runsOf t.holdback) ++
    flagBytes (decide (t.state = .offered)) ++ flagBytes t.eject ++ flagBytes t.conveyorReady ++ flagBytes t.ejectDone ++
    s.timeBytes (decide (t.state = .ejecting)) 1 t.timerLimit ++ natBytes 1 t.records.length ++ natBytes 2 s.lcu.eyes[j].count ++
    natBytes 1 t.warn ++ natBytes 2 t.crawl ++ natBytes 1 t.ejectLimit ++ natBytes 1 t.tolerance ++ flagBytes t.claim.isSome

/-- A lane's gate terminal and its gate head's class, or absent. -/
def State.gateBytes (s : State) (j : LaneId) : List Byte :=
  natBytes 1 s.stk.gates[j].ctorIdx ++ optBytes 1 ((s.queue j).unjudged.head?.map fun p => p.cls.ctorIdx)

/-- ReadStackers (R147). -/
def State.readStackers (s : State) : State × List Byte :=
  (if (s.stacker 0).state = .ejecting || (s.stacker 1).state = .ejecting then s.takeFresh.takeFresh else s,
   okReply (s.stackerBytes 0 ++ s.takeFresh.stackerBytes 1 ++ s.gateBytes 0 ++ s.gateBytes 1 ++ optBytes 2 s.lsv.ceiling.stacker ++
     natBytes 4 s.stk.scrapPieces ++ natBytes 6 s.stk.scrapLength))

/-- READ_STACKERS. -/
def execReadStackers (tag : Nat) (s : State) : Host.Outcome State Fault Refusal :=
  hostCommand tag 0x83 State.readStackers s

/-- ReadTally's reply (R145, R176). -/
def State.readTally (s : State) (order : Nat) : List Byte :=
  match s.findOrder order with
  | some o =>
    okReply (natBytes 2 o.tag ++ o.lanes.flatMap fun j =>
      o.tallyBytes j ++ natBytes 2 (o.run j).makeup ++ natBytes 4 (o.run j).short)
  | none => bareReply stAbsent

/-- READ_TALLY. -/
def execReadTally (tag order : Nat) (s : State) : Host.Outcome State Fault Refusal :=
  hostCommand tag 0x84 (fun t => (t, t.readTally order)) s

end Sys2Proof.Machine
end

