-- ==== Sys2Proof/Machine/Reset.lean ====
section
/-! DEFINITION. Power-on, the RESET terminal, and what each block takes at Restart (R18, R38, R62, R79, R101, R117, R133, R147, R160 to
R162, R171). -/

namespace Sys2Proof.Machine

/-! ### Power-on and reset line (R160) -/

/-- The head drives at a reset: told to stop when it finds their station in POSITIONING (R133). -/
def SlitStation.headsAtReset (g : SlitStation) : HeadDrive := if g.state = .positioning then .stop else g.heads

/-- A slitter-scorer station at power-on and reset line. -/
def SlitStation.restarted (g : SlitStation) : SlitStation := { SlitStation.initial g.inPosition with heads := g.headsAtReset }

/-- Every block at its power-on values with the terminals as they stand. The receive line is one of them: held low, it carries no
characters until it returns high, which ends the break it is in, short or long (R164, R165, log 32). -/
def State.resetPart (s : State) (cause : ResetCause) : State :=
  { lcu := .initial s.lcu.phases s.lcu.webPresent s.lcu.knifeIndex
    map := .initial
    obk := .initial
    spc := .initial (s.spc.stations.map (·.speedMatch))
    bnd := .initial
    dst := .initial (s.dst.outputs.map (·.overCurrent)) (s.dst.outputs.map (·.openSense)) s.dst.supply s.dst.warning
      (s.dst.inputs.map (·.level))
    dec := { Dec.initial (Vector.replicate 2 false) with stations := s.dec.stations.map SlitStation.restarted }
    stk := .initial (s.stk.stackers.map (·.conveyorReady)) (s.stk.stackers.map (·.ejectDone))
    lsv := .initial cause
    lnk := .initial cause s.lnk.rxLine s.lnk.cts
    held := s.held
    fresh := s.fresh
    pending := s.pending }

/-- The part starts: reset values, then each fault input judged against its default setting (R113, R117), then the transmitter. A supply out
of range or a warning that the stage monitor reports at the start is taken as the state, without STAGE_FAULT (log 43). The inputs are
judged in the order FI1 to FI4 (log 45). -/
def State.startPart (s : State) (cause : ResetCause) : State := ((s.resetPart cause).forAll 4 State.judgeInput).beginFrame

/-- POWER_ON (R160); while the RESET terminal is held low the part stays reset. -/
def execPowerOn (s : State) : Host.Outcome State Fault Refusal :=
  .next (if s.held then s.resetPart .powerOn else s.startPart .powerOn)

/-- RESET_LINE_ASSERT (R160): the RESET terminal goes low, and the part stays reset until it is released. -/
def execResetLineAssert (s : State) : Host.Outcome State Fault Refusal := .next { s.resetPart .resetLine with held := true }

/-- RESET_LINE (R160): the release of the RESET terminal starts the part as power-on does, with reset cause RESET_LINE. -/
def execResetLine (s : State) : Host.Outcome State Fault Refusal := .next (State.startPart { s with held := false } .resetLine)

/-! ### Restart, block by block (R161) -/

/-- The LSV's part, taken first (R160, R161): the change to SETUP is announced and noticed by R148 unless the line is in SETUP. LINE_STATE
then shows an empty hold-cause set and no stop record, and PART_STARTED follows it (log 48). -/
def State.restartLsv (s : State) : State :=
  let s1 : State :=
    { s with lsv := { s.lsv with
        holds := .empty, stopRec := none, startFlag := true, resetCause := .restart, speedRef := 0, stopped := 0 } }
  let s2 := s1.setEntry .request (some 0)
  let s3 := if s2.lsv.line = .setup then s2 else s2.changeLine .setup
  s3.raise .partStarted ⟨.part, 0⟩ (natBytes 1 ResetCause.restart.ctorIdx)

/-- A counter at Restart (R18). -/
def Counter.restarted (c : Counter) : Counter :=
  { c with c := 0, debt := 0, tally := 0, tallyBase := 0, faulted := false, faultRecord := none, faultCount := 0 }

/-- The LCU's part (R18). -/
def State.restartLcu (s : State) : State :=
  { s with lcu := { s.lcu with
      counters := s.lcu.counters.map Counter.restarted
      joints := Vector.replicate 7 { armed := false, record := none }
      eyes := s.lcu.eyes.map fun e => { e with count := 0 }
      measured := 0
      sampleBase := 0 } }

/-- The MAP's part (R38). The bridge of a web out of use is emptied too, which section 2.5 says is frozen until it returns to use (log 49). -/
def State.restartMap (s : State) : State :=
  let m : WebMap :=
    { WebMap.initial with bridges := s.map.bridges.map fun b => { b with content := 0, entries := [], shortfall := 0 } }
  State.evalBridgeEntry { s with map := m }

/-- The OBK's part (R62). -/
def State.restartObk (s : State) : State :=
  let o : Obk :=
    { s.obk with orders := [], endStatus := .none, pendingIncoming := none, deferral := false, stray := 0 }
  (State.setEntry { s with obk := o } .setup none).setEntry .grade none

/-- A splice station at Restart (R79): one in use, and an UNUSED one too (log 49). -/
def SpliceStation.restarted (t : SpliceStation) : SpliceStation :=
  { t with
    activeReel := none, standbyReel := none, phase := .idle, force := false, firePos := none, windowEnd := none
    accelerate := false, lastSplice := none, confirmed := 0, taken := 0, failed := 0, notMatched := 0 }

/-- The SPC's part (R79). R79's table drops the reels of every station and makes it IDLE, and R79's last paragraph has a station taken out of
use keep its arms, reels and splice state until it returns to use: the table is taken, for UNUSED stations too (log 49, the model's
choice). -/
def State.restartSpc (s : State) : State :=
  State.setEntry { s with spc := { s.spc with stations := s.spc.stations.map SpliceStation.restarted } } .splice none

/-- A slitter-scorer station at Restart (R133). -/
def SlitStation.restartKept (g : SlitStation) : SlitStation := { g with state := .idle, setup := none, heads := g.headsAtReset }

/-- The DEC's part (R133). -/
def State.restartDec (s : State) : State :=
  let d : Dec :=
    { s.dec with
      stations := s.dec.stations.map SlitStation.restartKept
      lanes := s.dec.lanes.map fun l => { CutLane.initial with fire := l.fire }
      queues := Vector.replicate 2 { accepted := [], unjudged := [] } }
  State.setEntry { s with dec := d } .knife none

/-- A stacker at Restart (R147). -/
def Stacker.restarted (t : Stacker) : Stacker :=
  { t with
    state := .stacking, tag := none, count := 0, partialFlag := false, holdback := [], records := [], eject := false, timerLimit := 0 }

/-- The STK's part (R147). -/
def State.restartStk (s : State) : State :=
  let t : Stk :=
    { stackers := s.stk.stackers.map Stacker.restarted, gates := Vector.replicate 2 .reject, scrapPieces := 0, scrapLength := 0 }
  State.setEntry { s with stk := t } .stacker none

/-- A heat zone at Restart (R101). R101 has no row for the setpoint and its feed-forward: they are kept (log 21). -/
def Zone.restarted (z : Zone) : Zone :=
  { z with enabled := false, state := .off, sensor := false, output := false, stale := 0, demand := 0, claim := none, span := none }

/-- A glue station at Restart before its judgement (R98, R101, log 20). R101 has no row for its stale-reading count nor for the rules its
moves follow: they are kept (log 20). -/
def GlueStation.restarted (g : GlueStation) : GlueStation :=
  { g with
    timeout := false, output := false, sensor := false, keepWet := none, rollRun := false, turnTime := 0, span := none
    levelA := .off, levelB := .off }

/-- A station's latest reading is valid and within the tolerance in force of its last target. -/
def GlueStation.holdsGap (g : GlueStation) : Bool :=
  match g.latest with
  | .valid r => inTolerance r g.target g.rules.tolerance
  | .invalid | .absent => false

/-- The judgement of a set glue station in use after Restart (R101). R101's 'latched trip, force or open-load' is read as R109's faulted, so
that an output FORCED only by the supply-range shutdown, which R110 does not latch, counts (log 52, the model's choice). -/
def State.rejudgeGlue (s : State) (k : GlueId) : State :=
  match (s.glue k).settings with
  | some c =>
    if !s.glueInUse k then s
    else if !s.pairFree c then (s.onGlue k fun g => { g with state := .moving }).glueFault k .output
    else if (s.glue k).holdsGap then s.onGlue k fun g => { g with state := restState g.target c.parkGap }
    else s.onGlue k fun g => { g with state := .moving, target := c.parkGap }
  | none => s

/-- The BND's part (R101), its stations judged in the order GS1 to GS4 (log 45). -/
def State.restartBnd (s : State) : State :=
  let b : Bnd :=
    { s.bnd with zones := s.bnd.zones.map Zone.restarted, glues := s.bnd.glues.map GlueStation.restarted, zeroSpeed := 0 }
  (State.setEntry { s with bnd := b } .bond none).forAll 4 State.rejudgeGlue

/-- The fault report of an OWNED output that is faulted under its kept latches (R117), and so the OUTPUT cause of a zone (R101). An output
FORCED only by the supply-range shutdown, no latch by R110, is counted with them (log 52, the model's choice). -/
def State.reportKept (s : State) (o : OutputId) : State :=
  match s.ownedBy o with
  | some w => if s.faulted o then s.ownerReport w true else s
  | none => s

/-- The DST's part (R114, R117), the outputs in the order OUT1 to OUT16 (log 45). -/
def State.restartDst (s : State) : State :=
  (if s.holdRecord then s.addHold .faultInput else s).forAll 16 State.reportKept

/-- Restart's effect: the LSV's part first (R161), then LCU, MAP, OBK, SPC, DEC, STK, BND and DST, in an order that R161 leaves open: the
outputs' kept faults are reported when the stations have been judged (log 48). -/
def State.restartPart (s : State) : State :=
  (((((((s.restartLsv.restartLcu).restartMap).restartObk).restartSpc).restartDec).restartStk).restartBnd).restartDst

end Sys2Proof.Machine
end

