-- ==== Sys2Proof/Machine/Supervisor.lean ====
section
/-! DEFINITION. The commands of the Line Supervisor (chapter 9). -/

namespace Sys2Proof.Machine

/-! ### Commit (R17, R63, R82, R103, R149) -/

/-- A failed configuration check: block, check number, subject named. -/
structure CommitFailure where
  block : Nat
  check : Nat
  subject : Option Subject
  deriving DecidableEq, Repr

/-- A check of a block, naming the lowest-numbered of the subjects that fail it: by R103 and section 4.1 for the DST and the SPC, by log 14
for the LCU and the BND. -/
def checkNone {n : Nat} (block check : Nat) (bad : List (Fin n)) (name : Fin n → Subject) : Option CommitFailure :=
  bad.head?.map fun i => { block := block, check := check, subject := some (name i) }

/-- The LCU's checks (R17). The third names the lowest-numbered of several FAULTED counters in use, in the order LINE, SF1, SF2, SF3, which
R17 leaves open (log 14). -/
def State.lcuChecks (s : State) : List (Option CommitFailure) :=
  [if s.lcu.walls.isNone ∨ s.lcu.width = 0 then some ⟨1, 1, none⟩ else none,
   if (firstFailing (geometryChecks s.lcu.geometry)).isSome then some ⟨1, 2, none⟩ else none,
   checkNone 1 3 ((allIds 4).filter fun i => s.counterInUse i && (s.counter i).faulted) counterSubject]

/-- The SPC's check: every station in use is set (section 4.1). -/
def State.spcChecks (s : State) : List (Option CommitFailure) :=
  [checkNone 4 1 ((allIds 7).filter fun i => s.spliceInUse i && (s.splice i).settings.isNone) spliceSubject]

/-- Set zone n names the temperature channel of an earlier set zone (R82). -/
def State.channelTwice (s : State) (n : ZoneId) : Bool :=
  match (s.zone n).settings with
  | some c => (allIds 12).any fun m => decide (m < n) && ((s.zone m).settings.any fun d => decide (d.channel = c.channel))
  | none => false

/-- Set station k names the gap channel or roll-run terminal of an earlier set station (R82). -/
def State.terminalTwice (s : State) (k : GlueId) : Bool :=
  match (s.glue k).settings with
  | some c =>
    (allIds 4).any fun m =>
      decide (m < k) && ((s.glue m).settings.any fun d => decide (d.channel = c.channel) || decide (d.rollRun = c.rollRun))
  | none => false

/-- The BND's checks (R82). R82 does not say which of several is named: the first and the third name the lowest-numbered zone or station
that fails, the second and the fourth the lowest-numbered that shares with one of a lower number (log 14, the model's choice). -/
def State.bndChecks (s : State) : List (Option CommitFailure) :=
  [checkNone 5 1 ((allIds 12).filter fun n => (s.zone n).settings.any fun c => decide (s.dSlit ≤ c.dOut)) zoneSubject,
   checkNone 5 2 ((allIds 12).filter s.channelTwice) zoneSubject,
   checkNone 5 3 ((allIds 4).filter fun k => s.glueInUse k && (s.glue k).settings.isNone) glueSubject,
   checkNone 5 4 ((allIds 4).filter s.terminalTwice) glueSubject]

/-- The DST's checks (R103). -/
def State.dstChecks (s : State) : List (Option CommitFailure) :=
  [checkNone 6 1 ((allIds 16).filter fun o => s.ownerStatus o = .conflict) outputSubject,
   checkNone 6 2 ((allIds 16).filter fun o => s.ownerStatus o = .modeMismatch) outputSubject]

/-- The first check that fails, in the order LCU, SPC, BND, DST (R149). -/
def State.commitFailure (s : State) : Option CommitFailure :=
  (s.lcuChecks ++ s.spcChecks ++ s.bndChecks ++ s.dstChecks).findSome? id

/-- The RANGE reply of Commit: block, check, and the subject if it names one (R173, log 14). -/
def CommitFailure.reply (f : CommitFailure) : List Byte :=
  natBytes 1 stRange ++ natBytes 1 f.block ++ natBytes 1 f.check ++
    match f.subject with
    | some x => x.bytes
    | none => []

/-- Commit's checks and effect (R149). -/
def State.commit (s : State) : State × List Byte :=
  if !s.lineIn [.setup] then s.refuse s.lineReply
  else
    match s.commitFailure with
    | some f => s.refuse f.reply
    | none => (s.changeLine .ready, okReply [])

/-- COMMIT. -/
def execCommit (tag : Nat) (s : State) : Host.Outcome State Fault Refusal := hostCommand tag 0x01 State.commit s

/-! ### StartLine and StopLine (R90, R99, R150, R151, R154) -/

/-- The ORDER check passes: an order is RUNNING, or STAGED with its setup condition READY (R150). -/
def State.orderReady (s : State) : Bool := s.runningOrder.isSome || s.readyOrder.isSome

/-- The glue stations in use that are not IN_POSITION (R99). -/
def State.gluesOut (s : State) : List GlueId :=
  (allIds 4).filter fun k => s.glueInUse k && decide ((s.glue k).state ≠ .inPosition)

/-- A fault input's level as an item's value: HIGH 0, LOW 1 (log 12). -/
def State.levelItem (s : State) (i : InputId) : Subject × Nat := (inputSubject i, (!(s.input i).level).toNat)

/-- The ORDER item: the staged order and its setup condition, or tag 0 and an absent value (R173). -/
def State.orderItem (s : State) : Subject × Nat :=
  match s.stagedOrder with
  | some o => (orderSubject o.tag, o.setup.ctorIdx)
  | none => (orderSubject 0, 65535)

/-- The failing items of StartLine (R150, R173), those of one kind in rising number (log 45). -/
def State.startItems (s : State) : List (Subject × Nat) :=
  (if s.lsv.startFlag then [(⟨.part, 0⟩, s.lsv.resetCause.ctorIdx)] else []) ++ s.tripRecords.map s.levelItem ++
    (if s.orderReady then [] else [s.orderItem]) ++ s.gluesOut.map fun k => (glueSubject k, (s.glue k).state.ctorIdx)

/-- Dmax, the greatest D_out among the set zones, or none (R90). -/
def State.maxExit (s : State) : Option Nat :=
  ((allIds 12).filterMap fun n => (s.zone n).settings.map (·.dOut)).foldl (fun m d => some (max (m.getD 0) d)) none

/-- The RESTART mark over the board on the hot plates (R90). -/
def State.restartMark (s : State) : State :=
  match s.maxExit with
  | some d => (s.insertMark { start := s.linePos - d, finish := some s.linePos, body := .restart }).1
  | none => s

/-- A StartLine that passes (R151); the reply gives the state entered, first start 0 or resume 1, and the speed target. -/
def State.start (s : State) (speed : Nat) : State × List Byte :=
  let resume := s.runningOrder.isSome
  let s1 := s.setEntry .request (some speed)
  let s2 := (if resume then s1 else s1.firstStart).restartMark
  let s3 := s2.changeLine (if s2.lsv.holds.isEmpty then .run else .hold)
  (s3, okReply (natBytes 1 s3.lsv.line.ctorIdx ++ flagBytes resume ++ natBytes 2 s3.lsv.ceiling.target))

/-- StartLine's checks and effect (R150, R151). -/
def State.startLine (s : State) (speed : Nat) : State × List Byte :=
  if 400 < speed then s.refuse (rangeReply 1)
  else if !s.lineIn [.ready] then s.refuse s.lineReply
  else
    match s.startItems with
    | [] => s.start speed
    | items => s.refuse (itemsReply stNotReady items)

/-- START_LINE. -/
def execStartLine (tag speed : Nat) (s : State) : Host.Outcome State Fault Refusal :=
  hostCommand tag 0x02 (fun t => t.startLine speed) s

/-- StopLine's checks and effect (R154). -/
def State.stopLine (s : State) : State × List Byte :=
  if s.lineIn [.run, .hold] then (s.stopCause .hostStop none, okReply [])
  else if s.lineIn [.stopping] then (s, okReply (stopCauseByte s.ruling))
  else s.refuse s.lineReply

/-- STOP_LINE. -/
def execStopLine (tag : Nat) (s : State) : Host.Outcome State Fault Refusal := hostCommand tag 0x03 State.stopLine s

/-! ### Speed settings (R159) -/

/-- The speed target and the limiting entry. -/
def State.speedReply (s : State) : List Byte :=
  okReply (natBytes 2 s.lsv.ceiling.target ++ natBytes 1 s.lsv.ceiling.limiting.ctorIdx)

/-- SetSpeed's check and effect (R159). -/
def State.setSpeed (s : State) (speed : Nat) : State × List Byte :=
  if 400 < speed then s.refuse (rangeReply 1)
  else
    let s1 := s.setEntry .request (some speed)
    (s1, s1.speedReply)

/-- SET_SPEED. -/
def execSetSpeed (tag speed : Nat) (s : State) : Host.Outcome State Fault Refusal :=
  hostCommand tag 0x04 (fun t => t.setSpeed speed) s

/-- SetRamp accepted: the three settings, and the HOLD entry at once in HOLD (R159). -/
def State.takeRamp (s : State) (accel decel thread : Nat) : State :=
  let s1 : State := { s with lsv := { s.lsv with accel := accel, decel := decel, thread := thread } }
  if s.lsv.line = .hold then s1.setEntry .hold (some thread) else s1

/-- SetRamp's checks and effect (R159). -/
def State.setRamp (s : State) (accel decel thread : Nat) : State × List Byte :=
  match firstFailing [(within 1 100 accel, 1), (within 1 100 decel, 2), (within 5 60 thread, 3)] with
  | some n => s.refuse (rangeReply n)
  | none =>
    let s1 := s.takeRamp accel decel thread
    (s1, s1.speedReply)

/-- SET_RAMP. -/
def execSetRamp (tag accel decel thread : Nat) (s : State) : Host.Outcome State Fault Refusal :=
  hostCommand tag 0x05 (fun t => t.setRamp accel decel thread) s

/-! ### AckHalt, Park, Unpark, AckStart, Restart (R155, R156, R160, R161) -/

/-- AckHalt's checks and effect (R155). -/
def State.ackHalt (s : State) : State × List Byte :=
  if !s.lineIn [.halted] then s.refuse s.lineReply
  else if s.activeTrips = [] ∧ s.lcu.measured = 0 then (s.changeLine .ready, okReply [])
  else s.refuse (itemsReply stNotReady (s.activeTrips.map s.levelItem ++ [(lineSubject, s.lcu.measured)]))

/-- ACK_HALT. -/
def execAckHalt (tag : Nat) (s : State) : Host.Outcome State Fault Refusal := hostCommand tag 0x06 State.ackHalt s

/-- A splice station holds Park off. -/
def SplicePhase.pends : SplicePhase → Bool
  | .matching | .matched | .confirming | .suspect => true
  | .idle | .standby | .blocked => false

/-- The pending-work set with each item's state (R156), those of one kind in rising number and orders in book order (log 45). -/
def State.pendingWork (s : State) : List (Subject × Nat) :=
  ((allIds 7).filter fun i => (s.splice i).phase.pends).map (fun i => (spliceSubject i, (s.splice i).phase.ctorIdx)) ++
    ((allIds 2).filter fun i => (s.slit i).state = .positioning).map (fun i => (slitSubject i, (s.slit i).state.ctorIdx)) ++
    ((allIds 2).filter fun j => !decide ((s.stacker j).state = .stacking) || !(s.stacker j).holdback.isEmpty).map
      (fun j => (stackerSubject j, (s.stacker j).state.ctorIdx)) ++
    (s.ordersIn .draining).map (fun o => (orderSubject o.tag, o.phase.ctorIdx)) ++
    ((allIds 12).filter fun n => (s.zone n).span.isSome || s.lostSpan (.zone n)).map (fun n => (zoneSubject n, (s.zone n).state.ctorIdx)) ++
    ((allIds 4).filter fun k => (s.glue k).span.isSome || s.lostSpan (.glue k)).map fun k => (glueSubject k, (s.glue k).state.ctorIdx)

/-- Park's checks and effect (R156). -/
def State.park (s : State) : State × List Byte :=
  if !s.lineIn [.ready] then s.refuse s.lineReply
  else
    match s.pendingWork with
    | [] => (s.changeLine .park, okReply [])
    | items => s.refuse (itemsReply stPending items)

/-- PARK. -/
def execPark (tag : Nat) (s : State) : Host.Outcome State Fault Refusal := hostCommand tag 0x07 State.park s

/-- Unpark's check and effect (R156). -/
def State.unpark (s : State) : State × List Byte :=
  if !s.lineIn [.park] then s.refuse s.lineReply else (s.changeLine .ready, okReply [])

/-- UNPARK. -/
def execUnpark (tag : Nat) (s : State) : Host.Outcome State Fault Refusal := hostCommand tag 0x08 State.unpark s

/-- AckStart's effect (R160). -/
def State.ackStart (s : State) : State × List Byte :=
  ({ s with lsv := { s.lsv with startFlag := false } }, okReply (natBytes 1 s.lsv.resetCause.ctorIdx))

/-- ACK_START. -/
def execAckStart (tag : Nat) (s : State) : Host.Outcome State Fault Refusal := hostCommand tag 0x09 State.ackStart s

/-- Restart's check and effect (R161). -/
def State.restart (s : State) : State × List Byte :=
  if s.lineIn [.run, .hold, .stopping] then s.refuse s.lineReply
  else (s.restartPart, okReply (natBytes 1 ResetCause.restart.ctorIdx))

/-- RESTART. -/
def execRestart (tag : Nat) (s : State) : Host.Outcome State Fault Refusal := hostCommand tag 0x0A State.restart s

/-! ### ReadStatus (R162) -/

/-- The stop record: active flag, ruling cause, detail, position, latest cause, count. R162 and R172 give neither a code for active and last
nor one for a record that is absent: the first is a leading flag, and an absent record has all 13 bytes 0xFF, that flag included (log 13). -/
def stopRecordBytes : Option StopRecord → List Byte
  | some r =>
    flagBytes r.active ++ stopCauseByte r.ruling ++ optSubjectBytes r.detail ++ optBytes 6 r.position ++ stopCauseByte (some r.latest) ++
      natBytes 1 r.count
  | none => absentBytes 13

/-- ReadStatus' reply (R162). It is 50 bytes and 5 for each pending item, and so passes 240 bytes from 39 items on (log 15). -/
def State.statusReply (s : State) : List Byte :=
  let l := s.lsv
  okReply (natBytes 1 l.line.ctorIdx ++ l.holds.bytes ++ stopRecordBytes l.stopRec ++
    allEntries.flatMap (fun e => optBytes 2 (l.ceiling.get e)) ++ natBytes 2 l.ceiling.target ++ natBytes 1 l.ceiling.limiting.ctorIdx ++
    natBytes 2 l.speedRef ++ natBytes 2 s.lcu.measured ++ natBytes 1 l.stopped ++ flagBytes l.startFlag ++
    natBytes 1 l.resetCause.ctorIdx ++ natBytes 1 l.accel ++ natBytes 1 l.decel ++ natBytes 1 l.thread ++
    listBytes itemBytes s.pendingWork)

/-- READ_STATUS. -/
def execReadStatus (tag : Nat) (s : State) : Host.Outcome State Fault Refusal :=
  hostCommand tag 0x0B (fun t => (t, t.statusReply)) s

end Sys2Proof.Machine
end

