-- ==== Sys2Proof/Machine/Link.lean ====
section
/-! DEFINITION. The commands of the Link Port (chapter 10): receiver, queues, transmitter, silence monitor, and the taking of a command. -/

namespace Sys2Proof.Machine

/-! ### Link commands (R170, R171) -/

/-- PING: the same bytes back (its longest reply, log 15). -/
def execPing (tag : Nat) (bytes : List Byte) (s : State) : Host.Outcome State Fault Refusal :=
  hostCommand tag 0xF0 (fun t => (t, okReply bytes)) s

/-- Identify: OLT, CL86, revision 3 (R171, R172). -/
def State.identify (s : State) : State × List Byte :=
  (s, okReply [0x4F#8, 0x4C#8, 0x54#8, 0x43#8, 0x4C#8, 0x38#8, 0x36#8, 0x03#8])

/-- IDENTIFY. -/
def execIdentify (tag : Nat) (s : State) : Host.Outcome State Fault Refusal := hostCommand tag 0xF1 State.identify s

/-- SetLinkTimeout's check and effect (R170): 0, or 5 to 300; 0 stops the timer and sets the count to 0. The field and the timeout reported
are whole tenths of a second, the step that the setting passage gives beside the unit s (log 13). -/
def State.setLinkTimeout (s : State) (tenths : Nat) : State × List Byte :=
  if tenths = 0 ∨ within 5 300 tenths then
    ({ s with lnk := { s.lnk with timeout := tenths, expiries := if tenths = 0 then 0 else s.lnk.expiries } },
      okReply (natBytes 2 tenths))
  else s.refuse (rangeReply 1)

/-- SET_LINK_TIMEOUT. -/
def execSetLinkTimeout (tag tenths : Nat) (s : State) : Host.Outcome State Fault Refusal :=
  hostCommand tag 0xF2 (fun t => t.setLinkTimeout tenths) s

/-- The pending notice entries of a class. -/
def State.pendingOf (s : State) (c : Nat) : Nat := (s.lnk.notices.filter fun e => e.kind.class = c).length

/-- ReadLink (R171); a running monitor's time left takes a free value. The replies counted are those queued before ReadLink's own
(log 47). -/
def State.readLink (s : State) : State × List Byte :=
  let e := s.lnk.errors
  (if s.monitorRuns then s.takeFresh else s,
   okReply ([e.framing, e.length, e.check, e.kind, e.part, s.lnk.overflow].flatMap (natBytes 2) ++
     natBytes 1 s.lnk.cmdQueue.length ++ natBytes 1 s.lnk.replyQueue.length ++ flagBytes s.readyToReceive ++ flagBytes s.lnk.cts ++
     natBytes 2 s.lnk.timeout ++ flagBytes s.monitorRuns ++ s.timeBytes s.monitorRuns 2 s.lnk.timeout ++ natBytes 1 s.lnk.expiries ++
     [s.pendingOf 0, s.pendingOf 1, s.pendingOf 2, s.pendingOf 3].flatMap (natBytes 2)))

/-- READ_LINK. -/
def execReadLink (tag : Nat) (s : State) : Host.Outcome State Fault Refusal := hostCommand tag 0xF3 State.readLink s

/-! ### The receiver (R163, R164, R166) -/

/-- The receiver's state changed. -/
def State.setReceiver (s : State) (r : Receiver) : State := { s with lnk := { s.lnk with receiver := r } }

/-- One more error of a reason, holding at 65,535. -/
def ErrorCounts.count (e : ErrorCounts) : LinkError → ErrorCounts
  | .framing => { e with framing := countUp 65535 e.framing }
  | .length => { e with length := countUp 65535 e.length }
  | .check => { e with check := countUp 65535 e.check }
  | .kind => { e with kind := countUp 65535 e.kind }
  | .part => { e with part := countUp 65535 e.part }

/-- An error counted without a notice. -/
def State.countError (s : State) (r : LinkError) : State := { s with lnk := { s.lnk with errors := s.lnk.errors.count r } }

/-- A receive error: counted, noticed, and the receiver left in HUNT (R164). -/
def State.linkError (s : State) (r : LinkError) : State :=
  ((s.countError r).raise .linkError linkSubject (natBytes 1 r.ctorIdx)).setReceiver .hunt

/-- A valid frame at the command queue: placed at its tail, or discarded with LINK_OVERFLOW when the queue holds 4 (R166). -/
def State.queueFrame (s : State) (f : Frame) : State :=
  if s.lnk.cmdQueue.length < Config.linkCapacity then { s with lnk := { s.lnk with cmdQueue := s.lnk.cmdQueue ++ [f] } }
  else
    State.raise { s with lnk := { s.lnk with overflow := countUp 65535 s.lnk.overflow } } .linkOverflow linkSubject
      (natBytes 2 f.tag ++ natBytes 1 f.code)

/-- A valid frame at the silence monitor: the expiry count is 0 and LINK_STALE leaves the hold-cause set (R170). -/
def State.hearHost (s : State) : State := State.removeHold { s with lnk := { s.lnk with expiries := 0 } } .linkStale

/-- A valid frame (R163): the command queue takes it before the silence monitor (log 48). -/
def State.validFrame (s : State) (f : Frame) : State := (s.queueFrame f).hearHost

/-- The number that a big-endian run of bytes spells. -/
def bytesNat (bs : List Byte) : Nat := bs.foldl (fun acc b => 256 * acc + b.toNat) 0

/-- A complete frame behind its lead, judged by its check (R164, R172). -/
def State.judgeFrame (s : State) (got : List Byte) (n : Nat) : State :=
  let body := got.take (4 + n)
  if (crc body).toNat = bytesNat (got.drop (4 + n)) then
    (s.setReceiver .hunt).validFrame { tag := bytesNat (got.take 2), code := bytesNat ((got.drop 2).take 1), payload := body.drop 4 }
  else s.linkError .check

/-- A character added to the frame being collected; the length field is judged as soon as it arrives (R163). -/
def State.collect (s : State) (got : List Byte) : State :=
  let n := bytesNat ((got.drop 3).take 1)
  if got.length < 4 then s.setReceiver (.collect got)
  else if Config.payloadLimit < n then s.linkError .length
  else if got.length < 6 + n then s.setReceiver (.collect got)
  else s.judgeFrame got n

/-- A received character (R163, R164). One whose stop bit is 0 is a framing error whatever its mark and its byte, and begins no frame
(log 46). -/
def State.takeCharacter (s : State) (mark : Bool) (b : Byte) (stop : Bool) : State :=
  match s.lnk.receiver with
  | .hunt =>
    if !stop then s.countError .framing
    else if !mark then s
    else if b = 0x1C#8 then s.setReceiver (.collect [])
    else s.linkError .kind
  | .collect got =>
    if !stop then s.linkError .framing
    else if !mark then s.collect (got ++ [b])
    else if b = 0x1C#8 then (s.linkError .part).setReceiver (.collect [])
    else s.linkError .kind

/-- RECEIVE_CHARACTER; no character is taken while the line is in a break or ignored (log 32). -/
def execReceiveCharacter (mark : Bool) (b : Byte) (stop : Bool) (s : State) : Host.Outcome State Fault Refusal :=
  event id (fun t => if t.lnk.rxLine = .up then t.takeCharacter mark b stop else t) s

/-! ### Breaks (R164, R165) -/

/-- The receive line changed. -/
def State.setRx (s : State) (r : RxLine) : State := { s with lnk := { s.lnk with rxLine := r } }

/-- BREAK_START (R164): a partial frame is discarded with reason PARTIAL. -/
def execBreakStart (s : State) : Host.Outcome State Fault Refusal :=
  event (fun t => if t.lnk.rxLine = .up then t.setRx .inBreak else t)
    (fun t =>
      match s.lnk.rxLine, t.lnk.receiver with
      | .up, .collect _ => t.linkError .part
      | _, _ => t) s

/-- SHORT_BREAK_END (R164): the receiver takes characters again in HUNT. -/
def execShortBreakEnd (s : State) : Host.Outcome State Fault Refusal :=
  event (fun t => if t.lnk.rxLine = .inBreak then t.setRx .up else t) id s

/-- A link reset (R165). -/
def State.resetLink (s : State) : State :=
  { s with lnk := { s.lnk with receiver := .hunt, cmdQueue := [], replyQueue := [], sending := none } }

/-- LINK_RESET (R165): the line has been low for 2 ms; it is ignored until it returns high. -/
def execLinkReset (s : State) : Host.Outcome State Fault Refusal := event (fun t => t.setRx .ignored) State.resetLink s

/-- LONG_BREAK_END (R165): the line returns high, and the receiver takes characters again in HUNT. -/
def execLongBreakEnd (s : State) : Host.Outcome State Fault Refusal :=
  event (fun t => if t.lnk.rxLine = .ignored then t.setRx .up else t) id s

/-! ### The transmitter (R168, R169) -/

/-- CLEAR_TO_SEND_CHANGE (R168). -/
def execClearToSendChange (active : Bool) (s : State) : Host.Outcome State Fault Refusal :=
  event (fun t => { t with lnk := { t.lnk with cts := active } }) id s

/-- A notice entry whose frame is complete: cleared without raises during the send, else moved to the end with their count (R169). -/
def noticeSent (e : NoticeEntry) (raises : Nat) (es : List NoticeEntry) : List NoticeEntry :=
  let mine := es.find? fun x => x.kind = e.kind ∧ x.subject = e.subject
  let others := es.filter fun x => ¬(x.kind = e.kind ∧ x.subject = e.subject)
  if raises = 0 then others
  else
    match mine with
    | some x => others ++ [{ x with count := raises }]
    | none => others

/-- The frame being sent is complete (R168, R169). -/
def State.frameSent (s : State) : State :=
  match s.lnk.sending with
  | none => s
  | some (.reply _) => { s with lnk := { s.lnk with sending := none, replyQueue := s.lnk.replyQueue.tail } }
  | some (.notice e r) => { s with lnk := { s.lnk with sending := none, notices := noticeSent e r s.lnk.notices } }

/-- FRAME_SEND_COMPLETE (R168, R169): the next frame is chosen at the boundary. -/
def execFrameSendComplete (s : State) : Host.Outcome State Fault Refusal := event id State.frameSent s

/-! ### The silence monitor (R170) -/

/-- An expiry of the running timer. -/
def State.hostSilent (s : State) : State :=
  if s.lnk.expiries = 0 then
    (State.addHold { s with lnk := { s.lnk with expiries := 1 } } .linkStale).raise .linkStale linkSubject []
  else State.stopCause { s with lnk := { s.lnk with expiries := 2 } } .linkLost (some linkSubject)

/-- LINK_TIMEOUT_EXPIRY (R170): the timer runs while the monitor runs. -/
def execLinkTimeoutExpiry (s : State) : Host.Outcome State Fault Refusal :=
  event id (fun t => if t.monitorRuns then t.hostSilent else t) s

/-! ### Taking a command (R167, R173) -/

/-- What the owning block does with a command, and its reply; an event is no host command. -/
def commandBody (i : Instr) : State → State × List Byte :=
  match i with
  | .commit _ => State.commit
  | .startLine _ speed => fun t => t.startLine speed
  | .stopLine _ => State.stopLine
  | .setSpeed _ speed => fun t => t.setSpeed speed
  | .setRamp _ accel decel thread => fun t => t.setRamp accel decel thread
  | .ackHalt _ => State.ackHalt
  | .park _ => State.park
  | .unpark _ => State.unpark
  | .ackStart _ => State.ackStart
  | .restart _ => State.restart
  | .readStatus _ => fun t => (t, t.statusReply)
  | .setScale _ counter scale => fun t => t.setScale counter scale
  | .setGeometry _ slit cut rej stk1 stk2 => fun t => t.setGeometry ⟨mm slit, mm cut, mm rej, mm stk1, mm stk2⟩
  | .setLineBuild _ walls width => fun t => t.setLineBuild walls width
  | .setSheetEyes _ edge1 edge2 => fun t => t.setSheetEyes edge1 edge2
  | .readLength _ => fun t => (t, t.lengthReply)
  | .setBridge _ web slow high crawl => fun t => t.setBridge web slow high crawl
  | .threadBridge _ web content => fun t => t.threadBridge web content
  | .addHostMark _ start finish reason => fun t => t.addHostMark start finish reason
  | .resumeSorting _ => State.resumeSorting
  | .readMap _ first count => fun t => (t, t.readMap first count)
  | .readBridge _ web first count => fun t => (t, t.readBridge web first count)
  | .setChangeLimits _ margin step maximum crawl => fun t => t.setChangeLimits margin step maximum crawl
  | .addOrder _ order => fun t => t.addOrder order
  | .amendTarget _ order lane target => fun t => t.amendTarget order lane target
  | .cancelOrder _ order => fun t => t.cancelOrder order
  | .readOrder _ order => fun t => (t, t.readOrder order)
  | .readBook _ => fun t => (t, t.bookReply)
  | .collectOrder _ order => fun t => t.collectOrder order
  | .setStation _ args => fun t => t.setStation args
  | .loadReel _ station arm reel paper length => fun t => t.loadReel station arm reel paper length
  | .unloadReel _ station => fun t => t.unloadReel station
  | .forceSplice _ station => fun t => t.forceSplice station
  | .spliceVerdict _ station verdict => fun t => t.spliceVerdict station verdict
  | .readStation _ station => fun t => t.readStation station
  | .setGrade _ args => fun t => t.setGrade args
  | .readGrade _ grade => fun t => (t, t.readGrade grade)
  | .setZone _ args => fun t => t.setZone args
  | .setZoneEnable _ zone enable => fun t => t.setZoneEnable zone enable
  | .setBondCommon _ heatLead glueLead standby => fun t => t.setBondCommon heatLead glueLead standby
  | .setGlue _ args => fun t => t.setGlue args
  | .readZone _ zone => fun t => (t, t.readZone zone)
  | .readGlue _ station => fun t => t.readGlue station
  | .readBond _ => fun t => (t, t.bondReply)
  | .setOutput _ output mode generator passive => fun t => t.setOutput output mode generator passive
  | .setGenerator _ generator frequency => fun t => t.setGenerator generator frequency
  | .setFaultInput _ input level mask action => fun t => t.setFaultInput input level mask action
  | .clearDriveFaults _ => State.clearDriveFaults
  | .readDrive _ => fun t => (t, t.driveReply)
  | .setCutoff _ args => fun t => t.setCutoff args
  | .retrySetup _ station => fun t => t.retrySetup station
  | .readSlitter _ => State.readSlitter
  | .readLanes _ => fun t => (t, t.lanesReply)
  | .setStacker _ stacker warn crawl limit tolerance => fun t => t.setStacker stacker warn crawl limit tolerance
  | .forceEject _ stacker => fun t => t.forceEject stacker
  | .collectStacks _ stacker count => fun t => t.collectStacks stacker count
  | .readStackers _ => State.readStackers
  | .readTally _ order => fun t => (t, t.readTally order)
  | .ping _ bytes => fun t => (t, okReply bytes)
  | .identify _ => State.identify
  | .setLinkTimeout _ tenths => fun t => t.setLinkTimeout tenths
  | .readLink _ => State.readLink
  | .powerOn .. => fun t => (t, [])
  | .resetLineAssert .. => fun t => (t, [])
  | .resetLine .. => fun t => (t, [])
  | .encoderTransition .. => fun t => (t, [])
  | .webPresentChange .. => fun t => (t, [])
  | .speedSample .. => fun t => (t, [])
  | .temperatureReading .. => fun t => (t, [])
  | .gapReading .. => fun t => (t, [])
  | .moveTimerExpiry .. => fun t => (t, [])
  | .keepWetSecond .. => fun t => (t, [])
  | .turnTimerExpiry .. => fun t => (t, [])
  | .passiveTestSecond .. => fun t => (t, [])
  | .overcurrentEvent .. => fun t => (t, [])
  | .openLoadEvent .. => fun t => (t, [])
  | .supplyChange .. => fun t => (t, [])
  | .thermalWarningChange .. => fun t => (t, [])
  | .thermalShutdown .. => fun t => (t, [])
  | .faultInputChange .. => fun t => (t, [])
  | .jointEdge .. => fun t => (t, [])
  | .sheetEyeEdge .. => fun t => (t, [])
  | .knifeIndex .. => fun t => (t, [])
  | .knifeFirePulseEnd .. => fun t => (t, [])
  | .speedMatch .. => fun t => (t, [])
  | .matchTimerExpiry .. => fun t => (t, [])
  | .pasteKnifePulseEnd .. => fun t => (t, [])
  | .inPositionActive .. => fun t => (t, [])
  | .inPositionInactive .. => fun t => (t, [])
  | .positioningTimerExpiry .. => fun t => (t, [])
  | .conveyorReady .. => fun t => (t, [])
  | .ejectPulseEnd .. => fun t => (t, [])
  | .ejectTimerExpiry .. => fun t => (t, [])
  | .ejectDone .. => fun t => (t, [])
  | .receiveCharacter .. => fun t => (t, [])
  | .breakStart .. => fun t => (t, [])
  | .shortBreakEnd .. => fun t => (t, [])
  | .linkReset .. => fun t => (t, [])
  | .commandTake .. => fun t => (t, [])
  | .unknownCommand .. => fun t => (t, [])
  | .clearToSendChange .. => fun t => (t, [])
  | .frameSendComplete .. => fun t => (t, [])
  | .linkTimeoutExpiry .. => fun t => (t, [])
  | .longBreakEnd .. => fun t => (t, [])
/-- A frame decoded and carried to its block, or answered UNKNOWN or MALFORMED without reaching one (R167, R173). -/
def frameCommand (f : Frame) : State → State × List Byte :=
  match decodeCommand f.tag f.code f.payload with
  | .ok i => commandBody i
  | .error .unknown => fun t => (t, bareReply stUnknown)
  | .error .malformed => fun t => (t, bareReply stMalformed)

/-- The command at the head of the queue is taken while the reply queue has room (R167). -/
def State.takeCommand (s : State) : State :=
  match s.lnk.cmdQueue with
  | [] => s
  | f :: rest =>
    if s.lnk.replyQueue.length < Config.linkCapacity then
      State.serve { s with lnk := { s.lnk with cmdQueue := rest } } f.tag f.code (frameCommand f)
    else s

/-- COMMAND_TAKE (R167). -/
def execCommandTake (s : State) : Host.Outcome State Fault Refusal := event id State.takeCommand s

/-- UNKNOWN_COMMAND (R167, R173): answered UNKNOWN; a listed code is not an unknown command (log 29). -/
def execUnknownCommand (tag code : Nat) (s : State) : Host.Outcome State Fault Refusal :=
  if commandCodes.contains code then .next s else hostCommand tag code (fun t => (t, bareReply stUnknown)) s

end Sys2Proof.Machine
end

