-- ==== Sys2Proof/Machine/Dispatch.lean ====
section
/-! DEFINITION. Every command of spec/opcode_table.json and its meaning. -/

namespace Sys2Proof.Machine

def exec (i : Instr) (s : State) : Host.Outcome State Fault Refusal :=
  match i with
  | .powerOn => Sys2Proof.Machine.execPowerOn s
  | .resetLineAssert => Sys2Proof.Machine.execResetLineAssert s
  | .resetLine => Sys2Proof.Machine.execResetLine s
  | .encoderTransition counter phases => Sys2Proof.Machine.execEncoderTransition counter phases s
  | .webPresentChange web active => Sys2Proof.Machine.execWebPresentChange web active s
  | .speedSample => Sys2Proof.Machine.execSpeedSample s
  | .temperatureReading zone reading => Sys2Proof.Machine.execTemperatureReading zone reading s
  | .gapReading station reading => Sys2Proof.Machine.execGapReading station reading s
  | .moveTimerExpiry station => Sys2Proof.Machine.execMoveTimerExpiry station s
  | .keepWetSecond => Sys2Proof.Machine.execKeepWetSecond s
  | .turnTimerExpiry station => Sys2Proof.Machine.execTurnTimerExpiry station s
  | .passiveTestSecond openLoads => Sys2Proof.Machine.execPassiveTestSecond openLoads s
  | .overcurrentEvent output isOver => Sys2Proof.Machine.execOvercurrentEvent output isOver s
  | .openLoadEvent output isOpen => Sys2Proof.Machine.execOpenLoadEvent output isOpen s
  | .supplyChange supply => Sys2Proof.Machine.execSupplyChange supply s
  | .thermalWarningChange present => Sys2Proof.Machine.execThermalWarningChange present s
  | .thermalShutdown => Sys2Proof.Machine.execThermalShutdown s
  | .faultInputChange input high => Sys2Proof.Machine.execFaultInputChange input high s
  | .jointEdge station rising => Sys2Proof.Machine.execJointEdge station rising s
  | .sheetEyeEdge eye rising => Sys2Proof.Machine.execSheetEyeEdge eye rising s
  | .knifeIndex lane high => Sys2Proof.Machine.execKnifeIndex lane high s
  | .knifeFirePulseEnd lane => Sys2Proof.Machine.execKnifeFirePulseEnd lane s
  | .speedMatch station active => Sys2Proof.Machine.execSpeedMatch station active s
  | .matchTimerExpiry station => Sys2Proof.Machine.execMatchTimerExpiry station s
  | .pasteKnifePulseEnd station => Sys2Proof.Machine.execPasteKnifePulseEnd station s
  | .inPositionActive station => Sys2Proof.Machine.execInPositionActive station s
  | .inPositionInactive station => Sys2Proof.Machine.execInPositionInactive station s
  | .positioningTimerExpiry station => Sys2Proof.Machine.execPositioningTimerExpiry station s
  | .conveyorReady stacker active => Sys2Proof.Machine.execConveyorReady stacker active s
  | .ejectPulseEnd stacker => Sys2Proof.Machine.execEjectPulseEnd stacker s
  | .ejectTimerExpiry stacker => Sys2Proof.Machine.execEjectTimerExpiry stacker s
  | .ejectDone stacker active => Sys2Proof.Machine.execEjectDone stacker active s
  | .receiveCharacter mark byte stop => Sys2Proof.Machine.execReceiveCharacter mark byte stop s
  | .breakStart => Sys2Proof.Machine.execBreakStart s
  | .shortBreakEnd => Sys2Proof.Machine.execShortBreakEnd s
  | .linkReset => Sys2Proof.Machine.execLinkReset s
  | .commandTake => Sys2Proof.Machine.execCommandTake s
  | .unknownCommand tag code => Sys2Proof.Machine.execUnknownCommand tag code s
  | .clearToSendChange active => Sys2Proof.Machine.execClearToSendChange active s
  | .frameSendComplete => Sys2Proof.Machine.execFrameSendComplete s
  | .linkTimeoutExpiry => Sys2Proof.Machine.execLinkTimeoutExpiry s
  | .commit tag => Sys2Proof.Machine.execCommit tag s
  | .startLine tag speed => Sys2Proof.Machine.execStartLine tag speed s
  | .stopLine tag => Sys2Proof.Machine.execStopLine tag s
  | .setSpeed tag speed => Sys2Proof.Machine.execSetSpeed tag speed s
  | .setRamp tag accel decel thread => Sys2Proof.Machine.execSetRamp tag accel decel thread s
  | .ackHalt tag => Sys2Proof.Machine.execAckHalt tag s
  | .park tag => Sys2Proof.Machine.execPark tag s
  | .unpark tag => Sys2Proof.Machine.execUnpark tag s
  | .ackStart tag => Sys2Proof.Machine.execAckStart tag s
  | .restart tag => Sys2Proof.Machine.execRestart tag s
  | .readStatus tag => Sys2Proof.Machine.execReadStatus tag s
  | .setScale tag counter scale => Sys2Proof.Machine.execSetScale tag counter scale s
  | .setGeometry tag slit cut rej stk1 stk2 => Sys2Proof.Machine.execSetGeometry tag slit cut rej stk1 stk2 s
  | .setLineBuild tag walls width => Sys2Proof.Machine.execSetLineBuild tag walls width s
  | .setSheetEyes tag edge1 edge2 => Sys2Proof.Machine.execSetSheetEyes tag edge1 edge2 s
  | .readLength tag => Sys2Proof.Machine.execReadLength tag s
  | .setBridge tag web slow high crawl => Sys2Proof.Machine.execSetBridge tag web slow high crawl s
  | .threadBridge tag web content => Sys2Proof.Machine.execThreadBridge tag web content s
  | .addHostMark tag start finish reason => Sys2Proof.Machine.execAddHostMark tag start finish reason s
  | .resumeSorting tag => Sys2Proof.Machine.execResumeSorting tag s
  | .readMap tag first count => Sys2Proof.Machine.execReadMap tag first count s
  | .readBridge tag web first count => Sys2Proof.Machine.execReadBridge tag web first count s
  | .setChangeLimits tag margin step maximum crawl => Sys2Proof.Machine.execSetChangeLimits tag margin step maximum crawl s
  | .addOrder tag order => Sys2Proof.Machine.execAddOrder tag order s
  | .amendTarget tag order lane target => Sys2Proof.Machine.execAmendTarget tag order lane target s
  | .cancelOrder tag order => Sys2Proof.Machine.execCancelOrder tag order s
  | .readOrder tag order => Sys2Proof.Machine.execReadOrder tag order s
  | .readBook tag => Sys2Proof.Machine.execReadBook tag s
  | .collectOrder tag order => Sys2Proof.Machine.execCollectOrder tag order s
  | .setStation tag args => Sys2Proof.Machine.execSetStation tag args s
  | .loadReel tag station arm reel paper length => Sys2Proof.Machine.execLoadReel tag station arm reel paper length s
  | .unloadReel tag station => Sys2Proof.Machine.execUnloadReel tag station s
  | .forceSplice tag station => Sys2Proof.Machine.execForceSplice tag station s
  | .spliceVerdict tag station verdict => Sys2Proof.Machine.execSpliceVerdict tag station verdict s
  | .readStation tag station => Sys2Proof.Machine.execReadStation tag station s
  | .setGrade tag args => Sys2Proof.Machine.execSetGrade tag args s
  | .readGrade tag grade => Sys2Proof.Machine.execReadGrade tag grade s
  | .setZone tag args => Sys2Proof.Machine.execSetZone tag args s
  | .setZoneEnable tag zone enable => Sys2Proof.Machine.execSetZoneEnable tag zone enable s
  | .setBondCommon tag heatLead glueLead standby => Sys2Proof.Machine.execSetBondCommon tag heatLead glueLead standby s
  | .setGlue tag args => Sys2Proof.Machine.execSetGlue tag args s
  | .readZone tag zone => Sys2Proof.Machine.execReadZone tag zone s
  | .readGlue tag station => Sys2Proof.Machine.execReadGlue tag station s
  | .readBond tag => Sys2Proof.Machine.execReadBond tag s
  | .setOutput tag output mode generator passive => Sys2Proof.Machine.execSetOutput tag output mode generator passive s
  | .setGenerator tag generator frequency => Sys2Proof.Machine.execSetGenerator tag generator frequency s
  | .setFaultInput tag input level mask action => Sys2Proof.Machine.execSetFaultInput tag input level mask action s
  | .clearDriveFaults tag => Sys2Proof.Machine.execClearDriveFaults tag s
  | .readDrive tag => Sys2Proof.Machine.execReadDrive tag s
  | .setCutoff tag args => Sys2Proof.Machine.execSetCutoff tag args s
  | .retrySetup tag station => Sys2Proof.Machine.execRetrySetup tag station s
  | .readSlitter tag => Sys2Proof.Machine.execReadSlitter tag s
  | .readLanes tag => Sys2Proof.Machine.execReadLanes tag s
  | .setStacker tag stacker warn crawl limit tolerance => Sys2Proof.Machine.execSetStacker tag stacker warn crawl limit tolerance s
  | .forceEject tag stacker => Sys2Proof.Machine.execForceEject tag stacker s
  | .collectStacks tag stacker count => Sys2Proof.Machine.execCollectStacks tag stacker count s
  | .readStackers tag => Sys2Proof.Machine.execReadStackers tag s
  | .readTally tag order => Sys2Proof.Machine.execReadTally tag order s
  | .ping tag bytes => Sys2Proof.Machine.execPing tag bytes s
  | .identify tag => Sys2Proof.Machine.execIdentify tag s
  | .setLinkTimeout tag tenths => Sys2Proof.Machine.execSetLinkTimeout tag tenths s
  | .readLink tag => Sys2Proof.Machine.execReadLink tag s
  | .longBreakEnd => Sys2Proof.Machine.execLongBreakEnd s

end Sys2Proof.Machine
end

