-- ==== Sys2Proof/WellFormed.lean ====
section
/-! DEFINITION. Which terms of `Instr` a sender can send.

Events are always well-formed: their subjects are bounded by their types. A host command is well-formed when a frame can carry it. -/

namespace Sys2Proof

/-- A field's value fits its width in bytes (R172). -/
def fieldFits (f : Nat × Nat) : Bool := decide (f.2 < 256 ^ f.1)

/-- A frame can carry the layout: the tag takes two bytes, every field fits its width, and the payload is at most 240 bytes (R172). -/
def HostLayout.fits (l : HostLayout) : Bool :=
  decide (l.tag < 256 ^ 2) && l.fields.all fieldFits && decide ((fieldBytes l.fields).length ≤ Config.payloadLimit)

/-- Whether a sender can send the command: a host command fits a frame, UNKNOWN_COMMAND has a tag and a code that fit and a code
outside the command list (R173), and every other event is fit as its type makes it. -/
def Instr.wf (i : Instr) : Bool :=
  match i.layout with
  | some l => l.fits
  | none =>
    match i with
    | .unknownCommand tag code => decide (tag < 256 ^ 2) && decide (code < 256) && !commandCodes.contains code
    | _ => true

end Sys2Proof
end

