-- ==== Sys2Proof/Safety.lean ====
section
/-! DEFINITION. What is claimed of the machine: safe steps, the invariants of the line state, the link queues, the web map and the order
book, and the vocabulary of the statements (a host command served, a reply sent, a notice raised, blocks left unchanged). -/

namespace Sys2Proof.Machine

/-! ### Outcomes -/
/-- A step from the state answers a next state: the part neither faults nor refuses. -/
def State.stepsOn (s : State) : Prop := ∃ t, step s = .next t

/-! ### Host commands -/

/-- A host command is taken at once: the part is not held in reset and the reply queue has room (R167, log 4). -/
def State.serves (s : State) : Prop := s.held = false ∧ s.lnk.replyQueue.length < Config.linkCapacity

/-- The state with a reply at the tail of the reply queue, and a frame begun if the transmitter can (R167, R168). -/
def State.replied (s : State) (tag code : Nat) (payload : List Byte) : State :=
  (s.pushReply { tag := tag, code := code, payload := payload }).beginFrame

/-- A host command answered with a status and no other effect: a refusal, or a read (R167). -/
def State.answers (s : State) (c : Instr) (tag code status : Nat) : Prop :=
  ∃ p, exec c s = .next (s.replied tag code p) ∧ p.head? = some (BitVec.ofNat 8 status)

/-! ### Transitions of an encoder -/

/-- The transitions of the forward cycle 00, 10, 11, 01 (R2): the state left and the state entered. -/
def forwardPairs : List (Phase × Phase) :=
  [(⟨false, false⟩, ⟨true, false⟩), (⟨true, false⟩, ⟨true, true⟩), (⟨true, true⟩, ⟨false, true⟩), (⟨false, true⟩, ⟨false, false⟩)]

/-- The state after a transition of counter `i` to `ph` that leaves the counter as `k`: the terminal and the reference phase state are
the new phase state (R2). -/
def State.withCounter (s : State) (i : CounterId) (ph : Phase) (k : Counter) : State :=
  { s with lcu := { s.lcu with
      phases := s.lcu.phases.set i.val ph i.isLt, counters := s.lcu.counters.set i.val { k with refPhase := ph } i.isLt } }

/-- A counter that counts: in use, not FAULTED, its web present (R2, R6, R7, R15). -/
def State.counts (s : State) (i : CounterId) : Prop :=
  i.val ≤ s.walls ∧ (s.counter i).faulted = false ∧ ∀ k : WebId, i = k.succ → s.lcu.webPresent[k] = true

/-! ### Effects that several commands share -/

/-- A notice of the kind and the subject is pending (R169). -/
def State.noticed (s : State) (k : NoticeKind) (x : SubjectType) (n : Nat) : Prop :=
  ∃ e ∈ s.lnk.notices, e.kind = k ∧ e.subject = ⟨x, n⟩

/-- A notice of the kind and the subject is pending with this detail (R169, R175). -/
def State.noticedWith (s : State) (k : NoticeKind) (x : SubjectType) (n : Nat) (detail : List Byte) : Prop :=
  ∃ e ∈ s.lnk.notices, e.kind = k ∧ e.subject = ⟨x, n⟩ ∧ e.detail = detail

/-- LINE_STATE is pending with the detail of its table (R175): the old state, the present one, the hold-cause set, the ruling cause of an
active stop record, the latest cause and its subject. -/
def State.lineNoticed (s : State) (old : LineState) : Prop :=
  let h := s.lsv.holds
  let ruling := s.lsv.stopRec.bind fun r => if r.active = true then r.ruling else none
  let latest := s.lsv.stopRec.map (·.latest)
  let detail := s.lsv.stopRec.bind (·.latestDetail)
  s.noticedWith .lineState .line 0
    (natBytes 1 old.ctorIdx ++ natBytes 1 s.lsv.line.ctorIdx ++
      bitSetBytes 1 [h.linkStale, h.setupOverdue, h.spliceSuspect, h.webCounter, h.faultInput] ++
      optBytes 1 (ruling.map (·.ctorIdx)) ++ optBytes 1 (latest.map (·.ctorIdx)) ++ optSubjectBytes detail)

/-- The stop record names this cause with this subject as its latest (R153). -/
def State.stopTaken (s : State) (c : StopCause) (x : SubjectType) (n : Nat) : Prop :=
  ∃ r, s.lsv.stopRec = some r ∧ r.latest = c ∧ r.latestDetail = some ⟨x, n⟩

/-- A list with a new member before the first that comes strictly behind it by `key`, and behind all before that one (R20, R29). -/
def PlacedIn {α : Type} (key : α → Nat) (x : α) (old new : List α) : Prop :=
  ∃ pre post, old = pre ++ post ∧ (∀ y ∈ pre, key y ≤ key x) ∧ (∀ y ∈ post.head?, key x < key y) ∧ new = pre ++ x :: post

/-- An entry of the ceiling table is the least of the claims on it, and absent when there is none. -/
def IsLeastClaim {α : Type} (entry : Option Nat) (claims : α → Nat → Prop) : Prop :=
  (∀ a n, claims a n → ∃ m, entry = some m ∧ m ≤ n) ∧ ∀ m, entry = some m → ∃ a, claims a m

/-- The BRIDGE entry is the least crawl speed of the bridges in use that stand below their slow level (R31). -/
def State.bridgeEntryOk (s : State) : Prop :=
  IsLeastClaim s.lsv.ceiling.bridge fun (k : WebId) v =>
    k.val + 1 ≤ s.walls ∧ (s.bridge k).content < (s.bridge k).slow ∧ (s.bridge k).crawl = v

/-- The SPLICE entry is the least splice speed of the stations in MATCHING, MATCHED and CONFIRMING (R70). -/
def State.spliceEntryOk (s : State) : Prop :=
  IsLeastClaim s.lsv.ceiling.splice fun (i : SpliceId) v =>
    ((s.splice i).phase = .matching ∨ (s.splice i).phase = .matched ∨ (s.splice i).phase = .confirming) ∧
      ∃ g, (s.splice i).settings = some g ∧ g.speed = v

/-- The STACKER entry is the least crawl speed of the stackers whose holdback stands at their warn level or above (R142). -/
def State.stackerEntryOk (s : State) : Prop :=
  IsLeastClaim s.lsv.ceiling.stacker fun (j : StackerId) v =>
    (s.stacker j).warn ≤ (s.stacker j).holdback.length ∧ (s.stacker j).crawl = v

/-- The KNIFE entry is the lower of the claims that the two lanes hold (R131; what a lane claims is `State.knifeClaim`). -/
def State.knifeEntryOk (s : State) : Prop :=
  IsLeastClaim s.lsv.ceiling.knife fun (j : LaneId) v => (s.lane j).claim = some v

/-- The BOND entry is the least of the claims that the zones hold (R89; what a zone claims is `State.bondClaim`). -/
def State.bondEntryOk (s : State) : Prop := IsLeastClaim s.lsv.ceiling.bond fun (n : ZoneId) v => (s.zone n).claim = some v

/-! ### Arming a splice station (R69) -/

/-- A station in STANDBY with these settings and this running reel arms. -/
def State.armingTerms (s : State) (i : SpliceId) (g : SpliceSettings) (r : Reel) : Prop :=
  s.spliceInUse i = true ∧ (s.splice i).phase = .standby ∧ (s.lsv.line = .run ∨ s.lsv.line = .hold) ∧ 0 < s.lcu.measured ∧
    (s.splice i).settings = some g ∧ (s.splice i).activeReel = some r ∧ r.remaining ≤ g.arm

/-- A station of `s` that has armed in `u`: MATCHING, or MATCHED at once with its speed-match terminal active, or fired at once with its
reel at the reserve as well, its joint channel ARMED (R69, R71). -/
def State.armedIn (s u : State) (i : SpliceId) (g : SpliceSettings) (r : Reel) : Prop :=
  let x := s.splice i
  let pos := (s.counter (spliceCounter i)).pos
  u.spliceEntryOk ∧
  (x.speedMatch = false → u.splice i = { x with phase := .matching, accelerate := true, force := false }) ∧
  (x.speedMatch = true → g.reserve < r.remaining → u.splice i = { x with phase := .matched, accelerate := true, force := false }) ∧
  (x.speedMatch = false ∨ g.reserve < r.remaining → u.lcu.joints[i] = s.lcu.joints[i]) ∧
  (x.speedMatch = true → r.remaining ≤ g.reserve →
    u.splice i =
      { x with
        phase := .confirming, accelerate := false, pulse := true, firePos := some pos, windowEnd := some (pos + g.window)
        force := false } ∧
    u.lcu.joints[i] = { s.lcu.joints[i] with armed := true })

/-! ### BOND_RISK spans (R22, R24) -/

/-- The source's open span stands in the map from this start, or a full map has refused it and its lost-span flag is set. -/
def State.spanOpened (u : State) (x : BondSource) (start : Nat) : Prop :=
  { start := start, finish := none, body := .bondRisk x } ∈ u.map.marks ∨
    (Config.mapCapacity ≤ u.map.marks.length ∧ u.lostSpan x = true)

/-- The open span that the source has in `s` has its end in `u`, never below its start; a source that has none loses its lost-span flag. -/
def State.spanClosed (s u : State) (x : BondSource) (e : Nat) : Prop :=
  (∀ pre m post, s.map.marks = pre ++ m :: post → (∀ y ∈ pre, y.isOpenSpan x = false) → m.isOpenSpan x = true →
    { m with finish := some (max m.start e) } ∈ u.map.marks) ∧
  ((∀ m ∈ s.map.marks, m.isOpenSpan x = false) → u.lostSpan x = false)

/-- Where a source opens its span: LINE − D_out of a zone, the glue point of a glue station (R88, R95). -/
def State.spanStart (s : State) : BondSource → Nat
  | .zone n => s.linePos - s.zoneOut n
  | .glue k => s.gluePoint k

/-! ### Frames -/

/-- The ten blocks (spec/00_scope.md, block overview). -/
inductive Block
  | lcu
  | map
  | obk
  | spc
  | bnd
  | dst
  | dec
  | stk
  | lsv
  | lnk
  deriving DecidableEq, Repr

/-- A block's state is the same in both states. -/
def State.sameBlock (s t : State) : Block → Prop
  | .lcu => t.lcu = s.lcu
  | .map => t.map = s.map
  | .obk => t.obk = s.obk
  | .spc => t.spc = s.spc
  | .bnd => t.bnd = s.bnd
  | .dst => t.dst = s.dst
  | .dec => t.dec = s.dec
  | .stk => t.stk = s.stk
  | .lsv => t.lsv = s.lsv
  | .lnk => t.lnk = s.lnk

/-- The link port differs at most in its notices, with the raises counted for the frame being sent. -/
def State.sameButNotices (s t : State) : Prop := t.lnk = { s.lnk with notices := t.lnk.notices, sending := t.lnk.sending }

/-- The link port differs at most in its notices and in the expiry count that a change of the line state sets to 0 (R170). -/
def State.sameButMonitor (s t : State) : Prop :=
  t.lnk = { s.lnk with notices := t.lnk.notices, sending := t.lnk.sending, expiries := t.lnk.expiries }

/-- Every block but those listed is unchanged, the link port but for its notices, and so are the RESET terminal, the count of free values
and the queue of commands. -/
def State.keepsBut (s t : State) (bs : List Block) : Prop :=
  (∀ b, b ∉ Block.lnk :: bs → s.sameBlock t b) ∧ (Block.lnk ∉ bs → s.sameButNotices t) ∧ t.held = s.held ∧ t.fresh = s.fresh ∧
    t.pending = s.pending

/-! ### Reports to the owners of outputs (R87, R94, R103, R109) -/

/-- A change from `old` to `new` sends the owner a fault report: an output of its own that is faulted then, and was not a faulted output of
its own before. Told from `new` to `old` it is the clear report. -/
def FaultReported (old new : State) (w : Owner) : Prop :=
  ∃ o : OutputId, new.ownedBy o = some w ∧ new.faulted o = true ∧ ¬(old.ownedBy o = some w ∧ old.faulted o = true)

/-- The change sends glue station `k` a fault report for one of its sides. -/
def GlueFaultReported (old new : State) (k : GlueId) : Prop := FaultReported old new (.sideA k) ∨ FaultReported old new (.sideB k)

/-- Glue station `k` has taken a fault report of an output of its pair (R94, R95). -/
def State.glueToldFault (s u : State) (k : GlueId) : Prop :=
  let g := s.glue k
  (g.state = .off → u.glue k = g) ∧
  (g.state = .fault → u.glue k = { g with output := true }) ∧
  (g.state ≠ .off → g.state ≠ .fault →
    u.glue k =
      { g with
        output := true, state := .fault, levelA := .off, levelB := .off, keepWet := none
        span := some (g.span.getD (s.spanStart (.glue k))) } ∧
    u.noticedWith .glueFault .glueStation (k.val + 1) (natBytes 1 1))

/-- Zone `n` has taken a fault report of its output (R85, R87 to R89). -/
def State.zoneToldFault (s u : State) (n : ZoneId) : Prop :=
  let z := s.zone n
  (z.enabled = false ∨ z.state = .fault → u.zone n = { z with output := true, claim := (u.zone n).claim }) ∧
  (z.enabled = true → z.state ≠ .fault →
    u.zone n =
      { z with
        output := true, state := .fault, demand := 0, span := some (z.span.getD (s.spanStart (.zone n))), claim := (u.zone n).claim } ∧
    u.noticedWith .zoneFault .heatZone (n.val + 1) (bitSetBytes 1 [z.sensor, true]) ∧
    u.bondEntryOk ∧ ∀ m : ZoneId, (u.zone m).claim = u.bondClaim m)

/-- The source opens a span as it takes the reports of the change from `old` to `new` (R88, R95). -/
def OpensSpan (old new : State) : BondSource → Prop
  | .zone n =>
    FaultReported old new (.zone n) ∧ (new.zone n).enabled = true ∧ (new.zone n).state ≠ .fault ∧ (new.zone n).span = none
  | .glue k => GlueFaultReported old new k ∧ (new.glue k).state ≠ .off ∧ (new.glue k).state ≠ .fault ∧ (new.glue k).span = none

/-- `u` is `new` with the reports of the change from `old` to `new` taken by the owners (R87, R94, R95, R103, R109; a clear report beside a
fault report of the same owner, and the sides of a pair, are log 19). -/
structure OwnersTold (old new u : State) : Prop where
  zoneFault : ∀ n, FaultReported old new (.zone n) → new.zoneToldFault u n
  zoneClear : ∀ n, ¬FaultReported old new (.zone n) → FaultReported new old (.zone n) →
    u.zone n = { new.zone n with output := false, claim := (u.zone n).claim }
  zoneSame : ∀ n, ¬FaultReported old new (.zone n) → ¬FaultReported new old (.zone n) →
    u.zone n = { new.zone n with claim := (u.zone n).claim }
  claims : (∀ n, FaultReported old new (.zone n) → (new.zone n).enabled = false ∨ (new.zone n).state = .fault) →
    u.lsv = new.lsv ∧ ∀ n, (u.zone n).claim = (new.zone n).claim
  glueFault : ∀ k, GlueFaultReported old new k → new.glueToldFault u k
  glueClear : ∀ k, ¬GlueFaultReported old new k → GlueFaultReported new old k →
    u.glue k = if (new.glue k).state = .off then new.glue k else { new.glue k with output := false }
  glueSame : ∀ k, ¬GlueFaultReported old new k → ¬GlueFaultReported new old k → u.glue k = new.glue k
  spans : ∀ x, OpensSpan old new x → u.spanOpened x (new.spanStart x)
  oneSpan : ∀ x, OpensSpan old new x → (∀ y, OpensSpan old new y → y = x) → u.map = (new.openSpan x (new.spanStart x)).map
  noSpan : (∀ x, ¬OpensSpan old new x) → u.map = new.map
  marks : ∀ m ∈ u.map.marks, m ∈ new.map.marks ∨
    ∃ x, OpensSpan old new x ∧ m = { start := new.spanStart x, finish := none, body := .bondRisk x }
  kept : ∀ m ∈ new.map.marks, m ∈ u.map.marks
  bridges : u.map.bridges = new.map.bridges
  bnd : u.bnd = { new.bnd with zones := u.bnd.zones, glues := u.bnd.glues }
  lsv : u.lsv = { new.lsv with ceiling := { new.lsv.ceiling with bond := u.lsv.ceiling.bond } }
  frame : new.keepsBut u [.map, .bnd, .lsv]

/-! ### Invariants -/

/-- The line state agrees with the ceiling table, the speed reference, the hold causes and the start flag (R148, R150, R152, R157). -/
structure State.LineOk (s : State) : Prop where
  stopEntry : s.lsv.ceiling.stop = s.lsv.line.stopEntry
  holdEntry : s.lsv.ceiling.hold = s.lsv.line.holdEntry s.lsv.thread
  standing : s.lsv.line.stands = true → s.lsv.speedRef = 0
  running : s.lsv.line = .run → s.lsv.holds.isEmpty = true
  holding : s.lsv.line = .hold → s.lsv.holds.isEmpty = false
  started : s.lsv.line.runs = true → s.lsv.startFlag = false

/-- The link queues hold at most four frames each, and a reply being sent stands at the head of the reply queue (R166 to R168). -/
structure State.QueueOk (s : State) : Prop where
  commands : s.lnk.cmdQueue.length ≤ Config.linkCapacity
  replies : s.lnk.replyQueue.length ≤ Config.linkCapacity
  sending : ∀ f, s.lnk.sending = some (.reply f) → s.lnk.replyQueue.head? = some f

/-- The web map and the bridge lists keep their capacities and their order, and no mark ends before it starts (R19, R20, R29). -/
structure State.MapOk (s : State) : Prop where
  marks : s.map.marks.length ≤ Config.mapCapacity
  sorted : s.map.marks.Pairwise fun m n => m.start ≤ n.start
  ends : ∀ m ∈ s.map.marks, ∀ e, m.finish = some e → m.start ≤ e
  entries : ∀ k : WebId, (s.bridge k).entries.length ≤ Config.bridgeCapacity
  joints : ∀ k : WebId, (s.bridge k).entries.Pairwise fun a b => a.e ≤ b.e

/-- Every entry of a bridge list lies above X_k, the web's E-coordinate at the merge point (R29). -/
def State.EntriesAhead (s : State) : Prop := ∀ k : WebId, ∀ b ∈ (s.bridge k).entries, s.mergeCoord k < b.e

/-- Every mark of the web map is an open span or has end + D_LAST above LINE (R26). -/
def State.MarksAhead (s : State) : Prop := ∀ m ∈ s.map.marks, ∀ e, m.finish = some e → s.linePos < e + s.dLast

/-- The order book holds at most 16 orders of distinct tags, at most one RUNNING and at most one STAGED (R39, R41); the web map holds at
most one unlocked ORDER_CHANGE mark, and one only while the RUNNING order's end mark is placed (R45). -/
structure State.BookOk (s : State) : Prop where
  capacity : s.obk.orders.length ≤ Config.bookCapacity
  tags : (s.obk.orders.map (·.tag)).Nodup
  running : (s.obk.orders.filter fun o => o.phase = .running).length ≤ 1
  staged : (s.obk.orders.filter fun o => o.phase = .staged).length ≤ 1
  unlocked : (s.map.marks.filter (·.isUnlockedChange)).length ≤ 1
  owned : ∀ m ∈ s.map.marks, m.isUnlockedChange = true → s.obk.endStatus = .unlocked ∧ s.runningOrder ≠ none

end Sys2Proof.Machine
end

