-- ==== Sys2Proof/Certificates/Slice0/Obligations.lean ====
section
/-! DEFINITION. The statements for the provers. -/

open Sys2Proof Sys2Proof.Machine

/-! ### The machine as a whole -/

/-- One step is the command at the front of the queue, executed on the state with the rest of the queue. -/
def Obligations.StepTakesFront : Prop :=
  ∀ (c : Instr) (rest : List Instr) (s : State),
    step { s with pending := c :: rest } = exec c { s with pending := rest }

/-- The part never stops: every step answers a next state, and with nothing waiting it idles (log 22, the model's choice). -/
def Obligations.StepNeverStops : Prop :=
  (∀ s : State, s.stepsOn) ∧ ∀ s : State, s.pending = [] → step s = .next s

/-- The values that the spec's reset tables give for power-on (R18, R38, R62, R79, R101, R117, R133, R147, R162, R165, R171), table by table;
a counter's reference phase state is its phases at the start (R2, R18). The model's choice: that every output condition is IDLE rests on
log 6 (FI1 LOW or a supply out of range would make it FORCED). Fields for which the tables have no value (logs 6 and 21) are left out. -/
def Obligations.ResetValues : Prop :=
  let s := State.reset
  (∀ i : CounterId, (s.counter i).pos = 0 ∧ s.counter i =
    { refPhase := s.lcu.phases[i], c := 0, debt := 0, tally := 0, tallyBase := 0, scale := 10000, faulted := false
      faultRecord := none, faultCount := 0 }) ∧
  (∀ i : SpliceId, s.lcu.joints[i] = { armed := false, record := none }) ∧
  (∀ j : StackerId, s.lcu.eyes[j] = { count := 0, edge := .rising }) ∧
  (s.lcu.geometry = { slit := 0, cut := 0, rej := 0, stk1 := 0, stk2 := 0 } ∧ s.lcu.walls = none ∧ s.lcu.width = 0 ∧
    s.lcu.measured = 0 ∧ s.lcu.sampleBase = 0) ∧
  (s.map.marks = [] ∧ s.map.ra = none ∧ s.map.lostMarks = 0 ∧ s.map.changeCount = 0 ∧ ∀ x : BondSource, s.lostSpan x = false) ∧
  (∀ k : WebId, s.bridge k =
    { content := 0, entries := [], shortfall := 0, slow := metres 10, high := metres 200, crawl := 80 }) ∧
  s.obk =
    { orders := [], endStatus := .none, pendingIncoming := none, deferral := false, stray := 0, lockMargin := metres 10
      deferStep := metres 5, maxDeferral := metres 100, setupCrawl := 60 } ∧
  (∀ i : SpliceId,
    let x := s.splice i
    x.settings = none ∧ x.activeArm = .a ∧ x.activeReel = none ∧ x.standbyReel = none ∧ x.phase = .idle ∧ x.force = false ∧
      x.firePos = none ∧ x.windowEnd = none ∧ x.accelerate = false ∧ x.lastSplice = none ∧ x.confirmed = 0 ∧ x.taken = 0 ∧
      x.failed = 0 ∧ x.notMatched = 0) ∧
  (s.spc.jb = mm 1000 ∧ s.spc.ja = mm 1000) ∧
  (∀ g : Fin 32, s.bnd.grades[g] = none) ∧
  (∀ n : ZoneId,
    let z := s.zone n
    z.settings = none ∧ z.enabled = false ∧ z.state = .off ∧ z.sensor = false ∧ z.output = false ∧ z.stale = 0 ∧ z.latest = .absent ∧
      z.demand = 0 ∧ z.claim = none ∧ z.span = none) ∧
  (∀ k : GlueId,
    let g := s.glue k
    g.settings = none ∧ g.state = .off ∧ g.timeout = false ∧ g.output = false ∧ g.sensor = false ∧ g.latest = .absent ∧
      g.levelA = .off ∧ g.levelB = .off ∧ g.keepWet = none ∧ g.rollRun = false ∧ g.span = none) ∧
  (s.bnd.heatLead = metres 5 ∧ s.bnd.glueLead = metres 2 ∧ s.bnd.standby = 1400 ∧ s.bnd.zeroSpeed = 0) ∧
  (∀ o : OutputId,
    let x := s.output o
    x.mode = .off ∧ x.generator = none ∧ x.passive = false ∧ x.trip = false ∧ x.openLoad = false ∧ x.tripCount = 0 ∧
      s.demandOf o = 0 ∧ s.levelOf o = .off ∧ s.condition o = .idle) ∧
  (s.dst.thermal = false ∧ ∀ g : GenId, s.dst.genFreq[g] = 250 ∧ s.duty g = 0) ∧
  (∀ i : InputId,
    let f := s.input i
    f.activeHigh = decide (i ≠ 0) ∧ f.mask = (if i = 0 then 0xFFFF#16 else 0#16) ∧ f.action = (if i = 0 then .trip else .none) ∧
      f.latched = false ∧ f.position = 0 ∧ f.count = 0) ∧
  (∀ i : SlitId, (s.slit i).state = .idle ∧ (s.slit i).setup = none ∧ (s.slit i).faultCount = 0) ∧
  (∀ j : LaneId,
    let l := s.lane j
    (l.mode = .idle ∧ l.order = none ∧ l.resume = none ∧ l.pieceStart = none ∧ l.base = none ∧ l.scrapEnd = none ∧
      s.nextCut j = none) ∧
    (l.sheetPiece = false ∧ l.skipped = false ∧ l.prevReject = false ∧ l.good = 0 ∧ l.handed = [] ∧ l.cycling = false ∧ l.skips = 0 ∧
      l.claim = none) ∧
    s.queue j = { accepted := [], unjudged := [] } ∧ s.stk.gates[j] = .reject) ∧
  (s.dec.scrapLen = mm 500 ∧ s.dec.zoneMult = 2 ∧ s.dec.gateSwitch = mm 300 ∧ s.dec.changeLead = metres 30 ∧ s.dec.posLimit = 60 ∧
    ∀ j : LaneId, s.dec.rates[j] = 300) ∧
  (∀ j : StackerId,
    let x := s.stacker j
    x.state = .stacking ∧ x.tag = none ∧ x.count = 0 ∧ x.partialFlag = false ∧ x.holdback = [] ∧ x.records = [] ∧ x.eject = false ∧
      x.warn = 30 ∧ x.crawl = 60 ∧ x.ejectLimit = 15 ∧ x.tolerance = 1) ∧
  (s.stk.scrapPieces = 0 ∧ s.stk.scrapLength = 0) ∧
  s.lsv =
    { line := .setup, stopRec := none, speedRef := 0, stopped := 0, startFlag := true, resetCause := .powerOn, accel := 10, decel := 20
      thread := 30
      holds := { linkStale := false, setupOverdue := false, spliceSuspect := false, webCounter := false, faultInput := false }
      ceiling :=
        { request := 0, grade := none, splice := none, setup := none, bond := none, bridge := none, knife := none, stacker := none
          hold := none, stop := some 0 } } ∧
  (s.lnk.receiver = .hunt ∧ s.lnk.cmdQueue = [] ∧ s.lnk.replyQueue = [] ∧ s.lnk.sending = none ∧ s.lnk.errors = ⟨0, 0, 0, 0, 0⟩ ∧
    s.lnk.overflow = 0 ∧ s.lnk.timeout = 30 ∧ s.lnk.expiries = 0 ∧
    s.lnk.notices = [{ kind := .partStarted, subject := ⟨.part, 0⟩, count := 1, detail := [0#8] }])

/-- Power-on, and the release of the RESET terminal: every block at its power-on values, the terminals as they stand, and each fault input
judged against its default setting (R18, R38, R62, R79, R101, R113, R117, R133, R147, R160, R162, R165, R171). An FI1 that is LOW latches
and leaves TRIP as the latest cause (R153). The model's choice: head drives that the reset finds positioning are told to stop (R133), and
are as last told otherwise (log 37), the receive line stands (log 32), and what the spec gives no value for starts as logs 6 and 21 say. -/
def Obligations.PowerOnStarts : Prop :=
  ∀ (s : State) (i : Instr) (c : ResetCause),
    (i = .powerOn ∧ c = .powerOn ∧ s.held = false) ∨ (i = .resetLine ∧ c = .resetLine) →
    ∃ u : State, exec i s = .next u.beginFrame ∧
      u.lcu = .initial s.lcu.phases s.lcu.webPresent s.lcu.knifeIndex ∧
      u.map = .initial ∧ u.obk = .initial ∧ u.bnd = .initial ∧
      u.spc = .initial (s.spc.stations.map (·.speedMatch)) ∧
      u.stk = .initial (s.stk.stackers.map (·.conveyorReady)) (s.stk.stackers.map (·.ejectDone)) ∧
      u.dec = { Dec.initial (Vector.replicate 2 false) with stations := u.dec.stations } ∧
      (∀ k : SlitId, u.slit k =
        { SlitStation.initial (s.slit k).inPosition with
          heads := if (s.slit k).state = .positioning then .stop else (s.slit k).heads }) ∧
      (∀ o : OutputId, u.output o = .initial (s.output o).overCurrent (s.output o).openSense) ∧
      (u.dst.genFreq = Vector.replicate 8 250 ∧ u.dst.supply = s.dst.supply ∧ u.dst.warning = s.dst.warning ∧ u.dst.thermal = false) ∧
      (∀ f : InputId, u.input f =
        { FaultInput.initial f (s.input f).level with
          latched := (s.input f).level == (f != 0), count := if (s.input f).level == (f != 0) then 1 else 0 }) ∧
      u.lsv =
        { Lsv.initial c with
          stopRec :=
            if (s.input 0).level then none
            else some { active := false, ruling := none, detail := none, position := none, latest := .trip
                        latestDetail := some ⟨.faultInput, 1⟩, count := 0 } } ∧
      (u.lnk.receiver = .hunt ∧ u.lnk.rxLine = s.lnk.rxLine ∧ u.lnk.cmdQueue = [] ∧ u.lnk.replyQueue = [] ∧ u.lnk.sending = none ∧
        u.lnk.errors = ⟨0, 0, 0, 0, 0⟩ ∧ u.lnk.overflow = 0 ∧ u.lnk.timeout = 30 ∧ u.lnk.expiries = 0 ∧ u.lnk.cts = s.lnk.cts ∧
        u.lnk.notices.head? = some (.partStarted c)) ∧
      u.held = false ∧ u.fresh = s.fresh ∧ u.pending = s.pending

/-- While the RESET terminal is held low the part stays reset: its assertion, and a power-on meanwhile, put every block at its power-on
values with the terminals as they stand, a host command waits, and any other command moves terminals alone (R160; the model's reading of
it is log 8, and where the spec gives a value or a head drive nothing, logs 6, 21 and 37). A full reply queue makes every command wait with no effect (R167; that it holds for commands sent to their blocks directly
is log 4): no host command changes the state, and the head of the command queue is not taken. -/
def Obligations.CommandsWait : Prop :=
  (∀ (s : State) (i : Instr) (c : ResetCause),
    (i = .resetLineAssert ∧ c = .resetLine) ∨ (i = .powerOn ∧ c = .powerOn ∧ s.held = true) →
    ∃ t, exec i s = .next t ∧ t.held = true ∧
      t.lcu = .initial s.lcu.phases s.lcu.webPresent s.lcu.knifeIndex ∧ t.map = .initial ∧ t.obk = .initial ∧ t.bnd = .initial ∧
      t.spc = .initial (s.spc.stations.map (·.speedMatch)) ∧
      t.dst = .initial (s.dst.outputs.map (·.overCurrent)) (s.dst.outputs.map (·.openSense)) s.dst.supply s.dst.warning
        (s.dst.inputs.map (·.level)) ∧
      t.dec = { Dec.initial (Vector.replicate 2 false) with stations := t.dec.stations } ∧
      (∀ k : SlitId, t.slit k =
        { SlitStation.initial (s.slit k).inPosition with
          heads := if (s.slit k).state = .positioning then .stop else (s.slit k).heads }) ∧
      t.stk = .initial (s.stk.stackers.map (·.conveyorReady)) (s.stk.stackers.map (·.ejectDone)) ∧
      t.lsv = .initial c ∧ t.lnk = .initial c s.lnk.rxLine s.lnk.cts ∧ t.fresh = s.fresh ∧ t.pending = s.pending) ∧
  (∀ (s : State) (c : Instr), s.held = true → c.layout.isSome = true → exec c s = .next s) ∧
  (∀ (s : State) (c : Instr), s.held = true → c ≠ .powerOn → c ≠ .resetLineAssert → c ≠ .resetLine →
    ∃ t, exec c s = .next t ∧
      t =
        { s with
          lcu := { s.lcu with phases := t.lcu.phases, webPresent := t.lcu.webPresent, knifeIndex := t.lcu.knifeIndex }
          spc := { s.spc with stations := t.spc.stations }
          dst := { s.dst with outputs := t.dst.outputs, supply := t.dst.supply, warning := t.dst.warning, inputs := t.dst.inputs }
          dec := { s.dec with stations := t.dec.stations }
          stk := { s.stk with stackers := t.stk.stackers }
          lnk := { s.lnk with rxLine := t.lnk.rxLine, cts := t.lnk.cts } } ∧
      (∀ i : SpliceId, t.splice i = { s.splice i with speedMatch := (t.splice i).speedMatch }) ∧
      (∀ o : OutputId, t.output o =
        { s.output o with overCurrent := (t.output o).overCurrent, openSense := (t.output o).openSense }) ∧
      (∀ f : InputId, t.input f = { s.input f with level := (t.input f).level }) ∧
      (∀ i : SlitId, t.slit i = { s.slit i with inPosition := (t.slit i).inPosition }) ∧
      (∀ j : StackerId, t.stacker j =
        { s.stacker j with conveyorReady := (t.stacker j).conveyorReady, ejectDone := (t.stacker j).ejectDone })) ∧
  ∀ s : State, s.held = false → Config.linkCapacity ≤ s.lnk.replyQueue.length →
    (∀ c : Instr, c.layout.isSome = true → exec c s = .next s) ∧
    (∀ tag code : Nat, exec (.unknownCommand tag code) s = .next s) ∧
    exec .commandTake s = .next s.beginFrame

/-! ### The Length Counting Unit -/

/-- What a transition does when it raises no position and no fault (R2, R3, R5, R7): the reference phase state follows it in every case; a
counter that does not count discards it; a forward count pays debt before C rises; a reverse count adds debt; an illegal transition adds
to the tally. Nothing else changes. That an event with the reference phase state is no transition and does nothing is log 7, the model's
choice. -/
def Obligations.EncoderTransitions : Prop :=
  ∀ (s : State) (i : CounterId) (ph : Phase), s.held = false →
    let k := s.counter i
    let done (k' : Counter) : Prop := exec (.encoderTransition i ph) s = .next (s.withCounter i ph k').beginFrame
    (¬s.counts i → done k) ∧
    (s.counts i → ph = k.refPhase → done k) ∧
    (s.counts i → (k.refPhase, ph) ∈ forwardPairs → 0 < k.debt → done { k with debt := k.debt - 1 }) ∧
    (s.counts i → (k.refPhase, ph) ∈ forwardPairs → k.debt = 0 → (k.c + 1) * 10000 / k.scale = k.pos → k.pos < 2 ^ 44 →
      done { k with c := k.c + 1 }) ∧
    (s.counts i → (ph, k.refPhase) ∈ forwardPairs → ¬(2 * k.debt ≤ k.scale ∧ k.scale < 2 * (k.debt + 1)) →
      done { k with debt := k.debt + 1 }) ∧
    (s.counts i → ph.a ≠ k.refPhase.a → ph.b ≠ k.refPhase.b → k.tally ≠ 3 → done { k with tally := min (k.tally + 1) 255 })

/-- When a transition is a counter fault (R4, R5, R6): a debt passing 500 mm, the tally passing from 3 to 4, a position that would reach
2^44. The fault is recorded and noticed; an SFk counter is FAULTED and WEB_COUNTER held; LINE records TRACKING_LOST. -/
def Obligations.EncoderFaults : Prop :=
  (∀ (s : State) (i : CounterId) (ph : Phase), s.held = false → s.counts i →
    let k := s.counter i
    ((ph, k.refPhase) ∈ forwardPairs → 2 * k.debt ≤ k.scale → k.scale < 2 * (k.debt + 1) →
      exec (.encoderTransition i ph) s = .next ((s.withCounter i ph { k with debt := k.debt + 1 }).counterFault i .debt).beginFrame) ∧
    (ph.a ≠ k.refPhase.a → ph.b ≠ k.refPhase.b → k.tally = 3 →
      exec (.encoderTransition i ph) s = .next ((s.withCounter i ph { k with tally := 4 }).counterFault i .transitions).beginFrame) ∧
    ((k.refPhase, ph) ∈ forwardPairs → k.debt = 0 → 2 ^ 44 ≤ (k.c + 1) * 10000 / k.scale →
      exec (.encoderTransition i ph) s = .next ((s.withCounter i ph k).counterFault i .overrange).beginFrame)) ∧
  ∀ (s : State) (i : CounterId) (f : FaultKind),
    let k := s.counter i
    let t := s.counterFault i f
    t.counter i =
      { k with
        faultRecord := some { kind := f, position := k.pos }, faultCount := min (k.faultCount + 1) 255
        faulted := k.faulted || decide (i ≠ 0) || decide (f = .overrange) } ∧
    (∀ j : CounterId, j ≠ i → t.counter j = s.counter j) ∧
    (i ≠ 0 → t.lsv.holds.webCounter = true) ∧
    (i = 0 → ∃ r, t.lsv.stopRec = some r ∧ r.latest = .trackingLost ∧ r.latestDetail = some ⟨.counter, 0⟩) ∧
    (∃ e ∈ t.lnk.notices, e.kind = .counterFault ∧ e.subject = ⟨.counter, i.val⟩ ∧
      e.detail = natBytes 1 f.ctorIdx ++ natBytes 6 k.pos) ∧
    t.obk = s.obk ∧ t.dst = s.dst ∧ t.dec = s.dec ∧ t.stk = s.stk

/-- A forward count of SFk that raises its position by d (R3, R5, R8, R27, R92): C rises by 1, the tally window follows the new position, the
bridge content rises by d, so that X_k stays, and the two splice stations and the glue station of web k take the advance in that order
(log 2, the model's choice; what a splice station does is stated in JointCapture, what the glue station's evaluation of its target (R92)
does in GapReadings). The other counters and bridges, and the order book, drives, cut-off and stackers, keep their state. -/
def Obligations.WebAdvance : Prop :=
  ∀ (s : State) (w : WebId) (ph : Phase), s.held = false → s.counts w.succ →
    let k := s.counter w.succ
    let p := (k.c + 1) * 10000 / k.scale
    let k' : Counter :=
      { k with
        refPhase := ph, c := k.c + 1, tally := if k.tallyBase + 10000 ≤ p then 0 else k.tally
        tallyBase := if k.tallyBase + 10000 ≤ p then p else k.tallyBase }
    (k.refPhase, ph) ∈ forwardPairs → k.debt = 0 → k.pos < p → p < 2 ^ 44 →
    ∃ u : State, exec (.encoderTransition w.succ ph) s = .next u.beginFrame ∧
      (∀ (liner medium : SpliceId) (glue : GlueId), liner.val = 2 * w.val → medium.val = 2 * w.val + 1 → glue.val = w.val →
        u =
          ((((s.withCounter w.succ ph k').setContent w ((s.bridge w).content + (p - k.pos))).spliceAdvance liner (p - k.pos)).spliceAdvance
            medium (p - k.pos)).evalGlue glue) ∧
      u.counter w.succ = k' ∧
      (∀ j : CounterId, j ≠ w.succ → u.counter j = s.counter j) ∧
      (u.bridge w).content = (s.bridge w).content + (p - k.pos) ∧
      (∀ j : WebId, j ≠ w → u.bridge j = s.bridge j) ∧
      ((s.bridge w).content ≤ k.pos → u.mergeCoord w = s.mergeCoord w) ∧
      u.obk = s.obk ∧ u.dst = s.dst ∧ u.dec = s.dec ∧ u.stk = s.stk ∧ s.sameButMonitor u ∧ u.held = s.held ∧ u.fresh = s.fresh ∧
      u.pending = s.pending

/-- A forward count of LINE that raises its position by d (R3, R5, R8, R26, R28, R30, R45, R47 to R49): C rises by 1, the tally window
follows, and the blocks take the advance in turn (their order, and webs 1 to 3 in rising order, are log 2, the model's choice; what the
bond controller does of it is stated in KeepWet, the lanes in CutRules, the stackers in EjectEvents). The MAP
removes the marks that have left the last stacker, each removal letting a pending end mark try again with its E raised to U, takes d from
the content of every bridge in use, what it lacks going to the shortfall and BRIDGE_EMPTY, and transfers the entries due. The OBK tests the
lock point, where a READY order locks the end mark and any other defers it by the step, and swaps at a locked mark that has reached the
slitter. An end mark whose insertion is not stored is pending, also when it is late (log 36, the model's reading). The other counters and
the drives keep their state. -/
def Obligations.LineAdvance : Prop :=
  (∀ (s : State) (ph : Phase), s.held = false → s.counts 0 →
    let k := s.counter 0
    let p := (k.c + 1) * 10000 / k.scale
    let k' : Counter :=
      { k with
        refPhase := ph, c := k.c + 1, tally := if k.tallyBase + 10000 ≤ p then 0 else k.tally
        tallyBase := if k.tallyBase + 10000 ≤ p then p else k.tallyBase }
    (k.refPhase, ph) ∈ forwardPairs → k.debt = 0 → k.pos < p → p < 2 ^ 44 →
    ∃ u : State, exec (.encoderTransition 0 ph) s = .next u.beginFrame ∧
      u =
        (((((((s.withCounter 0 ph k').mapAdvance (p - k.pos)).lockTest).swapTest).spliceAdvance 6 (p - k.pos)).dryEndAdvance).stackAdvance
          ).bondLineAdvance ∧
      u.counter 0 = k' ∧
      u.linePos = p ∧
      (∀ j : CounterId, j ≠ 0 → u.counter j = s.counter j) ∧
      (∀ w : WebId, w.val + 1 ≤ s.walls →
        (u.bridge w).content = (s.bridge w).content - (p - k.pos) ∧
        (p - k.pos ≤ (s.bridge w).content → (u.bridge w).shortfall = (s.bridge w).shortfall) ∧
        ((s.bridge w).content < p - k.pos →
          (u.bridge w).shortfall = min (2 ^ 44 - 1) ((s.bridge w).shortfall + (p - k.pos - (s.bridge w).content)))) ∧
      (∀ w : WebId, s.walls < w.val + 1 → (u.bridge w).content = (s.bridge w).content) ∧
      u.dst = s.dst ∧ s.sameButMonitor u ∧ u.held = s.held ∧ u.fresh = s.fresh ∧ u.pending = s.pending) ∧
  (∀ (s : State) (d : Nat),
    let gone (m : Mark) : Prop := ∃ e, m.finish = some e ∧ e + s.dLast ≤ s.linePos
    let removed (ms : List Mark) : State :=
      { s with map := { s.map with marks := ms, changeCount := (s.map.changeCount + 1) % 65536 } }
    let t := s.removeMarks s.map.marks.length
    ((∀ m ∈ s.map.marks, ¬gone m) → t = s) ∧
    (∀ pre m post, s.map.marks = pre ++ m :: post → (∀ x ∈ pre, ¬gone x) → gone m →
      t = ((removed (pre ++ post)).retryPending).removeMarks (pre ++ post).length) ∧
    (s.obk.endStatus ≠ .pending →
      (∀ m, m ∈ t.map.marks ↔ m ∈ s.map.marks ∧ ¬gone m) ∧ t.map.marks.Sublist s.map.marks ∧
      t = { s with map := { s.map with marks := t.map.marks, changeCount := t.map.changeCount } }) ∧
    s.mapAdvance d =
      (((((t.consumeBridge d 0).consumeBridge d 1).consumeBridge d 2).transferWeb 0).transferWeb 1).transferWeb 2) ∧
  (∀ (s : State) (d : Nat) (k : WebId),
    (s.transferWeb k = if k.val + 1 ≤ s.walls then (s.transferDue k).1 else s) ∧
    (k.val + 1 ≤ s.walls → (s.bridge k).content < d → s.lsv.line = .run ∨ s.lsv.line = .hold ∨ s.lsv.line = .stopping →
      (s.consumeBridge d k).stopTaken .bridgeEmpty .bridge (k.val + 1))) ∧
  (∀ s : State,
    (s.obk.endStatus ≠ .pending ∨ s.runningOrder = none → s.retryPending = s) ∧
    (s.obk.endStatus = .pending → ∀ o, s.runningOrder = some o →
      let t := s.retryPending
      let e := max o.endPos (s.linePos + s.obk.lockMargin + 1 - s.dSlit)
      let r := s.insertMark
        { start := e, finish := some (e + s.zc), body := .orderChange o.tag s.obk.pendingIncoming false }
      t.map = r.1.map ∧
      t.obk =
        { s.obk with
          orders := s.obk.orders.map fun x => if x.tag = o.tag then { x with endPos := e } else x
          endStatus := if r.2 = .stored then .unlocked else .pending
          pendingIncoming := if r.2 = .stored then none else s.obk.pendingIncoming } ∧
      s.keepsBut t [.map, .obk])) ∧
  (∀ s : State,
    let reached (o : Order) : Prop := o.endPos + s.dSlit ≤ s.linePos + s.obk.lockMargin
    ((∀ o, s.runningOrder = some o → s.obk.endStatus ≠ .unlocked ∨ ¬reached o) → s.lockTest = s) ∧
    (∀ o, s.runningOrder = some o → s.obk.endStatus = .unlocked → reached o →
      (∀ t, s.stagedOrder = some t → t.setup = .ready →
        let u := s.lockTest
        u.obk = { s.obk with endStatus := .locked, deferral := false } ∧
        (∀ pre post st fin out incoming, s.map.marks = pre ++ ⟨st, fin, .orderChange out incoming false⟩ :: post →
          (∀ x ∈ pre, x.isUnlockedChange = false) →
          u.map.marks = pre ++ ⟨st, fin, .orderChange out incoming true⟩ :: post) ∧
        u.lsv.ceiling.setup = none ∧ u.lsv.holds.setupOverdue = false ∧
        (∀ x y, s.gradeEntry o.grade = some x → s.gradeEntry t.grade = some y → u.lsv.ceiling.grade = some (min x.limit y.limit)) ∧
        u.noticedWith .orderLocked .order o.tag (natBytes 6 o.endPos ++ natBytes 2 t.tag) ∧
        u.lcu.counters = s.lcu.counters ∧ u.dst = s.dst ∧ u.dec = s.dec ∧ u.stk = s.stk) ∧
      ((∀ t, s.stagedOrder = some t → t.setup ≠ .ready) → 0 < s.obk.deferStep →
        let u := s.deferEnd o
        let e := o.endPos + s.obk.deferStep
        let deferred := min (2 ^ 44 - 1) (o.deferred + s.obk.deferStep)
        s.lockTest = u.lockTest ∧
        u.obk =
          { s.obk with
            orders := s.obk.orders.map fun x => if x.tag = o.tag then { x with endPos := e, deferred := deferred } else x
            deferral := true } ∧
        (∀ pre m post, s.map.marks = pre ++ m :: post → (∀ x ∈ pre, x.isUnlockedChange = false) → m.isUnlockedChange = true →
          PlacedIn (·.start) { m with start := e, finish := some (e + s.zc) } (pre ++ post) u.map.marks) ∧
        u.lsv.ceiling.setup = some s.obk.setupCrawl ∧
        (o.deferred < s.obk.maxDeferral → s.obk.maxDeferral ≤ deferred → u.lsv.holds.setupOverdue = true) ∧
        u.noticedWith .orderDeferred .order o.tag (natBytes 6 e ++ natBytes 6 deferred) ∧
        u.lcu.counters = s.lcu.counters ∧ u.dst = s.dst ∧ u.stk = s.stk))) ∧
  ∀ s : State,
    ((∀ o t, s.runningOrder = some o → s.stagedOrder = some t → s.obk.endStatus ≠ .locked ∨ s.linePos < o.endPos + s.dSlit) →
      s.swapTest = s) ∧
    (∀ o t, s.BookOk → s.runningOrder = some o → s.stagedOrder = some t → s.obk.endStatus = .locked →
      o.endPos + s.dSlit ≤ s.linePos →
      let u := s.swapTest
      let start := o.endPos + s.zc
      let r : Order := { t with phase := .running, start := start, endPos := start + t.runLength, deferred := 0 }
      let mark (incoming : Option Nat) : Mark :=
        { start := r.endPos, finish := some (r.endPos + s.zc), body := .orderChange t.tag incoming false }
      u.findOrder t.tag = some r ∧
      ((∃ j : LaneId, (o.lane j).isSome = true ∧ o.runs[j].complete = false) →
        u.findOrder o.tag = some { o with phase := .draining, station := none }) ∧
      ((∀ j : LaneId, (o.lane j).isSome = true → o.runs[j].complete = true) → ∃ x, u.findOrder o.tag = some x ∧ x.phase = .done) ∧
      u.lsv.ceiling.grade = (s.gradeEntry t.grade).map (·.limit) ∧ u.noticedWith .orderStarted .order t.tag (natBytes 6 start) ∧
      (u.obk.endStatus = if (s.insertMark (mark none)).2 = .stored then .unlocked else .pending) ∧
      (∀ i : SlitId, t.station = some i →
        (u.slit i).state = .engaged ∧
        ((∀ x ∈ s.obk.orders, x.phase ≠ .queued) →
          u.map.marks = (s.insertMark (mark none)).1.map.marks ∧
          ∀ k : SlitId, k ≠ i → (s.slit k).state = .engaged → (u.slit k).state = .idle ∧ (u.slit k).setup = none) ∧
        (∀ q, s.obk.orders.find? (fun x => x.phase = .queued) = some q → ∀ k : SlitId, k ≠ i → (s.slit k).state = .engaged →
          u.findOrder q.tag = some { q with phase := .staged, station := some k, setup := .positioning } ∧
          (u.slit k).state = .positioning ∧ (u.slit k).setup = some ⟨q.tag, q.knives, q.scores⟩ ∧
          (u.obk.endStatus = .unlocked → mark (some q.tag) ∈ u.map.marks) ∧
          (u.obk.endStatus = .pending → u.obk.pendingIncoming = some q.tag))) ∧
      u.lcu = s.lcu ∧ u.spc = s.spc ∧ u.bnd = s.bnd ∧ u.dst = s.dst ∧ u.stk = s.stk)

/-- The inputs of the LCU beside the encoders: the web-present gate is a level, an edge that the edge select takes adds one to the sheet-eye
count, and a rising knife index clears the lane's knife cycle flag (R7, R11, R12, R122). That a knife-index event is an edge only against
the level held already, and that an event with the level held already changes nothing, is log 7, the model's choice. -/
def Obligations.LengthInputs : Prop :=
  ∀ s : State, s.held = false →
    (∀ (k : WebId) (b : Bool),
      exec (.webPresentChange k b) s =
        .next { s with lcu := { s.lcu with webPresent := s.lcu.webPresent.set k.val b k.isLt } }.beginFrame) ∧
    (∀ (j : StackerId) (rising : Bool),
      let e := s.lcu.eyes[j]
      exec (.sheetEyeEdge j rising) s =
        .next
          (if e.edge = .both ∨ (e.edge = .rising ∧ rising = true) ∨ (e.edge = .falling ∧ rising = false) then
            { s with lcu := { s.lcu with eyes := s.lcu.eyes.set j.val { e with count := min (e.count + 1) 65535 } j.isLt } }
          else s).beginFrame) ∧
    (∀ (j : LaneId) (high : Bool),
      exec (.knifeIndex j high) s =
        .next
          { s with
            lcu := { s.lcu with knifeIndex := s.lcu.knifeIndex.set j.val high j.isLt }
            dec := { s.dec with
              lanes := if high = true ∧ s.lcu.knifeIndex[j] = false then s.dec.lanes.set j.val { s.lane j with cycling := false } j.isLt
                else s.dec.lanes } }.beginFrame)

/-- The splice stations along the web (R10, R66 to R74). An edge at an ARMED channel whose select takes it records the position and confirms
a CONFIRMING station: the joint is placed at c + P_s, the arms swap, the new reel less the web run since c, and the station is IDLE. On an
advance the running reel falls by d, and then by the splice state: MATCHED fires at the reserve, a CONFIRMING station whose window ends is
SUSPECT, STANDBY arms, IDLE warns of a low reel; a reel at 0 is out, except in SUSPECT. A joint goes to its bridge list or to the map. In
DISARMED, or with an edge not taken, nothing changes. Where the joint goes is R21, R29 and R30. The model's choice: an end that would be
negative is 0 (log 34), and what a record of an empty arm holds (log 41). -/
def Obligations.JointCapture : Prop :=
  let low (g : SpliceSettings) (r : Reel) : Bool := decide (0 < g.reelLow) && decide (r.remaining ≤ g.reelLow) && !r.lowReported
  (∀ (s : State) (i : SpliceId) (rising : Bool), s.held = false →
    let takes : Bool := s.spliceInUse i && (match (s.splice i).settings with
      | some g => decide (g.edge = .both) || decide (g.edge = if rising then .rising else .falling)
      | none => false)
    (s.lcu.joints[i].armed = false ∨ takes = false → exec (.jointEdge i rising) s = .next s.beginFrame) ∧
    (s.lcu.joints[i].armed = true → takes = true →
      let c := (s.counter (spliceCounter i)).pos
      let t : State := { s with lcu := { s.lcu with joints := s.lcu.joints.set i.val { armed := false, record := some c } i.isLt } }
      ((s.splice i).phase ≠ .confirming → exec (.jointEdge i rising) s = .next t.beginFrame) ∧
      ((s.splice i).phase = .confirming →
        exec (.jointEdge i rising) s = .next (t.confirmSplice i c).beginFrame))) ∧
  (∀ (s : State) (i : SpliceId) (c : Nat) (g : SpliceSettings), (s.splice i).phase = .confirming → (s.splice i).settings = some g →
    let x := s.splice i
    let u := s.confirmSplice i c
    let left (q : Reel) : Nat := q.loadLength * 10000 - ((s.counter (spliceCounter i)).pos - c)
    let stub := (x.activeReel.map (·.remaining)).getD 0
    u.splice i =
      { x with
        activeArm := x.activeArm.other, activeReel := (u.splice i).activeReel, standbyReel := none, phase := .idle
        confirmed := min (x.confirmed + 1) 65535
        lastSplice := some
          { outcome := .confirmed, oldTag := x.activeReel.map (·.tag), oldPaper := x.activeReel.map (·.paper), stub := stub
            newTag := x.standbyReel.map (·.tag)
            joint := some { position := c + g.path, before := s.spc.jb, after := s.spc.ja, suspect := false } } } ∧
    u.spliceEntryOk ∧
    u.noticedWith .spliceDone .spliceStation (i.val + 1)
      (optBytes 4 (x.activeReel.map (·.tag)) ++ natBytes 6 stub ++ optBytes 4 (x.standbyReel.map (·.tag)) ++
        natBytes 6 (c + g.path) ++ [0#8]) ∧
    (x.standbyReel = none → (u.splice i).activeReel = none) ∧
    (∀ q, x.standbyReel = some q →
      (left q = 0 → (u.splice i).activeReel = none ∧ u.stopTaken .reelOut .spliceStation (i.val + 1) ∧
        u.noticed .reelOut .spliceStation (i.val + 1)) ∧
      (0 < left q →
        let r : Reel := { q with remaining := left q }
        (u.splice i).activeReel = some { r with lowReported := r.lowReported || low g r } ∧
        (low g r = true → u.noticed .reelLow .spliceStation (i.val + 1)))) ∧
    ((∀ q, x.standbyReel = some q → 0 < left q) →
      u.map = (s.placeJoint i (c + g.path) s.spc.jb s.spc.ja false).map ∧
      (∀ j : SpliceId, j ≠ i → u.splice j = s.splice j) ∧ s.keepsBut u [.map, .spc, .lsv])) ∧
  (∀ (s : State) (i : SpliceId) (pos before after : Nat) (suspect : Bool),
    let t := s.placeJoint i pos before after suspect
    (i = 6 → t = (s.insertMark { start := pos - before, finish := some (pos + after), body := .joint i suspect }).1) ∧
    (∀ k : WebId, i.val = 2 * k.val ∨ i.val = 2 * k.val + 1 →
      let b := s.bridge k
      let x := s.webPos k - b.content
      (pos ≤ x →
        t = (s.insertMark
          { start := s.linePos + pos - (x + before), finish := some (s.linePos + pos + after - x), body := .joint i suspect }).1) ∧
      (x < pos → b.entries.length < 32 →
        (t.bridge k).content = b.content ∧ (t.bridge k).shortfall = b.shortfall ∧
        PlacedIn (·.e) { e := pos, before := before, after := after, station := i, suspect := suspect } b.entries
          (t.bridge k).entries ∧
        (∀ j : WebId, j ≠ k → t.bridge j = s.bridge j) ∧ t.map = { s.map with bridges := t.map.bridges } ∧ s.keepsBut t [.map]) ∧
      (x < pos → 32 ≤ b.entries.length →
        t.map.bridges = s.map.bridges ∧ t.map.marks = s.map.marks ∧ t.map.lostMarks = min (s.map.lostMarks + 1) 65535 ∧
        t.map.ra = some (match s.map.ra with
          | some r => min r s.linePos
          | none => s.linePos) ∧
        t.noticed .mapFull .bridge (k.val + 1) ∧ s.keepsBut t [.map]))) ∧
  ∀ (s : State) (i : SpliceId) (d : Nat),
    let x := s.splice i
    let u := s.spliceAdvance i d
    let pos := (s.counter (spliceCounter i)).pos
    let runs : Prop := (s.lsv.line = .run ∨ s.lsv.line = .hold) ∧ 0 < s.lcu.measured
    let ends : Prop := x.phase = .confirming ∧ ∃ w, x.windowEnd = some w ∧ w ≤ pos
    (s.spliceInUse i = false → u = s) ∧
    (s.spliceInUse i = true → ∀ g : SpliceSettings, x.settings = some g → 0 < g.window →
      (x.activeReel = none → ¬ends → u = s) ∧
      (∀ r, x.activeReel = some r →
        let left : Reel := { r with remaining := r.remaining - d }
        let with_ (y : SpliceStation) : Prop := u.splice i = { y with activeReel := some left }
        let fired : SpliceStation :=
          { x with
            phase := .confirming, accelerate := false, pulse := true, firePos := some pos, windowEnd := some (pos + g.window)
            force := false }
        (0 < left.remaining → ¬ends →
          (x.phase = .matched → x.force = true ∨ left.remaining ≤ g.reserve → with_ fired ∧ u.lcu.joints[i].armed = true) ∧
          (x.phase = .matched → x.force = false → g.reserve < left.remaining → with_ x) ∧
          (x.phase = .standby → runs → left.remaining ≤ g.arm → u.spliceEntryOk ∧
            (x.speedMatch = false → with_ { x with phase := .matching, accelerate := true, force := false }) ∧
            (x.speedMatch = true → g.reserve < left.remaining → with_ { x with phase := .matched, accelerate := true, force := false }) ∧
            (x.speedMatch = true → left.remaining ≤ g.reserve → with_ fired ∧ u.lcu.joints[i].armed = true)) ∧
          (x.phase = .standby → ¬runs ∨ g.arm < left.remaining → with_ x) ∧
          (x.phase = .idle →
            u.splice i = { x with activeReel := some { left with lowReported := left.lowReported || low g left } } ∧
            (low g left = true → u.noticed .reelLow .spliceStation (i.val + 1))) ∧
          (x.phase = .matching ∨ x.phase = .confirming ∨ x.phase = .blocked → with_ x) ∧
          (∀ j : SpliceId, j ≠ i → u.splice j = s.splice j) ∧ s.keepsBut u [.lcu, .spc, .lsv]) ∧
        (left.remaining = 0 → x.phase ≠ .suspect → ¬ends →
          (u.splice i).activeReel = none ∧ u.stopTaken .reelOut .spliceStation (i.val + 1) ∧
          u.noticedWith .reelOut .spliceStation (i.val + 1) (natBytes 4 r.tag) ∧
          (x.phase = .idle ∨ x.phase = .standby ∨ x.phase = .blocked ∨ x.phase = .confirming → (u.splice i).phase = x.phase) ∧
          (x.phase = .matched → (u.splice i).phase = .confirming) ∧
          (x.phase = .matching → s.lsv.line = .run ∨ s.lsv.line = .hold → (u.splice i).phase = .standby)) ∧
        (x.phase = .suspect → with_ x ∧ s.keepsBut u [.spc])) ∧
      (ends →
        let fire := x.firePos.getD 0
        (u.splice i).phase = .suspect ∧
        (u.splice i).activeReel = x.activeReel.map (fun r => { r with remaining := r.remaining - d }) ∧
        u.lcu.joints[i] = { s.lcu.joints[i] with armed := false } ∧ u.lsv.holds.spliceSuspect = true ∧ u.spliceEntryOk ∧
        u.map = (s.placeJoint i (fire + g.path) (4 * s.spc.jb) (4 * s.spc.ja) true).map ∧
        u.noticedWith .spliceSuspect .spliceStation (i.val + 1) (natBytes 6 fire ++ natBytes 6 (fire + g.path))))

/-- A speed sample (R9, R69 to R71, R77, R97, R154, R158): the measured speed; the ramp of the speed reference, in STOPPING too, with the
main-drive terminal that it drives (in 0.1 mV, log 17); the stopped-sample count, which ends a stop at its tenth sample; the arming test of
every splice station; and the zero-speed count, whose reaching 10 loads the keep-wet counters of the stations in IN_POSITION and LIFTED.
The takers act in the order of R1's table (log 3). -/
def Obligations.SpeedSample : Prop :=
  ∀ s : State, s.held = false →
    ∃ u : State, exec .speedSample s = .next u.beginFrame ∧
      u.lcu.measured = min 400 (((s.linePos - s.lcu.sampleBase) * 6 + 99) / 100) ∧
      u.lcu.sampleBase = s.linePos ∧ u.lcu.counters = s.lcu.counters ∧
      (let n := if u.lcu.measured = 0 then min (s.lsv.stopped + 1) 10 else 0
       let ends : Prop := s.lsv.line = .stopping ∧ n = 10
       let byHost : Prop := s.lsv.stopRec.bind (·.ruling) = some .hostStop
       let target := 10 * s.lsv.ceiling.target
       let sampled : State := { s with lcu := { s.lcu with measured := u.lcu.measured } }
       let arms := sampled.armingTerms
       (ends → (byHost → u.lsv.line = .ready) ∧ (¬byHost → u.lsv.line = .halted) ∧ u.lsv.speedRef = 0) ∧
       (¬ends → u.lsv.line = s.lsv.line ∧ u.lsv.stopped = (if s.lsv.line = .stopping then n else s.lsv.stopped) ∧
         u.lsv.speedRef =
           if s.lsv.speedRef < target then min target (s.lsv.speedRef + s.lsv.accel)
           else if target < s.lsv.speedRef then max target (s.lsv.speedRef - s.lsv.decel)
           else s.lsv.speedRef) ∧
       u.mainDrive = 25 * u.lsv.speedRef ∧
       (∀ i g r, arms i g r → sampled.armedIn u i g r) ∧
       (∀ i, (∀ g r, ¬arms i g r) → u.lcu.joints[i] = s.lcu.joints[i]) ∧
       (∀ i, (∀ g r, ¬arms i g r) → ¬ends ∨ byHost ∨ ((s.splice i).phase ≠ .matching ∧ (s.splice i).phase ≠ .matched) →
         u.splice i = s.splice i) ∧
       (ends → ¬byHost → ∀ i, (s.splice i).phase = .matching ∨ (s.splice i).phase = .matched →
         u.splice i = { s.splice i with phase := .standby, accelerate := false, force := false }) ∧
       ((∀ i g r, ¬arms i g r) → ¬ends →
         u.lsv = { s.lsv with speedRef := u.lsv.speedRef, stopped := u.lsv.stopped })) ∧
      u.bnd.zeroSpeed = (if u.lcu.measured = 0 then min (s.bnd.zeroSpeed + 1) 10 else 0) ∧
      (let loads : Prop := s.bnd.zeroSpeed ≠ 10 ∧ u.bnd.zeroSpeed = 10
       ∀ k : GlueId,
         let g := s.glue k
         let rests : Prop := g.state = .inPosition ∨ g.state = .lifted
         (loads → rests → u.glue k = { g with keepWet := g.settings.map (·.interval) }) ∧ (¬loads ∨ ¬rests → u.glue k = g)) ∧
      u.bnd = { s.bnd with glues := u.bnd.glues, zeroSpeed := u.bnd.zeroSpeed } ∧
      u.map = s.map ∧ u.obk = s.obk ∧ u.dst = s.dst ∧ u.dec = s.dec ∧ u.stk = s.stk ∧ s.sameButMonitor u ∧
      u.held = s.held ∧ u.fresh = s.fresh ∧ u.pending = s.pending

/-- SetScale, with its checks in their order (R13). -/
def Obligations.SetScale : Prop :=
  ∀ (s : State) (tag scale : Nat) (i : CounterId), s.serves →
    let c : Instr := .setScale tag i.val scale
    (s.lsv.line ≠ .setup → s.answers c tag 0x10 3) ∧
    (s.lsv.line = .setup → s.walls < i.val → s.answers c tag 0x10 3) ∧
    (s.lsv.line = .setup → i.val ≤ s.walls → 0 < (s.counter i).pos → s.answers c tag 0x10 3) ∧
    (s.lsv.line = .setup → i.val ≤ s.walls → (s.counter i).pos = 0 → scale < 1000 ∨ 200000 < scale → s.answers c tag 0x10 4) ∧
    (s.lsv.line = .setup → i.val ≤ s.walls → (s.counter i).pos = 0 → 1000 ≤ scale → scale ≤ 200000 →
      exec c s =
        .next
          (({ s with lcu := { s.lcu with
              counters := s.lcu.counters.set i.val { s.counter i with scale := scale, c := 0, debt := 0, tally := 0 } i.isLt } } :
            State).replied tag 0x10 [0#8]))

/-- The other settings of the LCU (R11, R14 to R16, R24, R31, R91, R95, R103): refused STATE outside the line states that accept them and RANGE
for a value out of range, taken together otherwise; the edge counts are kept. A new line build takes glue stations out of use, OFF with
their spans closed, or back into it, MOVING toward the park gap with both outputs OFF, judges the BRIDGE entry, and sends the clear and the
fault reports that the change of the owner statuses makes. What a station out of use or back in use holds beside that is log 20, and the
clear reports come before the fault reports by log 19, both the model's choice. -/
def Obligations.LengthSettings : Prop :=
  ∀ (s : State) (tag : Nat), s.serves →
    (∀ slit cut rej stk1 stk2 : Nat,
      let c : Instr := .setGeometry tag slit cut rej stk1 stk2
      let fits : Prop := 5000 ≤ slit ∧ slit ≤ 120000 ∧ slit + 2000 ≤ cut ∧ cut ≤ 150000 ∧ cut + 1000 ≤ rej ∧ rej < stk1 ∧
        stk1 ≤ cut + 27000 ∧ rej < stk2 ∧ stk2 ≤ cut + 27000
      (s.lsv.line ≠ .setup → s.answers c tag 0x11 3) ∧
      (s.lsv.line = .setup → ¬fits → s.answers c tag 0x11 4) ∧
      (s.lsv.line = .setup → fits →
        exec c s =
          .next (({ s with lcu := { s.lcu with
            geometry := ⟨slit * 10, cut * 10, rej * 10, stk1 * 10, stk2 * 10⟩ } } : State).replied tag 0x11 [0#8]))) ∧
    (∀ walls width : Nat,
      let c : Instr := .setLineBuild tag walls width
      let fits : Prop := 1 ≤ walls ∧ walls ≤ 3 ∧ 1000 ≤ width ∧ width ≤ 2800
      (s.lsv.line ≠ .setup → s.answers c tag 0x12 3) ∧
      (s.lsv.line = .setup → ¬fits → s.answers c tag 0x12 4) ∧
      (s.lsv.line = .setup → fits →
        ∃ u : State, exec c s = .next (u.replied tag 0x12 [0#8]) ∧
          u.lcu = { s.lcu with walls := some walls, width := width, joints := u.lcu.joints } ∧
          (∀ i : SpliceId, u.lcu.joints[i] =
            if u.spliceInUse i then s.lcu.joints[i] else { s.lcu.joints[i] with armed := false }) ∧
          (∀ k : GlueId, s.glueInUse k = true → u.glueInUse k = false → (s.glue k).state ≠ .off →
            u.glue k =
              { s.glue k with
                state := .off, timeout := false, output := false, sensor := false, levelA := .off, levelB := .off, keepWet := none
                span := none } ∧
            ((s.glue k).span ≠ none → s.spanClosed u (.glue k) (s.gluePoint k))) ∧
          (∀ (k : GlueId) (g : GlueSettings), s.glueInUse k = false → u.glueInUse k = true → (s.glue k).settings = some g →
            (s.glue k).state = .off →
            (u.glue k).target = g.parkGap ∧ (u.glue k).lastValid = none ∧ (u.glue k).levelA = .off ∧ (u.glue k).levelB = .off ∧
            ((∀ o : OutputId, s.faulted o = false) →
              u.glue k =
                { s.glue k with
                  rules := ⟨g.tolerance, g.moveLimit, g.stopMode⟩, state := .moving, target := g.parkGap, lastValid := none
                  stale := 0, levelA := .off, levelB := .off, keepWet := none })) ∧
          (∀ k : GlueId, s.glueInUse k = u.glueInUse k → (∀ o : OutputId, s.faulted o = false) → u.glue k = s.glue k) ∧
          (∀ (o : OutputId) (n : ZoneId), s.faulted o = true →
            (s.ownedBy o ≠ some (.zone n) → u.ownedBy o = some (.zone n) →
              (u.zone n).output = true ∧
                ((s.zone n).enabled = true →
                  (u.zone n).state = .fault ∧
                    ((s.zone n).state ≠ .fault → (s.zone n).span = none → u.spanOpened (.zone n) (s.spanStart (.zone n))))) ∧
            (s.ownedBy o = some (.zone n) → u.ownedBy o ≠ some (.zone n) → (u.zone n).output = false)) ∧
          (∀ (o : OutputId) (k : GlueId) (w : Owner), s.faulted o = true → w = .sideA k ∨ w = .sideB k → u.glueInUse k = true →
            s.glueInUse k = false ∨ (s.glue k).state ≠ .off →
            (s.ownedBy o ≠ some w → u.ownedBy o = some w →
              (u.glue k).output = true ∧ (u.glue k).state = .fault ∧
                ((s.glue k).state ≠ .fault → (s.glue k).span = none → u.spanOpened (.glue k) (s.gluePoint k))) ∧
            (s.ownedBy o = some w → u.ownedBy o ≠ some w →
              (∀ p : OutputId, s.faulted p = true → u.ownedBy p ≠ some (.sideA k) ∧ u.ownedBy p ≠ some (.sideB k)) →
              (u.glue k).output = false)) ∧
          ((∀ k : GlueId, s.glueInUse k = true → u.glueInUse k = false → (s.glue k).state = .off ∨ (s.glue k).span = none) →
            (∀ o : OutputId, s.faulted o = false) → u.map = s.map) ∧
          u.bridgeEntryOk ∧
          (∀ k : WebId, u.bridge k = s.bridge k) ∧ s.keepsBut u [.lcu, .map, .bnd, .lsv])) ∧
    (∀ edge1 edge2 : Nat,
      let c : Instr := .setSheetEyes tag edge1 edge2
      (s.lsv.line ≠ .setup → s.lsv.line ≠ .ready → s.answers c tag 0x13 3) ∧
      (s.lsv.line = .setup ∨ s.lsv.line = .ready → 2 < edge1 ∨ 2 < edge2 → s.answers c tag 0x13 4) ∧
      (s.lsv.line = .setup ∨ s.lsv.line = .ready → ∀ e1 e2 : EdgeSelect, e1.ctorIdx = edge1 → e2.ctorIdx = edge2 →
        exec c s =
          .next (({ s with lcu := { s.lcu with
            eyes := #v[{ s.lcu.eyes[0] with edge := e1 }, { s.lcu.eyes[1] with edge := e2 }] } } : State).replied tag 0x13 [0#8])))

/-! ### The web map, the bridges and the order book -/

/-- An insertion request (R21, R22): a mark that has passed the last stacker is not stored; with room it is stored behind every mark whose
start is not above its own; a full map answers full for an ORDER_CHANGE mark and loses any other, RA standing in for it. And the requests of
the BOND_RISK sources (R24): a span is opened by an insertion request for a mark with no end; a close request gives the source's first open
span its end, never below its start, or with none in the map clears the lost-span flag, or with neither does nothing. -/
def Obligations.InsertionRequest : Prop :=
  (∀ (s : State) (x : BondSource) (start e : Nat),
    let t := s.closeSpan x e
    s.openSpan x start = (s.insertMark { start := start, finish := none, body := .bondRisk x }).1 ∧
    (∀ pre m post, s.map.marks = pre ++ m :: post → (∀ y ∈ pre, y.isOpenSpan x = false) → m.isOpenSpan x = true →
      t =
        { s with map := { s.map with
          marks := pre ++ { m with finish := some (max m.start e) } :: post, changeCount := (s.map.changeCount + 1) % 65536 } }) ∧
    ((∀ m ∈ s.map.marks, m.isOpenSpan x = false) →
      (s.lostSpan x = false → t = s) ∧
      (s.lostSpan x = true → (∀ y : BondSource, t.lostSpan y = (decide (y ≠ x) && s.lostSpan y)) ∧
        t = { s with map := { s.map with lostZone := t.map.lostZone, lostGlue := t.map.lostGlue } }))) ∧
  ∀ (s : State) (m : Mark),
    let t := (s.insertMark m).1
    let a := (s.insertMark m).2
    let late : Prop := ∃ e, m.finish = some e ∧ e + s.dLast ≤ s.linePos
    (late → a = .late ∧ t.map = { s.map with lostMarks := min (s.map.lostMarks + 1) 65535 } ∧
      (∃ n ∈ t.lnk.notices, n.kind = .markLate ∧ n.subject = ⟨.map, 0⟩) ∧ s.keepsBut t [.map]) ∧
    (¬late → s.map.marks.length < 128 →
      a = .stored ∧
      ∃ pre post, s.map.marks = pre ++ post ∧ (∀ x ∈ pre, x.start ≤ m.start) ∧ (∀ x ∈ post.head?, m.start < x.start) ∧
        t = { s with map := { s.map with marks := pre ++ m :: post, changeCount := (s.map.changeCount + 1) % 65536 } }) ∧
    (¬late → 128 ≤ s.map.marks.length → m.isChange = true → a = .full ∧ t = s) ∧
    (¬late → 128 ≤ s.map.marks.length → m.isChange = false →
      a = .lost ∧ t.map.marks = s.map.marks ∧ t.map.bridges = s.map.bridges ∧
      t.map.lostMarks = min (s.map.lostMarks + 1) 65535 ∧
      t.map.ra = some (match s.map.ra with
        | some r => min r m.start
        | none => m.start) ∧
      (∀ x : BondSource, t.lostSpan x = (s.lostSpan x || (decide (m.body = .bondRisk x) && m.finish.isNone))) ∧
      (∃ n ∈ t.lnk.notices, n.kind = .mapFull ∧ n.subject = ⟨.map, 0⟩) ∧ s.keepsBut t [.map])

/-- The covering lookup and the grade lookup (R24, R33, R34): what covers an interval, with the current end of an open span, and the grade
that the last ORDER_CHANGE mark at or below a position, or else the RUNNING order, gives. -/
def Obligations.MapLookups : Prop :=
  (∀ (s : State) (q0 q1 : Nat),
    (s.covering q0 q1).Sublist s.map.marks ∧
    ∀ m, m ∈ s.covering q0 q1 ↔ m ∈ s.map.marks ∧ m.start < q1 ∧
      ((∃ e, m.finish = some e ∧ q0 ≤ e) ∨
       (m.finish = none ∧ q0 ≤ (match m.body with
         | .bondRisk x => max m.start (s.growthPoint x)
         | _ => m.start)))) ∧
  (∀ (s : State) (p : Nat) (pre post : List Mark) (m : Mark) (out : Nat) (incoming : Option Nat) (locked : Bool),
    s.map.marks = pre ++ m :: post → m.body = .orderChange out incoming locked → m.start ≤ p →
    (∀ x ∈ post, x.isChange = true → p < x.start) →
    (p < m.start + s.zc →
      (∀ o, s.findOrder out = some o → s.gradeLookup p = .changeZone o.grade) ∧ (s.findOrder out = none → s.gradeLookup p = .none)) ∧
    (m.start + s.zc ≤ p →
      (∀ o, s.findOrder (incoming.getD out) = some o → s.gradeLookup p = .grade o.grade) ∧
      (s.findOrder (incoming.getD out) = none → s.gradeLookup p = .none))) ∧
  ∀ (s : State) (p : Nat), (∀ x ∈ s.map.marks, x.isChange = true → p < x.start) →
    (∀ o, s.runningOrder = some o → s.gradeLookup p = .grade o.grade) ∧ (s.runningOrder = none → s.gradeLookup p = .none)

/-- SetBridge and ThreadBridge, and what they share with every change of a bridge (R29 to R32). The BRIDGE entry is the least crawl speed of
the bridges that claim, and a content that rises past the high level is noticed. The entries at or before the new X_k are transferred,
from the head of the list: each leaves it and is a JOINT mark about LINE − (X_k − e), asked of the map in turn, and those that the map
loses are counted. A start or an end that would be negative is 0 (the end: log 34, the model's choice). -/
def Obligations.BridgeCommands : Prop :=
  (∀ (s : State) (k : WebId) (v : Nat),
    let t := s.setContent k v
    t.bridge k = { s.bridge k with content := v } ∧ (∀ j : WebId, j ≠ k → t.bridge j = s.bridge j) ∧
    t.map = { s.map with bridges := t.map.bridges } ∧ t.bridgeEntryOk ∧
    ((s.bridge k).content ≤ (s.bridge k).high → (s.bridge k).high < v → t.noticedWith .bridgeHigh .bridge (k.val + 1) (natBytes 6 v)) ∧
    s.keepsBut t [.map, .lsv]) ∧
  (∀ (s : State) (k : WebId) (pre post : List BridgeEntry), (s.bridge k).entries = pre ++ post →
    let x := s.webPos k - (s.bridge k).content
    let t := s.transferDue k
    let mark (b : BridgeEntry) : Mark :=
      { start := s.linePos + b.e - (x + b.before), finish := some (s.linePos + b.e + b.after - x), body := .joint b.station b.suspect }
    let ask (p : State × Nat) (b : BridgeEntry) : State × Nat :=
      ((p.1.insertMark (mark b)).1, if (p.1.insertMark (mark b)).2 = .lost then p.2 + 1 else p.2)
    let left : State :=
      { s with map := { s.map with bridges := s.map.bridges.set k.val { s.bridge k with entries := post } k.isLt } }
    (∀ b ∈ pre, b.e ≤ x) → (∀ b ∈ post.head?, x < b.e) →
      t.2.1 = pre.length ∧ (t.1, t.2.2) = pre.foldl ask (left, 0)) ∧
  ∀ (s : State) (tag : Nat) (k : WebId), s.serves →
    (∀ slow high crawl : Nat,
      let c : Instr := .setBridge tag (k.val + 1) slow high crawl
      let fits : Prop := 1 ≤ slow ∧ slow ≤ 100 ∧ slow < high ∧ high ≤ 500 ∧ 5 ≤ crawl ∧ crawl ≤ 400
      (s.lsv.line ≠ .setup → s.lsv.line ≠ .ready → s.answers c tag 0x20 3) ∧
      (s.lsv.line = .setup ∨ s.lsv.line = .ready → s.walls < k.val + 1 → s.answers c tag 0x20 3) ∧
      (s.lsv.line = .setup ∨ s.lsv.line = .ready → k.val + 1 ≤ s.walls → ¬fits → s.answers c tag 0x20 4) ∧
      (s.lsv.line = .setup ∨ s.lsv.line = .ready → k.val + 1 ≤ s.walls → fits →
        ∃ u : State, exec c s = .next (u.replied tag 0x20 [0#8]) ∧
          u.bridge k = { s.bridge k with slow := slow * 10000, high := high * 10000, crawl := crawl } ∧
          (∀ j : WebId, j ≠ k → u.bridge j = s.bridge j) ∧ u.map = { s.map with bridges := u.map.bridges } ∧
          u.bridgeEntryOk ∧ u.lsv = { s.lsv with ceiling := { s.lsv.ceiling with bridge := u.lsv.ceiling.bridge } } ∧
          s.keepsBut u [.map, .lsv])) ∧
    (∀ content : Nat,
      let c : Instr := .threadBridge tag (k.val + 1) content
      let v := content * 10000
      (s.lsv.line ≠ .ready → s.answers c tag 0x21 3) ∧
      (s.lsv.line = .ready → s.walls < k.val + 1 → s.answers c tag 0x21 3) ∧
      (s.lsv.line = .ready → k.val + 1 ≤ s.walls → 500 < content ∨ s.webPos k < v → s.answers c tag 0x21 4) ∧
      (s.lsv.line = .ready → k.val + 1 ≤ s.walls → content ≤ 500 → v ≤ s.webPos k →
        let b : Bridge := { s.bridge k with content := v, shortfall := 0 }
        let t := ({ s with map := { s.map with bridges := s.map.bridges.set k.val b k.isLt } } : State).transferDue k
        ∃ u : State,
          exec c s =
            .next (u.replied tag 0x21
              ([0#8] ++ natBytes 6 v ++ natBytes 6 (s.webPos k - v) ++ natBytes 1 t.2.1 ++ natBytes 1 t.2.2)) ∧
          u.map = t.1.map ∧ u.bridge k = { b with entries := (s.bridge k).entries.drop t.2.1 } ∧
          u.mergeCoord k = s.webPos k - v ∧
          (∀ j : WebId, j ≠ k → u.bridge j = s.bridge j) ∧
          u.bridgeEntryOk ∧ u.lsv = { s.lsv with ceiling := { s.lsv.ceiling with bridge := u.lsv.ceiling.bridge } } ∧
          ((s.bridge k).content ≤ (s.bridge k).high → (s.bridge k).high < v → u.noticed .bridgeHigh .bridge (k.val + 1)) ∧
          s.keepsBut u [.map, .lsv]))

/-- AddHostMark and ResumeSorting (R23, R35). -/
def Obligations.MapCommands : Prop :=
  ∀ (s : State) (tag : Nat), s.serves →
    (∀ start finish reason : Nat,
      let c : Instr := .addHostMark tag start finish reason
      let fits : Prop := 1 ≤ reason ∧ reason ≤ 255 ∧ start < 2 ^ 44 ∧ finish < 2 ^ 44
      (s.lsv.line = .setup → s.answers c tag 0x22 3) ∧
      (s.lsv.line ≠ .setup → ¬fits → s.answers c tag 0x22 4) ∧
      (s.lsv.line ≠ .setup → fits → start + s.dCut < s.linePos → s.answers c tag 0x22 8) ∧
      (s.lsv.line ≠ .setup → fits → s.linePos ≤ start + s.dCut → finish < start ∨ 1000000 < finish - start →
        s.answers c tag 0x22 4) ∧
      (s.lsv.line ≠ .setup → fits → s.linePos ≤ start + s.dCut → start ≤ finish → finish - start ≤ 1000000 →
        let r := s.insertMark { start := start, finish := some finish, body := .hostMark reason }
        exec c s = .next (r.1.replied tag 0x22 [0#8, if r.2 = .stored then 0#8 else 1#8]))) ∧
    (let c : Instr := .resumeSorting tag
     let blocked : Prop := 128 ≤ s.map.marks.length ∨ (∃ k : WebId, k.val + 1 ≤ s.walls ∧ 32 ≤ (s.bridge k).entries.length) ∨
       ∃ x : BondSource, s.lostSpan x = true
     (blocked → s.answers c tag 0x23 5) ∧
     (¬blocked → ∀ r, s.map.ra = some r →
       exec c s =
         .next (({ s with map := { s.map with ra := none, changeCount := (s.map.changeCount + 1) % 65536 } } : State).replied tag 0x23
           (0#8 :: natBytes 6 r))) ∧
     (¬blocked → s.map.ra = none → exec c s = .next (s.replied tag 0x23 (0#8 :: List.replicate 6 0xFF#8))))

/-- AddOrder (R39, R40, R42, R45): its checks in their order, the number of lanes, the ranges of the order's fields and the fit of its grade
among them, and an order that passes them entered at the tail of the book, QUEUED, with staging applied: with no order STAGED and a station
IDLE, the head of the queued list is STAGED on it, POSITIONING begins, and the RUNNING order's end mark, placed unlocked or pending, takes its
tag as incoming tag. -/
def Obligations.OrderEntry : Prop :=
  (∀ (o : OrderSpec) (a : LaneSpec) (b : Option LaneSpec) (width : Nat), o.lanes = a :: b.toList →
    let laneFits (l : LaneSpec) : Prop := (500 ≤ l.length ∧ l.length ≤ 6000) ∧ (1 ≤ l.outs ∧ l.outs ≤ 8) ∧
      (1 ≤ l.target ∧ l.target ≤ 999999) ∧ (10 ≤ l.height ∧ l.height ≤ 999)
    (firstFailing (orderChecks o width) = none ↔
      o.grade < 32 ∧ (2 ≤ o.knives.length ∧ o.knives.length ≤ 10) ∧ (∀ p ∈ o.knives, p ≤ width) ∧
        (∀ pre p q post, o.knives = pre ++ p :: q :: post → p + 50 ≤ q) ∧
        o.scores.length ≤ 16 ∧ (∀ p ∈ o.scores, p ≤ width) ∧ laneFits a ∧ (∀ l, b = some l → laneFits l) ∧ o.makeupLimit ≤ 1000)) ∧
  (∀ (s : State) (g : Nat),
    s.gradeFits g = true ↔ ∃ (i : Fin 32) (e : Grade), g = i.val ∧ s.bnd.grades[i] = some e ∧ e.walls = s.walls ∧
      ∀ k : GlueId, s.glueInUse k = true → 50 ≤ e.gaps[k] ∧ e.gaps[k] ≤ 600) ∧
  (∀ (s : State) (tag : Nat) (o : OrderSpec), s.serves → o.lanes.length ≠ 1 → o.lanes.length ≠ 2 →
    let c : Instr := .addOrder tag o
    let known : Prop := ∃ x ∈ s.obk.orders, x.tag = o.tag
    (s.lsv.line = .setup → s.answers c tag 0x31 3) ∧
    (s.lsv.line ≠ .setup → o.tag < 1 ∨ 65535 < o.tag → s.answers c tag 0x31 4) ∧
    (s.lsv.line ≠ .setup → 1 ≤ o.tag → o.tag ≤ 65535 → known → s.answers c tag 0x31 7) ∧
    (s.lsv.line ≠ .setup → 1 ≤ o.tag → o.tag ≤ 65535 → ¬known → s.answers c tag 0x31 4)) ∧
  ∀ (s : State) (tag : Nat) (o : OrderSpec) (a : LaneSpec) (b : Option LaneSpec), s.serves → o.lanes = a :: b.toList →
    let c : Instr := .addOrder tag o
    let known : Prop := ∃ x ∈ s.obk.orders, x.tag = o.tag
    let ranges : Prop := firstFailing (orderChecks o s.lcu.width) = none
    let outs := a.outs + (b.map (·.outs)).getD 0
    let e := enteredOrder o a b
    (s.lsv.line = .setup → s.answers c tag 0x31 3) ∧
    (s.lsv.line ≠ .setup → o.tag < 1 ∨ 65535 < o.tag → s.answers c tag 0x31 4) ∧
    (s.lsv.line ≠ .setup → 1 ≤ o.tag → o.tag ≤ 65535 → known → s.answers c tag 0x31 7) ∧
    (s.lsv.line ≠ .setup → 1 ≤ o.tag → o.tag ≤ 65535 → ¬known → ¬ranges ∨ s.gradeFits o.grade = false ∨ o.knives.length < outs + 1 →
      s.answers c tag 0x31 4) ∧
    (s.lsv.line ≠ .setup → 1 ≤ o.tag → o.tag ≤ 65535 → ¬known → ranges → s.gradeFits o.grade = true → outs + 1 ≤ o.knives.length →
      (16 ≤ s.obk.orders.length → s.answers c tag 0x31 5) ∧
      (s.obk.orders.length < 16 → s.stagedOrder.isSome = true ∨ (∀ i : SlitId, (s.slit i).state ≠ .idle) →
        ∃ p, exec c s = .next (({ s with obk := { s.obk with orders := s.obk.orders ++ [e] } } : State).replied tag 0x31 p) ∧
          p.head? = some 0#8) ∧
      (s.obk.orders.length < 16 → s.stagedOrder = none →
        ∀ i : SlitId, (s.slit i).state = .idle → (∀ j < i, (s.slit j).state ≠ .idle) →
        ∀ q, (s.obk.orders ++ [e]).find? (fun x => x.phase = .queued) = some q →
        ∃ (u : State) (p : List Byte), exec c s = .next (u.replied tag 0x31 p) ∧ p.head? = some 0#8 ∧
          u.obk =
            { s.obk with
              orders := (s.obk.orders ++ [e]).map fun x =>
                if x.tag = q.tag then { x with phase := .staged, station := some i, setup := .positioning } else x
              pendingIncoming := if s.obk.endStatus = .pending then some q.tag else s.obk.pendingIncoming } ∧
          (s.obk.endStatus ≠ .unlocked → u.map = s.map) ∧
          (∀ pre st fin out old post, s.obk.endStatus = .unlocked → s.map.marks = pre ++ ⟨st, fin, .orderChange out old false⟩ :: post →
            (∀ y ∈ pre, y.isUnlockedChange = false) → u.map.marks = pre ++ ⟨st, fin, .orderChange out (some q.tag) false⟩ :: post) ∧
          u.slit i =
            { s.slit i with
              state := .positioning, setup := some ⟨q.tag, q.knives, q.scores⟩, heads := .goto ⟨q.tag, q.knives, q.scores⟩ } ∧
          (∀ j : SlitId, j ≠ i → u.slit j = s.slit j) ∧ u.dec.lanes = s.dec.lanes ∧ u.dec.queues = s.dec.queues ∧
          u.noticedWith .orderStaged .order q.tag (natBytes 1 (i.val + 1)) ∧ s.keepsBut u [.obk, .map, .dec]))

/-- AmendTarget and CancelOrder (R54 to R56), by the order's state: a QUEUED or STAGED order is changed or leaves the book, the RUNNING
order's end position becomes what its rule gives, never below the upstream limit, its end mark moves there and its required cuts go to the
lanes, and what can no longer be changed is LATE. The cancel of a STAGED order frees its station, clears the incoming tag of the end mark and
stages the next (R42, R45, R119). How the replies give the values of each lane is log 13, the model's choice. -/
def Obligations.OrderChanges : Prop :=
  ∀ (s : State) (tag order : Nat), s.serves →
    let limit := s.linePos + s.obk.lockMargin + 1 - s.dSlit
    let movable : Prop := s.obk.endStatus = .unlocked ∨ s.obk.endStatus = .pending
    let moves (o : Order) (e : Nat) (u : State) : Prop :=
      (e = o.endPos ∨ s.obk.endStatus = .pending → u.map = s.map) ∧
      (e ≠ o.endPos → s.obk.endStatus = .unlocked →
        ∀ pre m post, s.map.marks = pre ++ m :: post → (∀ y ∈ pre, y.isUnlockedChange = false) → m.isUnlockedChange = true →
          PlacedIn (·.start) { m with start := e, finish := some (e + s.zc) } (pre ++ post) u.map.marks)
    let incoming (t : Option Nat) (u : State) : Prop :=
      ∀ pre st fin out old post, s.obk.endStatus = .unlocked → s.map.marks = pre ++ ⟨st, fin, .orderChange out old false⟩ :: post →
        (∀ y ∈ pre, y.isUnlockedChange = false) → u.map.marks = pre ++ ⟨st, fin, .orderChange out t false⟩ :: post
    (∀ lane target : Nat,
      let c : Instr := .amendTarget tag order lane target
      (s.lsv.line = .setup → s.answers c tag 0x32 3) ∧
      (s.lsv.line ≠ .setup → s.findOrder order = none ∨ lane < 1 ∨ 2 < lane → s.answers c tag 0x32 6) ∧
      (s.lsv.line ≠ .setup → ∀ (o : Order) (j : LaneId), s.findOrder order = some o → lane = j.val + 1 →
        (o.lane j = none → s.answers c tag 0x32 6) ∧
        (o.lane j ≠ none → target < 1 ∨ 999999 < target → s.answers c tag 0x32 4) ∧
        (o.lane j ≠ none → 1 ≤ target → target ≤ 999999 →
          (o.phase = .queued ∨ o.phase = .staged →
            exec c s =
              .next ((s.onOrder order fun _ => o.retarget j target).replied tag 0x32 ([0#8] ++ (o.retarget j target).requiredBytes))) ∧
          (o.phase = .running → movable → o.cancelled = false →
            let sum := o.start + (o.retarget j target).runLength
            ∃ u : State,
              exec c s =
                .next (u.replied tag 0x32
                  ([0#8] ++ (o.retarget j target).requiredBytes ++ natBytes 6 (max sum limit) ++ flagBytes (decide (sum < limit)))) ∧
              u.findOrder order =
                some { o.retarget j target with cutShort := o.cutShort || decide (sum < limit), endPos := max sum limit } ∧
              (∀ i : LaneId, (o.lane i).isSome = true → (u.lane i).required order = some ((o.retarget j target).required i)) ∧
              moves o (max sum limit) u ∧
              (∀ t, t ≠ order → u.findOrder t = s.findOrder t) ∧ s.keepsBut u [.obk, .map, .dec, .lsv]) ∧
          (o.phase = .draining ∨ o.phase = .done ∨ (o.phase = .running ∧ (¬movable ∨ o.cancelled = true)) →
            s.answers c tag 0x32 8)))) ∧
    (let c : Instr := .cancelOrder tag order
     (s.lsv.line = .setup → s.answers c tag 0x33 3) ∧
     (s.lsv.line ≠ .setup → s.findOrder order = none → s.answers c tag 0x33 6) ∧
     (s.lsv.line ≠ .setup → ∀ o : Order, s.findOrder order = some o →
       (o.phase = .queued →
         exec c s =
           .next (({ s with obk := { s.obk with orders := s.obk.orders.filter fun x => x.tag ≠ order } } : State).replied tag 0x33
             [0#8])) ∧
       (o.phase = .staged → s.obk.endStatus ≠ .locked →
         ∃ u : State, exec c s = .next (u.replied tag 0x33 [0#8]) ∧ u.findOrder order = none ∧ s.keepsBut u [.obk, .map, .dec] ∧
           let rest := s.obk.orders.filter fun x => x.tag ≠ order
           let freed (k : SlitId) : SlitStation :=
             if o.station = some k ∧ (s.slit k).state ≠ .idle ∧ (s.slit k).state ≠ .engaged then
               { s.slit k with setup := none, heads := .stop, state := .idle }
             else s.slit k
           let pending (t : Option Nat) : Option Nat := if s.obk.endStatus = .pending then t else s.obk.pendingIncoming
           u.dec = { s.dec with stations := u.dec.stations } ∧ (s.obk.endStatus ≠ .unlocked → u.map = s.map) ∧
           ((∃ x ∈ rest, x.phase = .staged) ∨ (∀ k, (freed k).state ≠ .idle) ∨ (∀ x ∈ rest, x.phase ≠ .queued) →
             (∀ k, u.slit k = freed k) ∧ u.obk = { s.obk with orders := rest, pendingIncoming := pending none } ∧ incoming none u) ∧
           ((∀ x ∈ rest, x.phase ≠ .staged) → ∀ k q, (freed k).state = .idle → (∀ j < k, (freed j).state ≠ .idle) →
             rest.find? (fun x => x.phase = .queued) = some q →
             let setup : Setup := ⟨q.tag, q.knives, q.scores⟩
             u.slit k = { freed k with state := .positioning, setup := some setup, heads := .goto setup } ∧
             (∀ j, j ≠ k → u.slit j = freed j) ∧
             u.obk =
               { s.obk with
                 orders := rest.map fun x =>
                   if x.tag = q.tag then { x with phase := .staged, station := some k, setup := .positioning } else x
                 pendingIncoming := pending (some q.tag) } ∧
             incoming (some q.tag) u ∧ u.noticedWith .orderStaged .order q.tag (natBytes 1 (k.val + 1)))) ∧
       (o.phase = .running → movable →
         ∃ u : State,
           exec c s =
             .next (u.replied tag 0x33
               ([0#8] ++ natBytes 6 (max o.start limit) ++ o.lanes.flatMap fun j => natBytes 4 (s.goodCuts order j))) ∧
           u.findOrder order = some { o with cancelled := true, cutShort := true, endPos := max o.start limit } ∧
           moves o (max o.start limit) u ∧
           (∀ t, t ≠ order → u.findOrder t = s.findOrder t) ∧ s.keepsBut u [.obk, .map, .dec, .lsv]) ∧
       (o.phase = .draining ∨ o.phase = .done ∨ (o.phase = .running ∧ ¬movable) ∨ (o.phase = .staged ∧ s.obk.endStatus = .locked) →
         s.answers c tag 0x33 8)))

/-- SetChangeLimits and CollectOrder (R46, R58): the four limits are taken together, with the SETUP claim and SETUP_OVERDUE judged anew
while a deferral is active; a DONE order is given in the reply and leaves the book in one act. -/
def Obligations.OrderSettings : Prop :=
  ∀ (s : State) (tag : Nat), s.serves →
    (∀ margin step maximum crawl : Nat,
      let c : Instr := .setChangeLimits tag margin step maximum crawl
      let stands : Prop := s.lsv.line = .setup ∨ s.lsv.line = .ready ∨ s.lsv.line = .park
      let fits : Prop := 2 ≤ margin ∧ margin ≤ 30 ∧ 1 ≤ step ∧ step ≤ 20 ∧ 10 ≤ maximum ∧ maximum ≤ 500 ∧ step ≤ maximum ∧ 5 ≤ crawl ∧
        crawl ≤ 400
      let o : Obk :=
        { s.obk with
          lockMargin := margin * 10000, deferStep := step * 10000, maxDeferral := maximum * 10000, setupCrawl := crawl }
      (¬stands → s.answers c tag 0x30 3) ∧
      (stands → ¬fits → s.answers c tag 0x30 4) ∧
      (stands → fits → s.obk.deferral = false → exec c s = .next (({ s with obk := o } : State).replied tag 0x30 [0#8])) ∧
      (stands → fits → s.obk.deferral = true → ∀ r, s.runningOrder = some r →
        ∃ u : State, exec c s = .next (u.replied tag 0x30 [0#8]) ∧ u.obk = o ∧
          u.lsv =
            { s.lsv with
              ceiling := { s.lsv.ceiling with setup := some crawl }
              holds := { s.lsv.holds with setupOverdue := decide (maximum * 10000 ≤ r.deferred) } } ∧
          s.keepsBut u [.obk, .lsv])) ∧
    (∀ order : Nat,
      let c : Instr := .collectOrder tag order
      (s.findOrder order = none → s.answers c tag 0x36 6) ∧
      (∀ o, s.findOrder order = some o → o.phase ≠ .done → s.answers c tag 0x36 3) ∧
      (∀ o, s.findOrder order = some o → o.phase = .done →
        exec c s =
          .next (({ s with obk := { s.obk with orders := s.obk.orders.filter fun x => x.tag ≠ order } } : State).replied tag 0x36
            ([0#8] ++ s.orderBytes o ++ o.lanes.flatMap o.tallyBytes))))

/-! ### The splice stations -/

/-- The speed-match terminal, the match timer and the end of the paste and knife pulse (R71). A station in use and in MATCHING, its running
reel not yet at 0, becomes MATCHED when the terminal goes active, and fires at once when its force flag is set or the reel is at its
reserve; the match limit puts it in BLOCKED with outcome NOT_MATCHED. Each leaves the SPLICE entry as the stations' claims then give it
(R70), and SPLICE_BLOCKED carries its reason (R175). A timer that does not run has no effect (log 30), a terminal told the
level it has changes nothing (log 7), and what the record of NOT_MATCHED holds of the reels is log 41, the model's choice. -/
def Obligations.SpliceEvents : Prop :=
  ∀ (s : State) (i : SpliceId), s.held = false →
    let x := s.splice i
    let put (y : SpliceStation) : State := { s with spc := { s.spc with stations := s.spc.stations.set i.val y i.isLt } }
    let pos := (s.counter (spliceCounter i)).pos
    let entryEvaluated (u : State) : Prop :=
      u.spliceEntryOk ∧ u.lsv = { s.lsv with ceiling := { s.lsv.ceiling with splice := u.lsv.ceiling.splice } }
    (∀ active : Bool, active = false ∨ x.speedMatch = true ∨ s.spliceInUse i = false ∨ x.phase ≠ .matching →
      exec (.speedMatch i active) s = .next (put { x with speedMatch := active }).beginFrame) ∧
    (x.speedMatch = false → s.spliceInUse i = true → x.phase = .matching →
      ∀ (g : SpliceSettings) (r : Reel), x.settings = some g → x.activeReel = some r → 0 < r.remaining →
      (x.force = false → g.reserve < r.remaining →
        ∃ u : State, exec (.speedMatch i true) s = .next u.beginFrame ∧ u.splice i = { x with speedMatch := true, phase := .matched } ∧
          (∀ j : SpliceId, j ≠ i → u.splice j = s.splice j) ∧ entryEvaluated u ∧ s.keepsBut u [.spc, .lsv]) ∧
      (x.force = true ∨ r.remaining ≤ g.reserve →
        ∃ u : State, exec (.speedMatch i true) s = .next u.beginFrame ∧
          u.splice i =
            { x with
              speedMatch := true, phase := .confirming, accelerate := false, pulse := true, firePos := some pos
              windowEnd := some (pos + g.window), force := false } ∧
          (∀ j : SpliceId, j ≠ i → u.splice j = s.splice j) ∧ u.lcu.joints[i] = { s.lcu.joints[i] with armed := true } ∧
          entryEvaluated u ∧ s.keepsBut u [.lcu, .spc, .lsv])) ∧
    (s.spliceInUse i = true → x.phase = .matching → (∀ r, x.activeReel = some r → 0 < r.remaining) →
      ∃ u : State, exec (.matchTimerExpiry i) s = .next u.beginFrame ∧
        u.splice i =
          { x with
            phase := .blocked, accelerate := false, force := false, notMatched := min (x.notMatched + 1) 65535
            lastSplice := some
              { outcome := .notMatched, oldTag := x.activeReel.map (·.tag), oldPaper := x.activeReel.map (·.paper)
                stub := (x.activeReel.map (·.remaining)).getD 0, newTag := x.standbyReel.map (·.tag), joint := none } } ∧
        (∀ j : SpliceId, j ≠ i → u.splice j = s.splice j) ∧
        u.noticedWith .spliceBlocked .spliceStation (i.val + 1) (natBytes 1 0) ∧ entryEvaluated u ∧ s.keepsBut u [.spc, .lsv]) ∧
    (s.spliceInUse i = false ∨ x.phase ≠ .matching → exec (.matchTimerExpiry i) s = .next s.beginFrame) ∧
    exec (.pasteKnifePulseEnd i) s = .next (put { x with pulse := false }).beginFrame

/-- SetStation (R63): refused STATE or RANGE without effect, or the settings taken together in 0.1 mm with the shared JB and JA. -/
def Obligations.SetStation : Prop :=
  ∀ (s : State) (tag : Nat) (i : SpliceId) (a : StationArgs), s.serves → a.station = i.val + 1 →
    let c : Instr := .setStation tag a
    let fits : Prop := (1 ≤ a.path ∧ a.path ≤ 60) ∧ (50 ≤ a.arm ∧ a.arm ≤ 2000) ∧
      (10 ≤ a.reserve ∧ a.reserve ≤ 200 ∧ a.reserve < a.arm) ∧ (5 ≤ a.matchLimit ∧ a.matchLimit ≤ 60) ∧
      (1 ≤ a.window ∧ a.window ≤ 20 ∧ a.window ≤ a.reserve) ∧ (30 ≤ a.speed ∧ a.speed ≤ 400) ∧ a.edge ≤ 2 ∧ a.reelLow ≤ 5000 ∧
      (500 ≤ a.jb ∧ a.jb ≤ 5000) ∧ (500 ≤ a.ja ∧ a.ja ≤ 5000)
    (s.lsv.line ≠ .setup → s.answers c tag 0x40 3) ∧
    (s.lsv.line = .setup → s.spliceInUse i = false → s.answers c tag 0x40 3) ∧
    (s.lsv.line = .setup → s.spliceInUse i = true → ¬fits → s.answers c tag 0x40 4) ∧
    (s.lsv.line = .setup → s.spliceInUse i = true → fits → ∀ e : EdgeSelect, e.ctorIdx = a.edge →
      let g : SpliceSettings :=
        { path := a.path * 10000, arm := a.arm * 10000, reserve := a.reserve * 10000, matchLimit := a.matchLimit
          window := a.window * 10000, speed := a.speed, edge := e, reelLow := a.reelLow * 10000 }
      let x := s.splice i
      exec c s =
        .next (({ s with spc := { stations := s.spc.stations.set i.val { x with settings := some g } i.isLt
                                  jb := a.jb * 10, ja := a.ja * 10 } } : State).replied tag 0x40 [0#8]))

/-- LoadReel and UnloadReel (R64, R65, R67 to R70): a reel by the roles of the arms, with the arming test made at once of a reel placed on
the standby arm, and the standby reel returned with the station in IDLE, where the running reel is found out or low. -/
def Obligations.ReelCommands : Prop :=
  ∀ (s : State) (tag : Nat) (i : SpliceId), s.serves → s.spliceInUse i = true →
    let x := s.splice i
    let with_ (y : SpliceStation) : State := { s with spc := { s.spc with stations := s.spc.stations.set i.val y i.isLt } }
    (∀ (arm : Arm) (reel paper length : Nat),
      let c : Instr := .loadReel tag (i.val + 1) arm.ctorIdx reel paper length
      let held : Prop := ∃ (j : SpliceId) (r : Reel),
        ((s.splice j).activeReel = some r ∨ (s.splice j).standbyReel = some r) ∧ r.tag = reel
      let stands : Prop := s.lsv.line = .ready ∨ s.lsv.line = .halted
      let r : Reel := { tag := reel, paper := paper, loadLength := length, remaining := length * 10000, lowReported := false }
      (length < 100 ∨ 20000 < length → s.answers c tag 0x41 4) ∧
      (100 ≤ length → length ≤ 20000 → held → s.answers c tag 0x41 7) ∧
      (100 ≤ length → length ≤ 20000 → ¬held →
        (x.activeReel = none → stands → arm = x.activeArm ∨ x.standbyReel = none →
          ∃ (u : State) (p : List Byte), exec c s = .next (u.replied tag 0x41 p) ∧ p.head? = some 0#8 ∧
            u.splice i = { x with activeArm := arm, activeReel := some r } ∧ (∀ j : SpliceId, j ≠ i → u.splice j = s.splice j) ∧
            (∃ n ∈ u.lnk.notices, n.kind = .reelLoaded ∧ n.subject = ⟨.spliceStation, i.val + 1⟩) ∧ s.keepsBut u [.spc]) ∧
        (arm ≠ x.activeArm → x.standbyReel = none → x.activeReel.isSome = true ∨ ¬stands →
          (∀ q, x.activeReel = some q → 0 < q.remaining) →
          ∃ (u : State) (p : List Byte), exec c s = .next (u.replied tag 0x41 p) ∧ p.head? = some 0#8 ∧
            (u.splice i).standbyReel = some r ∧ (u.splice i).activeReel = x.activeReel ∧ (u.splice i).activeArm = x.activeArm ∧
            ((s.lsv.line ≠ .run ∧ s.lsv.line ≠ .hold) ∨ s.lcu.measured = 0 →
              (u.splice i).phase = if x.phase = .idle then .standby else x.phase) ∧
            (let loaded := with_ { x with standbyReel := some r, phase := if x.phase = .idle then .standby else x.phase }
             (∀ g q, loaded.armingTerms i g q → loaded.armedIn u i g q) ∧
             ((∀ g q, ¬loaded.armingTerms i g q) → u.spc = loaded.spc ∧ u.lcu = s.lcu ∧ (x.phase = .idle → u.spliceEntryOk)) ∧
             u.lcu = { s.lcu with joints := u.lcu.joints } ∧ ∀ j : SpliceId, j ≠ i → u.lcu.joints[j] = s.lcu.joints[j]) ∧
            u.lsv = { s.lsv with ceiling := { s.lsv.ceiling with splice := u.lsv.ceiling.splice } } ∧
            (∀ j : SpliceId, j ≠ i → u.splice j = s.splice j) ∧ s.keepsBut u [.lcu, .spc, .lsv]) ∧
        ((arm = x.activeArm ∧ (x.activeReel.isSome = true ∨ ¬stands)) ∨ (arm ≠ x.activeArm ∧ x.standbyReel.isSome = true) →
          s.answers c tag 0x41 3))) ∧
    (let c : Instr := .unloadReel tag (i.val + 1)
     (x.phase ≠ .standby → x.phase ≠ .blocked → s.answers c tag 0x42 3) ∧
     (x.phase = .standby ∨ x.phase = .blocked →
       ∃ u : State, exec c s = .next (u.replied tag 0x42 ([0#8] ++ ((x.standbyReel.map Reel.bytes).getD []))) ∧
         (u.splice i).standbyReel = none ∧ (u.splice i).phase = .idle ∧ (u.splice i).activeArm = x.activeArm ∧
         s.keepsBut u [.map, .spc, .bnd, .lsv] ∧
         let idle (r : Option Reel) : State := with_ { x with standbyReel := none, phase := .idle, activeReel := r }
         let low (r : Reel) : Prop := ∃ g, x.settings = some g ∧ 0 < g.reelLow ∧ r.remaining ≤ g.reelLow ∧ r.lowReported = false
         let stays (r : Option Reel) : Prop := u.spc = (idle r).spc ∧ u.map = s.map ∧ u.bnd = s.bnd ∧ u.spliceEntryOk ∧
           u.lsv = { s.lsv with ceiling := { s.lsv.ceiling with splice := u.lsv.ceiling.splice } }
         (x.activeReel = none → stays none) ∧
         (∀ r, x.activeReel = some r → 0 < r.remaining →
           (¬low r → stays (some r)) ∧
           (low r → stays (some { r with lowReported := true }) ∧ u.noticed .reelLow .spliceStation (i.val + 1))) ∧
         (∀ r, x.activeReel = some r → r.remaining = 0 →
           u.noticed .reelOut .spliceStation (i.val + 1) ∧
           ∃ v : State, v.spc = (idle none).spc ∧ v.spliceEntryOk ∧
             v.lsv = { s.lsv with ceiling := { s.lsv.ceiling with splice := v.lsv.ceiling.splice } } ∧ s.keepsBut v [.spc, .lsv] ∧
             ∀ b : Block, b ≠ .lnk → (v.stopCause .reelOut (some ⟨.spliceStation, i.val + 1⟩)).sameBlock u b)))

/-- ForceSplice and SpliceVerdict (R67, R68, R70, R72, R75, R76). A forced station enters MATCHING with its force flag set, or fires when it is
MATCHED or its speed-match terminal is already active. TOOK swaps the arms, the new reel less the web run since the fire position, and
leaves the station IDLE; FAILED leaves it BLOCKED with its arms and the old reel; a reel that stands at 0 then is out. The SPLICE entry is
evaluated as the station enters its new state, the hold cause goes with the last SUSPECT station, and nothing else changes but what the
removal of the hold cause and the stop of a reel that is out then do (StopAndHoldCauses). SPLICE_BLOCKED carries its reason (R175). What the
records hold of an arm that is OUT is log 41, the model's choice. -/
def Obligations.ForceAndVerdict : Prop :=
  ∀ (s : State) (tag : Nat) (i : SpliceId), s.serves →
    let x := s.splice i
    let pos := (s.counter (spliceCounter i)).pos
    let entryEvaluated (u : State) : Prop :=
      u.spliceEntryOk ∧ u.lsv = { s.lsv with ceiling := { s.lsv.ceiling with splice := u.lsv.ceiling.splice } }
    (let c : Instr := .forceSplice tag (i.val + 1)
     let may : Prop := (s.lsv.line = .run ∨ s.lsv.line = .hold) ∧ s.spliceInUse i = true ∧ x.activeReel.isSome = true ∧
       (x.phase = .standby ∨ x.phase = .blocked ∨ x.phase = .matched)
     (¬may → s.answers c tag 0x43 3) ∧
     (may → ∀ (g : SpliceSettings) (r : Reel), x.settings = some g → x.activeReel = some r → 0 < r.remaining →
       (x.phase ≠ .matched → x.speedMatch = false →
         ∃ u : State, exec c s = .next (u.replied tag 0x43 [0#8, 2#8]) ∧
           u.splice i = { x with phase := .matching, accelerate := true, force := true } ∧
           (∀ j : SpliceId, j ≠ i → u.splice j = s.splice j) ∧ entryEvaluated u ∧ s.keepsBut u [.spc, .lsv]) ∧
       (x.phase = .matched ∨ x.speedMatch = true →
         ∃ u : State, exec c s = .next (u.replied tag 0x43 [0#8, 4#8]) ∧
           u.splice i =
             { x with
               phase := .confirming, accelerate := false, pulse := true, firePos := some pos, windowEnd := some (pos + g.window)
               force := false } ∧
           (∀ j : SpliceId, j ≠ i → u.splice j = s.splice j) ∧ u.lcu.joints[i] =
             { s.lcu.joints[i] with armed := true } ∧ entryEvaluated u ∧ s.keepsBut u [.lcu, .spc, .lsv]))) ∧
    (∀ result : Nat,
      let c : Instr := .spliceVerdict tag (i.val + 1) result
      let fire := x.firePos.getD 0
      let joint : JointRecord :=
        { position := fire + (x.settings.map (·.path)).getD 0, before := 4 * s.spc.jb, after := 4 * s.spc.ja, suspect := true }
      let record (o : SpliceOutcome) : LastSplice :=
        { outcome := o, oldTag := x.activeReel.map (·.tag), oldPaper := x.activeReel.map (·.paper)
          stub := (x.activeReel.map (·.remaining)).getD 0, newTag := x.standbyReel.map (·.tag), joint := some joint }
      let alone : Prop := ∀ j : SpliceId, j ≠ i → (s.splice j).phase ≠ .suspect
      let out (u : State) : Prop :=
        (u.splice i).activeReel = none ∧ u.stopTaken .reelOut .spliceStation (i.val + 1) ∧ u.noticed .reelOut .spliceStation (i.val + 1)
      let entered (u v : State) : Prop :=
        v.spc = { s.spc with stations := s.spc.stations.set i.val (u.splice i) i.isLt } ∧ entryEvaluated v ∧ s.keepsBut v [.spc, .lsv]
      let follows (u : State) (atZero : Bool) : Prop :=
        u.spliceEntryOk ∧ (atZero = false → s.keepsBut u [.lcu, .spc, .lsv]) ∧
        ∃ v : State, entered u v ∧
          let stopped (w : State) : State := if atZero then w.stopCause .reelOut (some ⟨.spliceStation, i.val + 1⟩) else w
          (alone → ∀ b : Block, b ≠ .lnk → (stopped (v.removeHold .spliceSuspect)).sameBlock u b) ∧
          (¬alone → ∀ b : Block, b ≠ .lnk → (stopped v).sameBlock u b)
      (s.spliceInUse i = false ∨ x.phase ≠ .suspect → s.answers c tag 0x44 3) ∧
      (s.spliceInUse i = true → x.phase = .suspect → 1 < result → s.answers c tag 0x44 4) ∧
      (s.spliceInUse i = true → x.phase = .suspect → result = 0 →
        ∃ (u : State) (p : List Byte), exec c s = .next (u.replied tag 0x44 p) ∧ p.head? = some 0#8 ∧
          u.splice i =
            { x with
              phase := .idle, activeArm := x.activeArm.other, activeReel := (u.splice i).activeReel, standbyReel := none
              taken := min (x.taken + 1) 65535, lastSplice := some (record .took) } ∧
          (x.standbyReel = none → (u.splice i).activeReel = none) ∧
          (∀ q, x.standbyReel = some q →
            let left := q.loadLength * 10000 - (pos - fire)
            (left = 0 → out u) ∧
            (0 < left →
              ∃ w, (u.splice i).activeReel = some { q with remaining := left, lowReported := w } ∧
                (w = true ↔ q.lowReported = true ∨ ∃ g, x.settings = some g ∧ 0 < g.reelLow ∧ left ≤ g.reelLow) ∧
                (w = true → q.lowReported = false → u.noticed .reelLow .spliceStation (i.val + 1)))) ∧
          (alone → u.lsv.holds.spliceSuspect = false) ∧
          (¬alone → u.lsv.holds.spliceSuspect = s.lsv.holds.spliceSuspect) ∧
          u.noticed .spliceDone .spliceStation (i.val + 1) ∧
          follows u (decide ((x.standbyReel.map fun q => q.loadLength * 10000 - (pos - fire)) = some 0)) ∧
          s.keepsBut u [.lcu, .map, .spc, .bnd, .lsv]) ∧
      (s.spliceInUse i = true → x.phase = .suspect → result = 1 →
        ∃ (u : State) (p : List Byte), exec c s = .next (u.replied tag 0x44 p) ∧ p.head? = some 0#8 ∧
          u.splice i =
            { x with
              phase := .blocked, activeReel := (u.splice i).activeReel, failed := min (x.failed + 1) 65535
              lastSplice := some (record .failed) } ∧
          (x.activeReel = none → (u.splice i).activeReel = none) ∧
          (∀ r, x.activeReel = some r → (0 < r.remaining → (u.splice i).activeReel = some r) ∧ (r.remaining = 0 → out u)) ∧
          (alone → u.lsv.holds.spliceSuspect = false) ∧
          (¬alone → u.lsv.holds.spliceSuspect = s.lsv.holds.spliceSuspect) ∧
          u.noticedWith .spliceBlocked .spliceStation (i.val + 1) (natBytes 1 1) ∧
          follows u (decide (x.activeReel.map (·.remaining) = some 0)) ∧
          s.keepsBut u [.lcu, .map, .spc, .bnd, .lsv]))

/-! ### Hot plates, glue and the grade table -/

/-- A temperature reading (R84 to R86, R88, R89): its kind, the setpoint of the grade at the lookup position, the state it chooses, the cause
set, the stale count, the demand, the span with its mark in the web map, and the BOND claim. That a reading above 350.0 °C is taken as
invalid, that an absent reading keeps the demand, that a disabled zone records its reading alone, and that the entry to FAULT from OFF with
OUTPUT already in the cause set is noticed, is log 35, the model's choice. -/
def Obligations.ZoneReadings : Prop :=
  (∀ (s : State) (n : ZoneId) (c : ZoneSettings), (s.zone n).settings = some c →
    let z := s.zone n
    let p := s.linePos + s.bnd.heatLead - c.dIn
    (s.lsv.line = .park → s.chooseSetpoint n = (s.bnd.standby, 0)) ∧
    (s.lsv.line ≠ .park → s.gradeLookup p = .none → s.chooseSetpoint n = (s.bnd.standby, 0)) ∧
    (s.gradeLookup p = .none → z.enabled = true → z.state = .low ∨ z.state = .fault → s.bondClaim n = some 0) ∧
    (∀ (i : Fin 32) (g : Grade), s.gradeLookup p = .grade i.val ∨ s.gradeLookup p = .changeZone i.val → s.bnd.grades[i] = some g →
      (s.lsv.line ≠ .park → s.chooseSetpoint n = (g.setpoint, g.feedForward)) ∧
      (z.enabled = true → z.state = .low ∨ z.state = .fault → s.bondClaim n = some g.lowHeat)) ∧
    (z.enabled = false ∨ (z.state ≠ .low ∧ z.state ≠ .fault) → s.bondClaim n = none)) ∧
  ∀ (s : State) (n : ZoneId) (r : Reading), s.held = false →
    let z := s.zone n
    let kept : Reading := match r with
      | .valid t => if t ≤ 3500 then .valid t else .invalid
      | other => other
    (z.enabled = false →
      exec (.temperatureReading n r) s =
        .next { s with bnd := { s.bnd with zones := s.bnd.zones.set n.val { z with latest := kept } n.isLt } }.beginFrame) ∧
    (z.enabled = true → ∀ c : ZoneSettings, z.settings = some c →
      let sp := (s.chooseSetpoint n).1
      let ff := (s.chooseSetpoint n).2
      ∃ u : State, exec (.temperatureReading n r) s = .next u.beginFrame ∧
        let w := u.zone n
        w.latest = kept ∧ w.setpoint = sp ∧ w.feedForward = ff ∧ w.settings = z.settings ∧ w.enabled = true ∧ w.output = z.output ∧
        (∀ t, kept = .valid t →
          w.stale = 0 ∧ w.sensor = false ∧
          w.state =
            (if z.state = .off ∨ z.state = .fault then
              (if z.output = true then .fault else if sp + 20 ≤ t + c.band then .inBand else .low)
            else if z.state = .low then (if sp + 20 ≤ t + c.band then .inBand else .low)
            else (if t + c.band < sp then .low else .inBand)) ∧
          (w.state = .low ∨ w.state = .inBand → w.demand = min 1000 (ff * s.lcu.measured / 40 + c.gain * sp - c.gain * t))) ∧
        (kept = .invalid → w.stale = 0 ∧ w.sensor = true ∧ w.state = .fault) ∧
        (kept = .absent →
          w.stale = min (z.stale + 1) 10 ∧
          (w.stale = 10 → w.sensor = true ∧ w.state = .fault) ∧ (w.stale < 10 → w.sensor = z.sensor ∧ w.state = z.state) ∧
          (w.state = .low ∨ w.state = .inBand → w.demand = z.demand)) ∧
        (w.state = .off ∨ w.state = .fault → w.demand = 0) ∧
        (w.state = z.state → w.span = z.span) ∧
        (w.state ≠ z.state → w.state = .low ∨ w.state = .fault → w.span = some (z.span.getD (s.linePos - c.dOut))) ∧
        (w.state ≠ z.state → w.state = .inBand → w.span = none) ∧
        (z.span.isSome = w.span.isSome → u.map = s.map) ∧
        (z.span = none → w.span ≠ none → u.map = (s.openSpan (.zone n) (s.linePos - c.dOut)).map) ∧
        (z.span ≠ none → w.span = none → u.map = (s.closeSpan (.zone n) (s.linePos - c.dIn)).map) ∧
        (w.state = .fault → z.state ≠ .fault → ∃ e ∈ u.lnk.notices, e.kind = .zoneFault ∧ e.subject = ⟨.heatZone, n.val + 1⟩) ∧
        (∀ m : ZoneId, (u.zone m).claim = u.bondClaim m) ∧
        (∀ (m : ZoneId) (v : Nat), (u.zone m).claim = some v → ∃ b, u.lsv.ceiling.bond = some b ∧ b ≤ v) ∧
        (∀ b, u.lsv.ceiling.bond = some b → ∃ m : ZoneId, (u.zone m).claim = some b) ∧
        (∀ m : ZoneId, m ≠ n → u.zone m = { s.zone m with claim := (u.zone m).claim }) ∧
        u.bnd.glues = s.bnd.glues ∧ u.bnd.grades = s.bnd.grades ∧ s.keepsBut u [.map, .bnd, .lsv])

/-- A gap reading of a set glue station, the evaluation of its target, and the end of its move timer (R91 to R95, R97). The target is that of
the grade at the lookup position, and a new one is judged against the latest valid reading. A reading takes the tolerance, move limit and
stop mode as they are set, evaluates the target, and is judged against it: no move, a move begun, an arrival with the pair left as the stop
mode says, the span closed and the keep-wet counter loaded during a stop, or a drive toward the target. An invalid reading, a tenth reading
missed and a move limit are faults. The model's choice: that an invalid reading clears the stale count is log 20, that an expiry outside
MOVING does nothing log 30, that an OFF station records no reading and a value above 5,000 is invalid log 35, and what a move follows until
the reading log 42. -/
def Obligations.GapReadings : Prop :=
  (∀ (s : State) (k : GlueId) (c : GlueSettings), (s.glue k).settings = some c →
    let g := s.glue k
    let p := s.gluePoint k + s.bnd.glueLead
    let new := s.chooseTarget k c
    (k = 3 → s.gluePoint k = s.linePos) ∧ (∀ w : WebId, k.val = w.val → s.gluePoint k = s.linePos + (s.bridge w).content) ∧
    (s.lsv.line = .park → new = c.parkGap) ∧
    (s.lsv.line ≠ .park → ∀ (i : Fin 32) (e : Grade), s.bnd.grades[i] = some e →
      (s.gradeLookup p = .grade i.val ∨ s.gradeLookup p = .changeZone i.val → new = e.gaps[k]) ∧
      (s.gradeLookup p = .none → ∀ o, s.stagedOrder = some o → o.grade = i.val → new = e.gaps[k])) ∧
    (s.lsv.line ≠ .park → s.gradeLookup p = .none → s.stagedOrder = none → new = g.target) ∧
    (let t := s.evalGlue k
     (g.state = .off ∨ new = g.target → t = s) ∧
     (g.state ≠ .off → new ≠ g.target →
       (∀ j : GlueId, j ≠ k → t.glue j = s.glue j) ∧ t.bnd.zones = s.bnd.zones ∧ s.keepsBut t [.map, .bnd] ∧
       (g.span = none ∨ (t.glue k).span ≠ none → t.map = s.map) ∧
       (g.span ≠ none → (t.glue k).span = none → t.map = (s.closeSpan (.glue k) (s.gluePoint k)).map) ∧
       (g.state = .fault ∨ g.lastValid = none → t.glue k = { g with target := new }) ∧
       (∀ v, g.lastValid = some v → g.state ≠ .fault → ¬(v ≤ new + g.rules.tolerance ∧ new ≤ v + g.rules.tolerance) →
         t.glue k =
           { g with
             target := new, state := .moving, keepWet := if g.state = .moving then g.keepWet else none
             levelA := if v < new then .high else .low, levelB := if v < new then .low else .high }) ∧
       (∀ v, g.lastValid = some v → v ≤ new + g.rules.tolerance → new ≤ v + g.rules.tolerance →
         let rest : GlueState := if new = c.parkGap then .lifted else .inPosition
         let wet := if s.countsStopped then some c.interval else none
         let left : Level := if g.rules.stopMode = .brake then .low else .off
         (g.state = .moving →
           t.glue k = { g with target := new, state := rest, keepWet := wet, levelA := left, levelB := left, span := none }) ∧
         (g.state = .inPosition ∨ g.state = .lifted →
           t.glue k = { g with target := new, state := rest, keepWet := if g.state = rest then g.keepWet else wet }))))) ∧
  ∀ (s : State) (k : GlueId) (r : Reading), s.held = false →
    let g := s.glue k
    (g.state = .off → exec (.gapReading k r) s = .next s.beginFrame) ∧
    (g.state ≠ .moving → exec (.moveTimerExpiry k) s = .next s.beginFrame) ∧
    (∀ c : GlueSettings, g.settings = some c →
      let faulted (u : State) (x : GlueStation) (timeout sensor : Bool) : Prop :=
        u.glue k =
          { x with
            timeout := x.timeout || timeout, sensor := x.sensor || sensor, state := .fault, levelA := .off, levelB := .off
            keepWet := none, span := some (x.span.getD (s.gluePoint k)) } ∧
        u.noticed .glueFault .glueStation (k.val + 1)
      (g.state = .moving →
        ∃ u : State, exec (.moveTimerExpiry k) s = .next u.beginFrame ∧ faulted u g true false ∧
          (u.map = if g.span = none then (s.openSpan (.glue k) (s.gluePoint k)).map else s.map) ∧
          (∀ j : GlueId, j ≠ k → u.glue j = s.glue j) ∧ s.keepsBut u [.map, .bnd]) ∧
      (g.state ≠ .off →
        let ruled : State :=
          { s with bnd := { s.bnd with
            glues := s.bnd.glues.set k.val { g with rules := ⟨c.tolerance, c.moveLimit, c.stopMode⟩ } k.isLt } }
        let evaluated := ruled.evalGlue k
        let x := evaluated.glue k
        ∃ u : State, exec (.gapReading k r) s = .next u.beginFrame ∧ (∀ j : GlueId, j ≠ k → u.glue j = s.glue j) ∧
          (x.span.isSome = (u.glue k).span.isSome → u.map = evaluated.map) ∧
          (x.span = none → (u.glue k).span ≠ none → u.map = (evaluated.openSpan (.glue k) (s.gluePoint k)).map) ∧
          (x.span ≠ none → (u.glue k).span = none → u.map = (evaluated.closeSpan (.glue k) (s.gluePoint k)).map) ∧
          u.bnd.zones = s.bnd.zones ∧ s.keepsBut u [.map, .bnd] ∧
          (∀ v, r = .valid v → v ≤ 5000 →
            let fits : Prop := v ≤ x.target + c.tolerance ∧ x.target ≤ v + c.tolerance
            let rest : GlueState := if x.target = c.parkGap then .lifted else .inPosition
            let wet := if s.countsStopped then some c.interval else none
            let left : Level := if c.stopMode = .brake then .low else .off
            let x' := { x with latest := r, stale := 0, lastValid := some v }
            let w := u.glue k
            (x.state = .fault → w = x') ∧
            (x.state = .moving → fits →
              w = { x' with state := rest, keepWet := wet, levelA := left, levelB := left, span := none }) ∧
            (x.state = .inPosition ∨ x.state = .lifted → fits →
              w = { x' with state := rest, keepWet := if x.state = rest then x.keepWet else wet }) ∧
            (x.state ≠ .fault → ¬fits →
              w = { x' with
                state := .moving, keepWet := if x.state = .moving then x.keepWet else none
                levelA := if v < x.target then .high else .low, levelB := if v < x.target then .low else .high })) ∧
          (r = .invalid ∨ (∃ v, r = .valid v ∧ 5000 < v) →
            let x' := { x with latest := .invalid, stale := 0 }
            (x.state = .fault → u.glue k = { x' with sensor := true }) ∧ (x.state ≠ .fault → faulted u x' false true)) ∧
          (r = .absent →
            let m := min (x.stale + 1) 10
            let x' := { x with latest := .absent, stale := m }
            (m < 10 → u.glue k = x') ∧
            (m = 10 → x.state = .fault → u.glue k = { x' with sensor := true }) ∧
            (m = 10 → x.state ≠ .fault → faulted u x' false true))))

/-- Keep-wet, and the bond controller at a LINE advance (R84, R92, R97, R98). A keep-wet second takes 1 from every running counter, and at 0
it is loaded again and starts a turn, whose timer runs the turn as it is then set. A LINE advance ends the stop, which clears the zero-speed
count and every counter, and evaluates the setpoint of every zone and the target of every glue station (what a new target does is stated in
GapReadings; an unset zone keeps its setpoint outside PARK by log 21, the model's choice). -/
def Obligations.KeepWet : Prop :=
  (∀ s : State,
    let t := s.bondLineAdvance
    let ended : State :=
      if s.bnd.zeroSpeed = 10 then
        { s with bnd := { s.bnd with zeroSpeed := 0, glues := s.bnd.glues.map fun g => { g with keepWet := none } } }
      else s
    t.bnd = { s.bnd with zones := t.bnd.zones, glues := t.bnd.glues, zeroSpeed := ended.bnd.zeroSpeed } ∧
    (∀ n : ZoneId, (s.zone n).settings ≠ none ∨ s.lsv.line = .park →
      t.zone n = { s.zone n with setpoint := (s.chooseSetpoint n).1, feedForward := (s.chooseSetpoint n).2 }) ∧
    (∀ n : ZoneId, (s.zone n).settings = none → s.lsv.line ≠ .park → t.zone n = s.zone n) ∧
    (∀ k : GlueId,
      t.glue k = (ended.evalGlue k).glue k ∧
      (∀ c : GlueSettings, (s.glue k).settings = some c → (s.glue k).state ≠ .off → (t.glue k).target = s.chooseTarget k c) ∧
      ((s.glue k).state = .off ∨ (s.glue k).settings = none → t.glue k = ended.glue k) ∧
      (s.bnd.zeroSpeed = 10 → (t.glue k).keepWet = none)) ∧
    s.keepsBut t [.map, .bnd]) ∧
  ∀ s : State, s.held = false →
    (∃ u : State, exec .keepWetSecond s = .next u.beginFrame ∧ u = { s with bnd := { s.bnd with glues := u.bnd.glues } } ∧
      ∀ k : GlueId,
        let g := s.glue k
        (g.keepWet = none → u.glue k = g) ∧
        (∀ m, g.keepWet = some m → 1 < m → u.glue k = { g with keepWet := some (m - 1) }) ∧
        (∀ m c, g.keepWet = some m → m ≤ 1 → g.settings = some c →
          u.glue k = { g with keepWet := some c.interval, rollRun := true, turnTime := c.turn })) ∧
    ∀ k : GlueId,
      let g := s.glue k
      exec (.turnTimerExpiry k) s =
        .next { s with bnd := { s.bnd with glues := s.bnd.glues.set k.val { g with rollRun := false } k.isLt } }.beginFrame

/-- SetGrade (R80): refused RANGE, STATE while an order names the grade, RANGE for a field; otherwise the whole entry is replaced, or made
undefined. Accepted in every line state. -/
def Obligations.SetGrade : Prop :=
  ∀ (s : State) (tag : Nat) (a : GradeArgs), s.serves →
    let c : Instr := .setGrade tag a
    let named : Prop := ∃ o ∈ s.obk.orders, o.grade = a.number
    let gapOk (k : GlueId) (v : Nat) : Prop := (50 ≤ v ∧ v ≤ 600) ∨ (s.glueInUse k = false ∧ v = 0)
    let fits : Prop := (1 ≤ a.walls ∧ a.walls ≤ 3) ∧ a.flute ≤ 255 ∧ (1200 ≤ a.setpoint ∧ a.setpoint ≤ 2000) ∧ a.feedForward ≤ 100 ∧
      (5 ≤ a.lowHeat ∧ a.lowHeat ≤ a.limit) ∧ (5 ≤ a.limit ∧ a.limit ≤ 400) ∧ gapOk 0 a.gap1 ∧ gapOk 1 a.gap2 ∧ gapOk 2 a.gap3 ∧
      gapOk 3 a.gap4
    (32 ≤ a.number → s.answers c tag 0x50 4) ∧
    ∀ i : Fin 32, a.number = i.val →
      (named → s.answers c tag 0x50 3) ∧
      (¬named → 1 < a.defined → s.answers c tag 0x50 4) ∧
      (¬named → a.defined = 1 → ¬fits → s.answers c tag 0x50 4) ∧
      (¬named → a.defined = 1 → fits →
        let g : Grade :=
          { walls := a.walls, flute := a.flute, setpoint := a.setpoint, feedForward := a.feedForward, lowHeat := a.lowHeat
            limit := a.limit, gaps := #v[a.gap1, a.gap2, a.gap3, a.gap4] }
        exec c s =
          .next (({ s with bnd := { s.bnd with grades := s.bnd.grades.set i.val (some g) i.isLt } } : State).replied tag 0x50
            (0#8 :: gradeBytes (some g)))) ∧
      (¬named → a.defined = 0 →
        exec c s =
          .next (({ s with bnd := { s.bnd with grades := s.bnd.grades.set i.val none i.isLt } } : State).replied tag 0x50 [0#8, 0#8]))

/-- SetZone, SetZoneEnable and SetBondCommon (R82, R83): refused STATE and RANGE without effect; a zone's settings are taken together, with
the reports that the change of ownership makes (R103, R109; their order is log 19); an enabled zone that is disabled is OFF with demand 0,
no claim and no span, its mark in the web map closed (R24, R88), the BOND entry evaluated without it (R89), and keeps its stale count
(log 35, the model's choice); the three common settings are taken together. The channels TC1 to TC12 are coded 1 to 12, by their numbers
(log 12, the model's reading of R172). -/
def Obligations.BondSettings : Prop :=
  ∀ (s : State) (tag : Nat), s.serves →
    let stands : Prop := s.lsv.line = .setup ∨ s.lsv.line = .ready ∨ s.lsv.line = .park
    (∀ (n : ZoneId) (a : ZoneArgs), a.zone = n.val + 1 →
      let c : Instr := .setZone tag a
      let fits : Prop := a.dIn ≤ 119999 ∧ a.dOut ≤ 119999 ∧ a.dIn < a.dOut ∧ (1 ≤ a.channel ∧ a.channel ≤ 12) ∧
        (10 ≤ a.band ∧ a.band ≤ 300) ∧ a.gain ≤ 20
      (s.lsv.line ≠ .setup → s.answers c tag 0x52 3) ∧
      (s.lsv.line = .setup → (s.zone n).enabled = true → s.answers c tag 0x52 3) ∧
      (s.lsv.line = .setup → (s.zone n).enabled = false → ¬fits ∨ a.output < 1 ∨ 16 < a.output → s.answers c tag 0x52 4) ∧
      (s.lsv.line = .setup → (s.zone n).enabled = false → fits → ∀ o : OutputId, a.output = o.val + 1 →
        ∃ u : State, exec c s = .next (u.replied tag 0x52 [0#8]) ∧
          (let settings : ZoneSettings :=
             { dIn := a.dIn * 10, dOut := a.dOut * 10, output := o, channel := a.channel, band := a.band, gain := a.gain }
           (u.zone n).settings = some settings ∧
           OwnersTold s
             { s with bnd := { s.bnd with zones := s.bnd.zones.set n.val { s.zone n with settings := some settings } n.isLt } } u) ∧
          (u.zone n).enabled = false ∧ (∀ m : ZoneId, m ≠ n → (u.zone m).settings = (s.zone m).settings) ∧
          u.bnd.grades = s.bnd.grades ∧ s.keepsBut u [.map, .bnd, .lsv])) ∧
    (∀ (n : ZoneId) (enable : Nat),
      let c : Instr := .setZoneEnable tag (n.val + 1) enable
      let z := s.zone n
      (¬stands → s.answers c tag 0x53 3) ∧
      (stands → enable = 1 → z.settings = none → s.answers c tag 0x53 3) ∧
      (stands → 1 < enable → s.answers c tag 0x53 4) ∧
      (stands → enable = 1 → z.settings ≠ none → z.enabled = false →
        ∃ p, exec c s =
            .next (({ s with bnd := { s.bnd with zones := s.bnd.zones.set n.val { z with enabled := true } n.isLt } } : State).replied
              tag 0x53 p) ∧ p.head? = some 0#8) ∧
      (stands → enable = 0 → z.enabled = true → z.state = .off →
        ∃ p, exec c s =
            .next (({ s with bnd := { s.bnd with zones := s.bnd.zones.set n.val { z with enabled := false } n.isLt } } : State).replied
              tag 0x53 p) ∧ p.head? = some 0#8) ∧
      (stands → enable = 0 → z.enabled = true → z.state ≠ .off →
        ∃ (u : State) (p : List Byte), exec c s = .next (u.replied tag 0x53 p) ∧ p.head? = some 0#8 ∧
          u.zone n = { z with enabled := false, state := .off, demand := 0, claim := none, span := none } ∧
          (u.map = if z.span = none then s.map else (s.closeSpan (.zone n) (s.linePos - s.zoneIn n)).map) ∧
          (∀ m : ZoneId, m ≠ n → u.zone m = { s.zone m with claim := (u.zone m).claim }) ∧ u.bnd.glues = s.bnd.glues ∧
          u.bondEntryOk ∧ (∀ m : ZoneId, (u.zone m).claim = u.bondClaim m) ∧
          u.lsv = { s.lsv with ceiling := { s.lsv.ceiling with bond := u.lsv.ceiling.bond } } ∧
          s.keepsBut u [.map, .bnd, .lsv]) ∧
      (stands → (enable = 1 ∧ z.settings ≠ none ∧ z.enabled = true) ∨ (enable = 0 ∧ z.enabled = false) → s.answers c tag 0x53 0)) ∧
    (∀ heatLead glueLead standby : Nat,
      let c : Instr := .setBondCommon tag heatLead glueLead standby
      let fits : Prop := heatLead ≤ 50 ∧ glueLead ≤ 20 ∧ 600 ≤ standby ∧ standby ≤ 2000
      (¬stands → s.answers c tag 0x54 3) ∧
      (stands → ¬fits → s.answers c tag 0x54 4) ∧
      (stands → fits →
        exec c s =
          .next (({ s with bnd := { s.bnd with
            heatLead := heatLead * 10000, glueLead := glueLead * 10000, standby := standby } } : State).replied tag 0x54 [0#8])))

/-- SetGlue (R91): refused STATE and RANGE without effect; the settings are taken together, a station in OFF takes up at the park gap,
MOVING with both outputs OFF, and a station already set keeps its state and, until its next reading, the rules its moves follow. While no
output is faulted nothing else changes; otherwise the owners of outputs take the fault and clear reports that the change of ownership makes
(R103, R109; their order and the sides of a pair are log 19, the readings of a station that takes up log 20, the rules of a move log 42: the
model's choice). The channels GC1 to GC4 and the terminals RR1 to RR4 are coded 1 to 4, by their numbers (log 12, the model's reading of
R172). -/
def Obligations.SetGlue : Prop :=
  ∀ (s : State) (tag : Nat) (k : GlueId) (a : GlueArgs), s.serves → a.station = k.val + 1 →
    let c : Instr := .setGlue tag a
    let g := s.glue k
    let fits : Prop := (1 ≤ a.channel ∧ a.channel ≤ 4) ∧ (1 ≤ a.rollRun ∧ a.rollRun ≤ 4) ∧ (5 ≤ a.tolerance ∧ a.tolerance ≤ 50) ∧
      (2 ≤ a.moveLimit ∧ a.moveLimit ≤ 60) ∧ a.stopMode ≤ 1 ∧ (10 ≤ a.interval ∧ a.interval ≤ 600) ∧
      (1 ≤ a.turn ∧ a.turn ≤ 30 ∧ a.turn < a.interval) ∧ (700 ≤ a.parkGap ∧ a.parkGap ≤ 3000) ∧ a.outA ≠ a.outB
    let outs : Prop := (1 ≤ a.outA ∧ a.outA ≤ 16) ∧ (1 ≤ a.outB ∧ a.outB ≤ 16)
    (s.lsv.line ≠ .setup → s.answers c tag 0x55 3) ∧
    (s.lsv.line = .setup → s.glueInUse k = false → s.answers c tag 0x55 3) ∧
    (s.lsv.line = .setup → s.glueInUse k = true → ¬fits ∨ ¬outs → s.answers c tag 0x55 4) ∧
    (s.lsv.line = .setup → s.glueInUse k = true → fits → ∀ x y : OutputId, a.outA = x.val + 1 → a.outB = y.val + 1 →
      let settings : GlueSettings :=
        { outA := x, outB := y, channel := a.channel, rollRun := a.rollRun, tolerance := a.tolerance, moveLimit := a.moveLimit
          stopMode := if a.stopMode = 0 then .brake else .coast, interval := a.interval, turn := a.turn, parkGap := a.parkGap }
      let taken : GlueStation :=
        if g.state = .off then
          { g with
            settings := some settings, rules := ⟨settings.tolerance, settings.moveLimit, settings.stopMode⟩, state := .moving
            target := a.parkGap, lastValid := none, stale := 0, levelA := .off, levelB := .off, keepWet := none }
        else { g with settings := some settings }
      ((∀ o : OutputId, s.faulted o = false) →
        exec c s =
          .next (({ s with bnd := { s.bnd with glues := s.bnd.glues.set k.val taken k.isLt } } : State).replied tag 0x55 [0#8])) ∧
      ∃ u : State, exec c s = .next (u.replied tag 0x55 [0#8]) ∧
        OwnersTold s { s with bnd := { s.bnd with glues := s.bnd.glues.set k.val taken k.isLt } } u ∧
        (u.glue k).settings = some settings ∧ (u.glue k).target = taken.target ∧
        (∀ j : GlueId, j ≠ k → (u.glue j).settings = (s.glue j).settings ∧ (u.glue j).target = (s.glue j).target) ∧
        s.keepsBut u [.map, .bnd, .lsv])

/-! ### Drive outputs and fault inputs -/

/-- The condition of an output (R104): TRIPPED by its latch, FORCED by a latched fault input whose mask contains it, the supply-range
shutdown or the thermal latch, DRIVING when it is OWNED and commanded, and IDLE otherwise. -/
def Obligations.OutputConditions : Prop :=
  ∀ (s : State) (o : OutputId),
    let x := s.output o
    let forcing : Prop := (∃ i : InputId, (s.input i).latched = true ∧ (s.input i).mask.getLsbD o.val = true) ∨
      s.dst.supply ≠ .normal ∨ s.dst.thermal = true
    let commanded : Prop := s.ownerStatus o = .owned ∧
      ((x.mode = .pwm ∧ 0 < s.demandOf o) ∨ (x.mode = .continuous ∧ s.levelOf o ≠ .off))
    (s.condition o = .tripped ↔ x.trip = true) ∧
    (s.condition o = .forced ↔ x.trip = false ∧ forcing) ∧
    (s.condition o = .driving ↔ x.trip = false ∧ ¬forcing ∧ commanded) ∧
    (s.condition o = .idle ↔ x.trip = false ∧ ¬forcing ∧ ¬commanded)

/-- Over-current, open-load and passive-test events (R87, R94, R95, R106 to R109): an over-current on a DRIVING output trips it, an open load
on a DRIVING output and an OPEN answer of a checked IDLE output set its flag, each with DRIVE_FAULT, and the owner of an output that was
free of faults is told: an enabled zone is in FAULT with demand 0, and a glue station that is not OFF has OUTPUT in its cause set and is
in FAULT with both outputs OFF and GLUE_FAULT noticed, each with its BOND_RISK span opened in the web map. Any other event moves the
senses alone. The model's choice: what the events carry, and that an over-current or open-load event is judged each time, is log 7; that
the outputs of a passive-test second are all judged as they stand when it comes is log 45. -/
def Obligations.DriveFaultEvents : Prop :=
  ∀ s : State, s.held = false →
    let told (u : State) : Prop := OwnersTold s { s with dst := u.dst } u
    (∀ (o : OutputId) (b : Bool),
      let x := s.output o
      let put (y : Output) : State := { s with dst := { s.dst with outputs := s.dst.outputs.set o.val y o.isLt } }
      (b = false ∨ s.condition o ≠ .driving →
        exec (.overcurrentEvent o b) s = .next (put { x with overCurrent := b }).beginFrame) ∧
      (b = true → s.condition o = .driving →
        ∃ u : State, exec (.overcurrentEvent o b) s = .next u.beginFrame ∧
          u.dst = (put { x with overCurrent := true, trip := true, tripCount := min (x.tripCount + 1) 255 }).dst ∧
          u.condition o = .tripped ∧ told u ∧ (∃ e ∈ u.lnk.notices, e.kind = .driveFault ∧ e.subject = ⟨.driveOutput, o.val + 1⟩) ∧
          s.keepsBut u [.map, .bnd, .dst, .lsv]) ∧
      (b = false ∨ s.condition o ≠ .driving ∨ x.openLoad = true →
        exec (.openLoadEvent o b) s = .next (put { x with openSense := b }).beginFrame) ∧
      (b = true → s.condition o = .driving → x.openLoad = false →
        ∃ u : State, exec (.openLoadEvent o b) s = .next u.beginFrame ∧
          u.dst = (put { x with openSense := true, openLoad := true }).dst ∧ told u ∧
          (∃ e ∈ u.lnk.notices, e.kind = .driveFault ∧ e.subject = ⟨.driveOutput, o.val + 1⟩) ∧
          s.keepsBut u [.map, .bnd, .dst, .lsv])) ∧
    ∀ opens : BitVec 16,
      let found (o : OutputId) : Bool := opens.getLsbD o.val && decide (s.condition o = .idle) && decide ((s.output o).mode ≠ .off) &&
        (s.output o).passive && !(s.output o).openLoad
      ∃ u : State, exec (.passiveTestSecond opens) s = .next u.beginFrame ∧
        (∀ o : OutputId, u.output o =
          { s.output o with openSense := opens.getLsbD o.val, openLoad := (s.output o).openLoad || found o }) ∧
        u.dst = { s.dst with outputs := u.dst.outputs } ∧
        told u ∧
        (∀ o : OutputId, found o = true →
          ∃ e ∈ u.lnk.notices, e.kind = .driveFault ∧ e.subject = ⟨.driveOutput, o.val + 1⟩) ∧
        s.keepsBut u [.map, .bnd, .dst, .lsv]

/-- Supply, thermal warning and thermal shutdown (R87, R94, R95, R105, R109 to R111): a supply out of range and the shutdown latch force
every output that is not TRIPPED, and the warning holds every duty at 600. Each is noticed; a latch already set is not set again. The
owners of the outputs that become faulted, or that no longer are, are told (R109). The model's choice: a supply event with the state held
already does nothing (log 7), and on the return to NORMAL the clear report of one output of a glue pair takes OUTPUT out while the other
is still faulted (log 19). -/
def Obligations.StageEvents : Prop :=
  ∀ s : State, s.held = false →
    let allForced (u : State) : Prop := ∀ o : OutputId, u.condition o = if (s.output o).trip = true then .tripped else .forced
    let noticed (u : State) : Prop := ∃ e ∈ u.lnk.notices, e.kind = .stageFault ∧ e.subject = ⟨.stage, 0⟩
    (exec (.supplyChange s.dst.supply) s = .next s.beginFrame) ∧
    (∀ v : Supply, v ≠ s.dst.supply →
      ∃ u : State, exec (.supplyChange v) s = .next u.beginFrame ∧ u.dst = { s.dst with supply := v } ∧
        (v ≠ .normal → allForced u ∧ noticed u) ∧ OwnersTold s { s with dst := u.dst } u ∧ s.keepsBut u [.map, .bnd, .dst, .lsv]) ∧
    (∀ present : Bool,
      ∃ u : State, exec (.thermalWarningChange present) s = .next u.beginFrame ∧ u.dst = { s.dst with warning := present } ∧
        (∀ g : GenId, u.demandedDuty g = s.demandedDuty g ∧
          u.duty g = if present = true then min (s.demandedDuty g) 600 else s.demandedDuty g) ∧
        (present = true → s.dst.warning = false → noticed u) ∧ s.keepsBut u [.dst]) ∧
    (s.dst.thermal = true → exec .thermalShutdown s = .next s.beginFrame) ∧
    (s.dst.thermal = false →
      ∃ u : State, exec .thermalShutdown s = .next u.beginFrame ∧ u.dst = { s.dst with thermal := true } ∧ allForced u ∧ noticed u ∧
        OwnersTold s { s with dst := u.dst } u ∧
        s.keepsBut u [.map, .bnd, .dst, .lsv])

/-- A change of a fault input's level (R109, R113, R114): going active with a clear record it latches, forces the masked outputs, whose
owners are told, takes its line action (what a hold or stop cause then does is stated in StopAndHoldCauses and LineChange) and is noticed;
with a latched record it is counted; going inactive changes the level alone. That an event with the level held already does nothing is
log 7, the model's choice. -/
def Obligations.FaultInputEvents : Prop :=
  ∀ (s : State) (i : InputId) (high : Bool), s.held = false →
    let f := s.input i
    let put (y : FaultInput) : State := { s with dst := { s.dst with inputs := s.dst.inputs.set i.val y i.isLt } }
    (high = f.level → exec (.faultInputChange i high) s = .next s.beginFrame) ∧
    (high ≠ f.level → high ≠ f.activeHigh → exec (.faultInputChange i high) s = .next (put { f with level := high }).beginFrame) ∧
    (high ≠ f.level → high = f.activeHigh → f.latched = true →
      exec (.faultInputChange i high) s = .next (put { f with level := high, count := min (f.count + 1) 255 }).beginFrame) ∧
    (high ≠ f.level → high = f.activeHigh → f.latched = false →
      ∃ u : State, exec (.faultInputChange i high) s = .next u.beginFrame ∧
        u.dst = (put { f with level := high, latched := true, position := s.linePos, count := min (f.count + 1) 255 }).dst ∧
        (∀ o : OutputId, f.mask.getLsbD o.val = true → u.condition o = if (s.output o).trip = true then .tripped else .forced) ∧
        (∃ told : State, OwnersTold s { s with dst := u.dst } told ∧
          let acted : State := match f.action with
            | .none => told
            | .hold => told.addHold .faultInput
            | .stop => told.stopCause .faultStop (some ⟨.faultInput, i.val + 1⟩)
            | .trip => told.stopCause .trip (some ⟨.faultInput, i.val + 1⟩)
          ∀ b : Block, b ≠ .lnk → acted.sameBlock u b) ∧
        (f.action = .none → u.lsv.line = s.lsv.line ∧ u.lsv.holds = s.lsv.holds ∧ u.lsv.stopRec = s.lsv.stopRec) ∧
        (f.action = .hold → u.lsv.holds.faultInput = true ∧
          (s.lsv.line = .run → s.lsv.holds.isEmpty = true → u.lsv.line = .hold)) ∧
        (f.action = .stop ∨ f.action = .trip →
          ∃ r, u.lsv.stopRec = some r ∧ r.latest = (if f.action = .trip then .trip else .faultStop) ∧
            r.latestDetail = some ⟨.faultInput, i.val + 1⟩) ∧
        (f.action = .trip → s.lsv.line ≠ .setup → u.lsv.line = .halted) ∧
        (∃ e ∈ u.lnk.notices, e.kind = .inputTrip ∧ e.subject = ⟨.faultInput, i.val + 1⟩) ∧
        s.sameButMonitor u ∧ s.keepsBut u [.lcu, .map, .spc, .bnd, .dst, .lsv, .lnk])

/-- SetOutput, SetGenerator and SetFaultInput (R102, R103, R109, R112, R113): accepted in SETUP alone, RANGE for a value outside its set,
taken together otherwise; a fault input is judged at once under its new active level. The owners that gain or lose a faulted output, or
whose output becomes faulted, are told (R109; the order of a clear and a fault report is log 19, the model's choice). The generators PG1 to
PG8 are coded 1 to 8, by their numbers, and the level of a fault input HIGH 0 and LOW 1 (log 12, the model's reading of R172). -/
def Obligations.DriveSettings : Prop :=
  ∀ (s : State) (tag : Nat), s.serves →
    (∀ (o : OutputId) (m : OutputMode) (generator : Nat) (passive : Bool),
      let c : Instr := .setOutput tag (o.val + 1) m.ctorIdx generator passive.toNat
      (s.lsv.line ≠ .setup → s.answers c tag 0x60 3) ∧
      (s.lsv.line = .setup → (m = .pwm ∧ (generator < 1 ∨ 8 < generator)) ∨ (m ≠ .pwm ∧ generator ≠ 255) → s.answers c tag 0x60 4) ∧
      (s.lsv.line = .setup → ∀ g : Option GenId,
        (∃ k : GenId, m = .pwm ∧ generator = k.val + 1 ∧ g = some k) ∨ (m ≠ .pwm ∧ generator = 255 ∧ g = none) →
        ∃ (u : State) (p : List Byte), exec c s = .next (u.replied tag 0x60 p) ∧ p.head? = some 0#8 ∧
          u.dst =
            { s.dst with
              outputs := s.dst.outputs.set o.val { s.output o with mode := m, generator := g, passive := passive } o.isLt } ∧
          OwnersTold s { s with dst := u.dst } u ∧
          s.keepsBut u [.map, .bnd, .dst, .lsv])) ∧
    (∀ (g : GenId) (frequency : Nat),
      let c : Instr := .setGenerator tag (g.val + 1) frequency
      (s.lsv.line ≠ .setup → s.answers c tag 0x61 3) ∧
      (s.lsv.line = .setup → frequency < 50 ∨ 2000 < frequency → s.answers c tag 0x61 4) ∧
      (s.lsv.line = .setup → 50 ≤ frequency → frequency ≤ 2000 →
        exec c s =
          .next (({ s with dst := { s.dst with genFreq := s.dst.genFreq.set g.val frequency g.isLt } } : State).replied tag 0x61
            [0#8]))) ∧
    (∀ (i : InputId) (level mask action : Nat),
      let c : Instr := .setFaultInput tag (i.val + 1) level mask action
      let f := s.input i
      (s.lsv.line ≠ .setup → s.answers c tag 0x62 3) ∧
      (s.lsv.line = .setup → f.latched = true → s.answers c tag 0x62 3) ∧
      (s.lsv.line = .setup → f.latched = false → 1 < level ∨ 65536 ≤ mask ∨ 3 < action → s.answers c tag 0x62 4) ∧
      (s.lsv.line = .setup → f.latched = false → level ≤ 1 → mask < 65536 → ∀ a : LineAction, a.ctorIdx = action →
        let taken : FaultInput := { f with activeHigh := decide (level = 0), mask := BitVec.ofNat 16 mask, action := a }
        (f.level ≠ decide (level = 0) →
          exec c s =
            .next (({ s with dst := { s.dst with inputs := s.dst.inputs.set i.val taken i.isLt } } : State).replied tag 0x62 [0#8])) ∧
        (f.level = decide (level = 0) →
          ∃ u : State, exec c s = .next (u.replied tag 0x62 [0#8]) ∧
            u.dst =
              { s.dst with
                inputs := s.dst.inputs.set i.val
                  { taken with latched := true, position := s.linePos, count := min (f.count + 1) 255 } i.isLt } ∧
            (∃ told : State, OwnersTold s { s with dst := u.dst } told ∧
              let acted : State := match a with
                | .none => told
                | .hold => told.addHold .faultInput
                | .stop => told.stopCause .faultStop (some ⟨.faultInput, i.val + 1⟩)
                | .trip => told.stopCause .trip (some ⟨.faultInput, i.val + 1⟩)
              ∀ b : Block, b ≠ .lnk → acted.sameBlock u b) ∧
            (∃ e ∈ u.lnk.notices, e.kind = .inputTrip ∧ e.subject = ⟨.faultInput, i.val + 1⟩) ∧
            s.keepsBut u [.map, .bnd, .dst, .lsv])))

/-- ClearDriveFaults (R87, R93 to R96, R109, R115): trips whose sense reads NORMAL, every open-load flag, the thermal latch without a
warning and the records of inactive inputs are cleared; FAULT_INPUT goes with the last HOLD record; the owners of outputs no longer faulted
are told; a glue station in FAULT loses TIMEOUT, SENSOR with a valid latest reading and OUTPUT with both outputs of its pair free, and with
no cause left it is MOVING and judged at once by its latest valid reading. The model's choice: the clear report of one output of a pair
takes OUTPUT out while the other is still faulted (log 19), the latest valid reading judges where the latest is not valid (log 20), and the
rules in force are those of log 42. -/
def Obligations.ClearDriveFaults : Prop :=
  ∀ (s : State) (tag : Nat), s.serves →
    ∃ (u : State) (p : List Byte), exec (.clearDriveFaults tag) s = .next (u.replied tag 0x63 p) ∧ p.head? = some 0#8 ∧
      (∀ o : OutputId, u.output o = { s.output o with trip := (s.output o).trip && (s.output o).overCurrent, openLoad := false }) ∧
      (∀ i : InputId, u.input i = { s.input i with latched := (s.input i).latched && ((s.input i).level == (s.input i).activeHigh) }) ∧
      u.dst = { s.dst with outputs := u.dst.outputs, inputs := u.dst.inputs, thermal := s.dst.thermal && s.dst.warning } ∧
      ((∀ i : InputId, (u.input i).latched = true → (u.input i).action ≠ .hold) → u.lsv.holds.faultInput = false) ∧
      ((∃ i : InputId, (u.input i).latched = true ∧ (u.input i).action = .hold) → u.lsv.holds = s.lsv.holds) ∧
      (∀ k : GlueId, (s.glue k).state = .fault → (s.glue k).settings ≠ none →
        (u.glue k).timeout = false ∧
        ((u.glue k).state = .fault ↔ (u.glue k).output = true ∨ (u.glue k).sensor = true)) ∧
      (let cleared : State := { s with dst := u.dst }
       let settled : State :=
         if ∃ i : InputId, (u.input i).latched = true ∧ (u.input i).action = .hold then cleared else cleared.removeHold .faultInput
       ∃ told : State, OwnersTold s settled told ∧ u.bnd = { told.bnd with glues := u.bnd.glues } ∧ u.lsv = told.lsv ∧
         ((∀ k : GlueId, (told.glue k).span.isSome = (u.glue k).span.isSome) → u.map = told.map) ∧
         ∀ k : GlueId,
           let g := told.glue k
           (g.state ≠ .fault ∨ g.settings = none → u.glue k = g) ∧
           (∀ c : GlueSettings, g.state = .fault → g.settings = some c →
             let x : GlueStation :=
               { g with
                 timeout := false, output := g.output && (told.faulted c.outA || told.faulted c.outB)
                 sensor := match g.latest with
                   | .valid _ => false
                   | _ => g.sensor }
             let rest : GlueState := if g.target = c.parkGap then .lifted else .inPosition
             let wet := if s.countsStopped then some c.interval else none
             let left : Level := if g.rules.stopMode = .brake then .low else .off
             (x.output = true ∨ x.sensor = true → u.glue k = x) ∧
             (x.output = false → x.sensor = false →
               (g.lastValid = none → u.glue k = { x with state := .moving, keepWet := none }) ∧
               (∀ v, g.lastValid = some v →
                 let fits : Prop := v ≤ g.target + g.rules.tolerance ∧ g.target ≤ v + g.rules.tolerance
                 (¬fits →
                   u.glue k =
                     { x with
                       state := .moving, keepWet := none, levelA := if v < g.target then .high else .low
                       levelB := if v < g.target then .low else .high }) ∧
                 (fits →
                   u.glue k = { x with state := rest, keepWet := wet, levelA := left, levelB := left, span := none } ∧
                   (g.span ≠ none → told.spanClosed u (.glue k) (told.gluePoint k))))))) ∧
      s.keepsBut u [.lcu, .map, .spc, .bnd, .dst, .lsv]

/-! ### Slitting, cut-off and stackers -/

/-- The in-position terminals, the positioning limit and the end of the knife fire pulse (R43, R118, R122). The terminals are judged by their
changes (log 7), and a timer that does not run has no effect (log 30). -/
def Obligations.PositioningEvents : Prop :=
  ∀ (s : State) (i : SlitId), s.held = false →
    let g := s.slit i
    let put (y : SlitStation) : State := { s with dec := { s.dec with stations := s.dec.stations.set i.val y i.isLt } }
    let reported (c : SetupCond) : List Order := match g.setup with
      | some x => s.obk.orders.map fun o => if o.tag = x.tag then { o with setup := c } else o
      | none => s.obk.orders
    (g.inPosition = true ∨ g.state ≠ .positioning →
      exec (.inPositionActive i) s = .next (put { g with inPosition := true }).beginFrame) ∧
    (g.inPosition = false → g.state = .positioning →
      exec (.inPositionActive i) s =
        .next { put { g with inPosition := true, state := .ready } with obk := { s.obk with orders := reported .ready } }.beginFrame) ∧
    (g.inPosition = false ∨ (g.state ≠ .ready ∧ g.state ≠ .engaged) →
      exec (.inPositionInactive i) s = .next (put { g with inPosition := false }).beginFrame) ∧
    (g.inPosition = true → g.state = .ready ∨ g.state = .engaged →
      ∃ u : State, exec (.inPositionInactive i) s = .next u.beginFrame ∧ u.dec = (put { g with inPosition := false }).dec ∧
        (∃ n ∈ u.lnk.notices, n.kind = .setupLost ∧ n.subject = ⟨.slitterStation, i.val + 1⟩) ∧ s.keepsBut u [.dec]) ∧
    (g.state ≠ .positioning → exec (.positioningTimerExpiry i) s = .next s.beginFrame) ∧
    (g.state = .positioning →
      ∃ u : State, exec (.positioningTimerExpiry i) s = .next u.beginFrame ∧
        u.dec = (put { g with state := .fault, heads := .stop, faultCount := min (g.faultCount + 1) 255 }).dec ∧
        u.obk = { s.obk with orders := reported .fault } ∧
        (∃ n ∈ u.lnk.notices, n.kind = .setupFault ∧ n.subject = ⟨.slitterStation, i.val + 1⟩) ∧ s.keepsBut u [.obk, .dec]) ∧
    ∀ j : LaneId,
      exec (.knifeFirePulseEnd j) s =
        .next { s with dec := { s.dec with lanes := s.dec.lanes.set j.val { s.lane j with fire := false } j.isLt } }.beginFrame

/-- What a lane cuts and how it classes it (R52, R53, R122 to R126, R128, R130, R134, R145): the next cut in SHEET and in SCRAP mode, the
cut event with its knife fired or skipped, the piece it closes with its tag and class, CHANGE_SCRAP or the first of the list that applies,
the mode changes into and out of a change zone and into use again, the piece appended to the sheet queue and its tally, and the makeup
asked for it, granted or counted short. And the KNIFE ceiling (R131): each lane's claim by its mode, the change lead and its next cut, and
the entry, the lower of the two claims, evaluated at each cut event, mode change and move of the end mark found (the moments are log 25,
the model's choice). On a LINE advance lane 1 is taken before lane 2 (log 2, the model's choice). -/
def Obligations.CutRules : Prop :=
  (∀ s : State, s.dryEndAdvance = (s.laneAdvance 0).laneAdvance 1) ∧
  (∀ (s : State) (j : LaneId),
    let l := s.lane j
    let claim := s.knifeClaim j
    let rate := s.dec.rates[j]
    let near (b : Nat) : Prop := ∃ pre m post, s.map.marks = pre ++ m :: post ∧
      (∀ x ∈ pre, x.isChange = true → x.start < b) ∧ m.isChange = true ∧ b ≤ m.start ∧ m.start ≤ b + s.dec.changeLead
    let scrapNext : Prop := ∃ n, s.nextCut j = some n ∧ n.kind = .scrapCut
    (l.mode = .idle ∨ l.base = none → claim = none) ∧
    (∀ b, l.base = some b →
      (l.mode = .scrap ∨ (l.mode = .sheet ∧ (near b ∨ scrapNext)) → claim = some (min 400 (s.dec.scrapLen * rate / 10000))) ∧
      (l.mode = .sheet → ¬near b → ¬scrapNext → claim = some (min 400 (l.sheetLen * rate / 10000)))) ∧
    (let t := s.evalLaneClaim j
     t.dec = { s.dec with lanes := s.dec.lanes.set j.val { l with claim := claim } j.isLt } ∧ t.knifeEntryOk ∧
     t.lsv = { s.lsv with ceiling := { s.lsv.ceiling with knife := t.lsv.ceiling.knife } } ∧ s.keepsBut t [.dec, .lsv])) ∧
  (∀ (s : State) (o : Order) (e : Nat),
    let t := s.moveEnd o e
    let finds (j : LaneId) : Prop := (s.lane j).mode = .sheet ∧ ∃ b pre m post, (s.lane j).base = some b ∧
      t.map.marks = pre ++ m :: post ∧ (∀ x ∈ pre, x.isChange = true → x.start < b) ∧ m.isUnlockedChange = true ∧ b ≤ m.start
    (e = o.endPos ∨ s.obk.endStatus ≠ .unlocked → t.dec = s.dec ∧ t.lsv = s.lsv) ∧
    (e ≠ o.endPos → s.obk.endStatus = .unlocked →
      (∀ j : LaneId, (finds j → t.lane j = { s.lane j with claim := t.knifeClaim j } ∧ t.knifeEntryOk) ∧
        (¬finds j → t.lane j = s.lane j)) ∧
      ((∀ j : LaneId, ¬finds j) → t.lsv = s.lsv))) ∧
  (∀ (s : State) (j : LaneId) (b : Nat), (s.lane j).mode = .sheet → (s.lane j).base = some b →
    let len := (s.lane j).sheetLen
    let ls := s.dec.scrapLen
    ((∀ m ∈ s.map.marks, m.isChange = true → m.start < b) →
      s.nextCut j = some { pos := b + len, kind := .sheetCut, target := none, incoming := none }) ∧
    (∀ (pre post : List Mark) (m : Mark) (out : Nat) (incoming : Option Nat) (locked : Bool), s.map.marks = pre ++ m :: post →
      (∀ x ∈ pre, x.isChange = true → x.start < b) → m.body = .orderChange out incoming locked → b ≤ m.start →
      let p := m.start
      (b + len ≤ p → s.nextCut j = some { pos := b + len, kind := .sheetCut, target := some p, incoming := incoming }) ∧
      (p < b + len → ls ≤ p - b → s.nextCut j = some { pos := p, kind := .scrapCut, target := some p, incoming := incoming }) ∧
      (p < b + len → p - b < ls → s.nextCut j = some { pos := p + ls, kind := .scrapCut, target := some p, incoming := incoming }))) ∧
  (∀ (s : State) (j : LaneId) (b z : Nat), (s.lane j).mode = .scrap → (s.lane j).base = some b → (s.lane j).scrapEnd = some z →
    (z - b < 2 * s.dec.scrapLen → s.nextCut j = some { pos := z, kind := .scrapCut, target := none, incoming := none }) ∧
    (2 * s.dec.scrapLen ≤ z - b →
      s.nextCut j = some { pos := b + s.dec.scrapLen, kind := .scrapCut, target := none, incoming := none })) ∧
  (∀ (s : State) (j : LaneId) (c : NextCut), s.nextCut j = some c →
    let l := s.lane j
    (s.linePos < c.pos + s.dCut → s.laneAdvance j = s) ∧
    (c.pos + s.dCut ≤ s.linePos → l.cycling = false →
      let t := s.laneAdvance j
      (t.lane j).claim = t.knifeClaim j ∧ t.knifeEntryOk ∧
      (t.lane j).fire = true ∧ (t.lane j).cycling = true ∧ (t.lane j).skips = 0 ∧ t.lane (1 - j) = { s.lane (1 - j) with
        handed := (t.lane (1 - j)).handed, claim := (t.lane (1 - j)).claim } ∧
      (∀ a, l.pieceStart = some a →
        (t.queue j).accepted = (s.queue j).accepted ∧
        (l.sheetPiece = false ∨ c.kind = .scrapCut ∨ l.order = none →
          (t.queue j).unjudged =
            (s.queue j).unjudged ++ [{ tag := 0, start := a, finish := c.pos, cls := .changeScrap, layers := 0 }]) ∧
        (∀ tag, l.sheetPiece = true → c.kind = .sheetCut → l.order = some tag →
          (t.queue j).unjudged =
            (s.queue j).unjudged ++ [{ tag := tag, start := a, finish := c.pos, cls := s.sheetClass l a c.pos, layers := 1 }])) ∧
      (l.pieceStart = none → t.queue j = s.queue j) ∧
      ((t.lane j).mode ≠ .idle →
        (t.lane j).pieceStart = some c.pos ∧ (t.lane j).base = some c.pos ∧ (t.lane j).skipped = false ∧
        ((t.lane j).sheetPiece = true ↔ (t.lane j).mode = .sheet))) ∧
    (c.pos + s.dCut ≤ s.linePos → l.cycling = true →
      let t := s.laneAdvance j
      (t.lane j).claim = t.knifeClaim j ∧ t.knifeEntryOk ∧
      (t.lane j).skips = l.skips + 1 ∧ (t.lane j).cycling = true ∧ t.dec.queues = s.dec.queues ∧
      (∃ n ∈ t.lnk.notices, n.kind = .knifeSkipped ∧ n.subject = ⟨.lane, j.val + 1⟩) ∧
      (1 ≤ l.skips → ∃ r, t.lsv.stopRec = some r ∧ r.latest = .knifeFault ∧ r.latestDetail = some ⟨.lane, j.val + 1⟩) ∧
      (c.kind = .scrapCut → (t.lane j).sheetPiece = false) ∧
      ((t.lane j).mode ≠ .idle →
        (t.lane j).base = some c.pos ∧ (t.lane j).pieceStart = l.pieceStart ∧ (t.lane j).skipped = true ∧
        (c.kind = .sheetCut → (t.lane j).sheetPiece = l.sheetPiece)))) ∧
  (∀ (s : State) (j : LaneId) (a n : Nat) (kind : CutKind), (s.lane j).pieceStart = some a →
    let l := s.lane j
    let put (x : CutLane) : State := { s with dec := { s.dec with lanes := s.dec.lanes.set j.val x j.isLt } }
    let t := s.closePiece j n kind
    (l.sheetPiece = false ∨ kind = .scrapCut ∨ l.order = none →
      t = (put { l with prevReject := true }).appendPiece { tag := 0, start := a, finish := n, cls := .changeScrap, layers := 0 } j) ∧
    (∀ tag, l.sheetPiece = true → kind = .sheetCut → l.order = some tag →
      let c := s.sheetClass l a n
      let x := if c = .good then { l with prevReject := false, good := l.good + 1 } else { l with prevReject := true }
      let v := (put x).appendPiece { tag := tag, start := a, finish := n, cls := c, layers := 1 } j
      (c = .good ∨ c = .overrun → t = v) ∧ (c ≠ .good → c ≠ .overrun → t = v.makeupRequest tag j))) ∧
  (∀ (s : State) (j : LaneId) (p : Piece) (head : Piece) (rest : List Piece), (s.queue j).unjudged ++ [p] = head :: rest →
    let t := s.appendPiece p j
    (t.queue j).unjudged = head :: rest ∧ (t.queue j).accepted = (s.queue j).accepted ∧
    t.stk.gates[j] = (if head.cls = .good then .accept else .reject) ∧
    (p.tag = 0 → t.obk = s.obk) ∧
    (p.tag ≠ 0 → ∀ y, s.tally p.tag j = some y →
      ∃ z, t.tally p.tag j = some z ∧ z.inQueue = min (y.inQueue + 1) 96 ∧
        ∀ i : Fin 8, z.classes[i] = if p.cls.ctorIdx = i.val + 1 then min (y.classes[i] + 1) 999999 else y.classes[i]) ∧
    s.keepsBut t [.obk, .dec, .stk]) ∧
  (∀ (s : State) (tag : Nat) (j : LaneId),
    let t := s.makeupRequest tag j
    (s.findOrder tag = none ∨ (∃ o, s.findOrder tag = some o ∧ o.lane j = none) →
      t = { s with obk := { s.obk with stray := min (s.obk.stray + 1) 65535 } }) ∧
    (∀ o, s.findOrder tag = some o → (o.lane j).isSome = true →
      let x := o.runs[j]
      let granted : Prop := o.phase = .running ∧ (s.obk.endStatus = .unlocked ∨ s.obk.endStatus = .pending) ∧ o.cancelled = false ∧
        x.makeup < o.makeupLimit
      let r : Order := { o with runs := o.runs.set j.val { x with makeup := x.makeup + 1 } j.isLt }
      (¬granted →
        (t.findOrder tag = some { o with runs := o.runs.set j.val { x with short := min (x.short + 1) 999999 } j.isLt } ∧
          s.keepsBut t [.obk])) ∧
      (granted →
        t.findOrder tag = some { r with endPos := max o.endPos (o.start + r.runLength) } ∧
        (t.lane j).required tag = some (r.required j) ∧
        (o.endPos < o.start + r.runLength → s.obk.endStatus = .unlocked →
          ∀ pre m post, s.map.marks = pre ++ m :: post → (∀ y ∈ pre, y.isUnlockedChange = false) → m.isUnlockedChange = true →
            PlacedIn (·.start)
              { m with start := o.start + r.runLength, finish := some (o.start + r.runLength + s.zc) } (pre ++ post) t.map.marks) ∧
        (o.start + r.runLength ≤ o.endPos → t.map = s.map) ∧
        s.keepsBut t [.obk, .map, .dec, .lsv]))) ∧
  (∀ (s : State) (j : LaneId) (c : NextCut),
    let l := s.lane j
    let t := s.modeChanges j c
    let same (y : CutLane) : Prop := t.lane j = { y with claim := t.knifeClaim j } ∧ t.knifeEntryOk
    let leaves (y : CutLane) (z : Nat) : Prop :=
      (∀ tag o r, y.order = some tag → s.findOrder tag = some o → o.lane j = some r →
        same { y with mode := .sheet, sheetLen := r.length * 10, scrapEnd := none, good := 0 }) ∧
      (y.order = none ∨ (∃ tag, y.order = some tag ∧ ∀ o, s.findOrder tag = some o → o.lane j = none) →
        same { y with
          mode := .idle, order := none, pieceStart := none, base := none, scrapEnd := none, resume := some z, sheetPiece := false
          skipped := false, prevReject := false })
    (l.mode = .sheet → (∀ p, c.target = some p → c.pos < p) → same l) ∧
    (∀ p, l.mode = .sheet → c.target = some p → p ≤ c.pos →
      let y : CutLane :=
        { l with
          mode := .scrap, scrapEnd := some (p + s.zc), order := c.incoming, good := 0
          handed := match l.order with
            | some tag => l.handed.filter fun h => h.1 ≠ tag
            | none => l.handed }
      (c.pos < p + s.zc → same y) ∧ (p + s.zc ≤ c.pos → leaves y (p + s.zc)) ∧
      (∀ tag w, l.order = some tag → s.tally tag j = some w → ∃ w', t.tally tag j = some w' ∧ w'.laneEnd = true)) ∧
    (∀ z, l.mode = .scrap → l.scrapEnd = some z → (c.pos < z → same l) ∧ (z ≤ c.pos → leaves l z)) ∧
    (l.mode = .idle → same l)) ∧
  (∀ (s : State) (j : LaneId) (r : Nat), (s.lane j).mode = .idle → (s.lane j).resume = some r →
    let t := s.laneAdvance j
    ((∀ m ∈ s.map.marks, m.isChange = true → m.start < r) → t = s) ∧
    (∀ pre post st fin out incoming locked, s.map.marks = pre ++ ⟨st, fin, .orderChange out incoming locked⟩ :: post →
      (∀ x ∈ pre, x.isChange = true → x.start < r) → r ≤ st →
      let a := st + s.zc
      (locked = false ∨ s.linePos < a + s.dCut → t = s) ∧
      (locked = true → a + s.dCut ≤ s.linePos →
        (∀ tag o l, incoming = some tag → s.findOrder tag = some o → o.lane j = some l →
          t.lane j =
            { s.lane j with
              mode := .sheet, order := some tag, sheetLen := l.length * 10, pieceStart := some a, base := some a, resume := none
              good := 0, prevReject := false, sheetPiece := true, skipped := false, claim := t.knifeClaim j } ∧
          t.knifeEntryOk) ∧
        (incoming = none ∨ (∃ tag, incoming = some tag ∧ ∀ o, s.findOrder tag = some o → o.lane j = none) →
          t.lane j = { s.lane j with resume := some a })))) ∧
  ∀ (s : State) (l : CutLane) (a n : Nat),
    let c := s.sheetClass l a n
    let untracked : Prop := ∃ r, s.map.ra = some r ∧ r < n
    let covers (p : Mark → Bool) : Prop := ∃ m ∈ s.covering a n, p m = true
    let overrun : Prop := ∃ tag cuts, l.order = some tag ∧ l.required tag = some cuts ∧ cuts ≤ l.good
    (l.skipped = true → c = .knifeSkip) ∧
    (l.skipped = false → untracked → c = .untracked) ∧
    (l.skipped = false → ¬untracked → covers Mark.isJoint → c = .splice) ∧
    (l.skipped = false → ¬untracked → ¬covers Mark.isJoint → covers Mark.isBond → c = .bond) ∧
    (l.skipped = false → ¬untracked → ¬covers Mark.isJoint → ¬covers Mark.isBond →
      (covers Mark.isHost → c = .host) ∧
      (¬covers Mark.isHost → l.prevReject = true → n - a < s.dec.gateSwitch → c = .gateLag) ∧
      (¬covers Mark.isHost → l.prevReject = false ∨ s.dec.gateSwitch ≤ n - a → overrun → c = .overrun) ∧
      (¬covers Mark.isHost → l.prevReject = false ∨ s.dec.gateSwitch ≤ n - a → ¬overrun → c = .good))

/-- The gates, the stackers and completion (R57, R134 to R142, R146): the gate heads that have passed D_REJ, each accepted or diverted, the
deliveries at D_STKj, the layers taken onto the stack, into holdback or lost, the offer, an order lane drained and its completion report,
the conveyor terminals, the eject timer, and the eject-done that makes the stack record and takes the head run of holdback. An eject timer
expires in EJECTING alone (log 30), an event carries the level its terminal now has (log 7), the partial flag is clear as the stacker
returns to STACKING (log 44), and on a LINE advance the gates are judged before the deliveries and lane 1 is taken before lane 2 (log 2),
all four the model's choice. -/
def Obligations.EjectEvents : Prop :=
  let offered (y : Stacker) : Stacker :=
    if y.conveyorReady = true then { y with state := .ejecting, eject := true, timerLimit := y.ejectLimit } else { y with state := .offered }
  let offer (y : Stacker) (isPartial : Bool) : Stacker :=
    if y.records.length < 16 then offered { y with partialFlag := isPartial } else { y with partialFlag := isPartial, state := .due }
  let height (s : State) (tag : Nat) (j : LaneId) (n : Nat) : Prop := ∃ o r, s.findOrder tag = some o ∧ o.lane j = some r ∧ r.height = n
  (∀ (s : State) (j : StackerId) (isPartial : Bool), s.offerStep j isPartial =
    { s with stk := { s.stk with stackers := s.stk.stackers.set j.val (offer (s.stacker j) isPartial) j.isLt } }) ∧
  (∀ (s : State) (tag : Nat) (j : StackerId),
    let x := s.stacker j
    let t := s.takeLayer tag j
    let counted : Prop := (∀ y, s.tally tag j = some y → t.tally tag j = some { y with stacked := min (y.stacked + 1) 999999 }) ∧
      s.keepsBut t [.obk, .stk, .lsv]
    (∀ i : StackerId, i ≠ j → t.stacker i = s.stacker i) ∧
    (x.state = .stacking → x.tag = none ∨ x.tag = some tag → counted ∧
      let n := if x.tag = none then 1 else x.count + 1
      let y : Stacker := { x with tag := some tag, count := n }
      (∀ h, height s tag j h → t.stacker j = if h ≤ n then offer y false else y)) ∧
    (∀ other, x.state = .stacking → x.tag = some other → other ≠ tag →
      counted ∧ t.stacker j = offer { x with holdback := x.holdback ++ [tag] } true ∧ t.stackerEntryOk) ∧
    (x.state ≠ .stacking → x.holdback.length < 60 →
      counted ∧ t.stacker j = { x with holdback := x.holdback ++ [tag] } ∧ t.stackerEntryOk) ∧
    (x.state ≠ .stacking → 60 ≤ x.holdback.length →
      t.stk = s.stk ∧ t.stopTaken .stackJam .stacker (j.val + 1) ∧
      t.noticedWith .stackerFault .stacker (j.val + 1) (natBytes 1 1 ++ natBytes 2 tag) ∧
      ∀ y, s.tally tag j = some y → ∃ z, t.tally tag j = some z ∧ z.jamLost = min (y.jamLost + 1) 999999 ∧ z.stacked = y.stacked)) ∧
  (∀ (s : State) (j : LaneId) (n : Nat) (p : Piece) (rest : List Piece), (s.queue j).unjudged = p :: rest →
    (s.linePos < p.finish + s.dRej → s.judgeGate j (n + 1) = s) ∧
    (p.finish + s.dRej ≤ s.linePos →
      ∃ v : State,
        (v.queue j = { accepted := if p.cls = .good then (s.queue j).accepted ++ [p] else (s.queue j).accepted, unjudged := rest } ∧
          ∀ i : LaneId, i ≠ j → v.queue i = s.queue i) ∧
        (v.stk.gates[j] = match rest with
          | q :: _ => if q.cls = .good then .accept else .reject
          | [] => s.stk.gates[j]) ∧
        v.stk.stackers = s.stk.stackers ∧ s.keepsBut v [.obk, .dec, .stk] ∧
        (p.cls = .good → s.judgeGate j (n + 1) = v.judgeGate j n ∧ v.obk = s.obk) ∧
        (p.cls ≠ .good → p.tag = 0 → s.judgeGate j (n + 1) = v.judgeGate j n ∧ v.obk = s.obk ∧
          v.stk.scrapPieces = min (s.stk.scrapPieces + 1) 4294967295 ∧
          v.stk.scrapLength = min (2 ^ 44 - 1) (s.stk.scrapLength + (p.finish - p.start))) ∧
        (p.cls ≠ .good → p.tag ≠ 0 → s.judgeGate j (n + 1) = (v.drainTest p.tag j).judgeGate j n ∧
          ∀ y, s.tally p.tag j = some y →
            v.tally p.tag j = some { y with diverted := min (y.diverted + 1) 999999, inQueue := y.inQueue - 1 }))) ∧
  (∀ (s : State) (j : LaneId) (n : Nat) (p : Piece) (rest : List Piece), (s.queue j).accepted = p :: rest →
    (s.linePos < p.finish + s.dStk j → s.deliver j (n + 1) = s) ∧
    (p.finish + s.dStk j ≤ s.linePos →
      ∃ v : State, s.deliver j (n + 1) = ((v.takeLayer p.tag j).drainTest p.tag j).deliver j n ∧
        v.queue j = { s.queue j with accepted := rest } ∧ (∀ i : LaneId, i ≠ j → v.queue i = s.queue i) ∧
        (∀ y, s.tally p.tag j = some y → v.tally p.tag j = some { y with inQueue := y.inQueue - 1 }) ∧
        s.keepsBut v [.obk, .dec])) ∧
  (∀ (s : State) (j : LaneId) (n : Nat),
    s.judgeGate j 0 = s ∧ s.deliver j 0 = s ∧ ((s.queue j).unjudged = [] → s.judgeGate j n = s) ∧
    ((s.queue j).accepted = [] → s.deliver j n = s)) ∧
  (∀ s : State,
    let a := s.judgeGate 0 (s.queue 0).unjudged.length
    let b := a.judgeGate 1 (a.queue 1).unjudged.length
    let c := b.deliver 0 (b.queue 0).accepted.length
    s.stackAdvance = c.deliver 1 (c.queue 1).accepted.length) ∧
  (∀ (s : State) (tag : Nat) (j : LaneId) (y : Tally), s.tally tag j = some y →
    let x := s.stacker j
    let drains : Prop := y.laneEnd = true ∧ y.inQueue = 0 ∧ y.drained = false
    let reports : Prop := y.drained = true ∧ y.reported = false ∧ x.tag ≠ some tag ∧ tag ∉ x.holdback
    (¬drains → s.drainTest tag j = s) ∧
    (drains →
      ∃ v : State, s.drainTest tag j = v.completionTest tag j ∧ v.tally tag j = some { y with drained := true } ∧
        (x.state = .stacking → x.tag = some tag → 0 < x.count → v.stacker j = offer x true) ∧
        (x.state ≠ .stacking ∨ x.tag ≠ some tag ∨ x.count = 0 → v.stacker j = x) ∧
        (∀ i : StackerId, i ≠ j → v.stacker i = s.stacker i) ∧ s.keepsBut v [.obk, .stk]) ∧
    (¬reports → s.completionTest tag j = s) ∧
    (reports →
      ∃ v : State, s.completionTest tag j = v.completionReport tag j ∧ v.tally tag j = some { y with reported := true } ∧
        s.keepsBut v [.obk])) ∧
  (∀ (s : State) (tag : Nat) (j : LaneId),
    let t := s.completionReport tag j
    (s.findOrder tag = none → t = s) ∧
    (∀ o, s.findOrder tag = some o →
      let o' : Order := { o with runs := o.runs.set j.val { o.runs[j] with complete := true } j.isLt }
      let ends : Prop := o.phase = .draining ∧ o'.runs[0].complete = true ∧ (o.lane2 = none ∨ o'.runs[1].complete = true)
      let short : Prop := 0 < o.runs[0].short ∨ 0 < o.runs[1].short
      s.keepsBut t [.obk] ∧
      (¬ends → t.findOrder tag = some o' ∧ t.lnk = s.lnk) ∧
      (ends → ∃ d : Order, t.findOrder tag = some d ∧ d = { o' with phase := .done, outcome := d.outcome } ∧
        (short → d.outcome = .short ∧ t.noticed .orderShort .order tag) ∧
        (¬short → d.outcome = if o.cutShort = true then .cutShort else .complete) ∧
        t.noticedWith .orderDone .order tag (natBytes 1 d.outcome.ctorIdx) ∧
        ∀ u, u ≠ tag → t.findOrder u = s.findOrder u))) ∧
  ∀ (s : State) (j : StackerId), s.held = false →
    let x := s.stacker j
    let put (y : Stacker) : State := { s with stk := { s.stk with stackers := s.stk.stackers.set j.val y j.isLt } }
    let ejecting : Prop := x.state = .ejecting ∨ x.state = .fault
    (∀ b : Bool, b = false ∨ x.conveyorReady = true ∨ x.state ≠ .offered →
      exec (.conveyorReady j b) s = .next (put { x with conveyorReady := b }).beginFrame) ∧
    (x.conveyorReady = false → x.state = .offered →
      exec (.conveyorReady j true) s =
        .next (put { x with conveyorReady := true, state := .ejecting, eject := true, timerLimit := x.ejectLimit }).beginFrame) ∧
    exec (.ejectPulseEnd j) s = .next (put { x with eject := false }).beginFrame ∧
    (x.state ≠ .ejecting → exec (.ejectTimerExpiry j) s = .next s.beginFrame) ∧
    (x.state = .ejecting →
      ∃ u : State, exec (.ejectTimerExpiry j) s = .next u.beginFrame ∧ u.stk = (put { x with state := .fault }).stk ∧
        u.stopTaken .stackJam .stacker (j.val + 1) ∧
        u.noticedWith .stackerFault .stacker (j.val + 1) (natBytes 1 0 ++ natBytes 2 (x.tag.getD 0)) ∧
        s.keepsBut u [.map, .spc, .bnd, .stk, .lsv]) ∧
    (∀ b : Bool, b = false ∨ x.ejectDone = true ∨ ¬ejecting →
      exec (.ejectDone j b) s = .next (put { x with ejectDone := b }).beginFrame) ∧
    (x.ejectDone = false → ejecting → ∀ tag, x.tag = some tag →
      let made := match s.tally tag j with
        | some t => min (t.stacksMade + 1) 999999
        | none => 0
      let eye := s.lcu.eyes[j].count
      let mismatch : Bool := decide (x.count + x.tolerance < eye) || decide (eye + x.tolerance < x.count)
      let left : Stacker :=
        { x with
          ejectDone := true, partialFlag := false, state := .stacking
          records := x.records ++
            [{ tag := tag, number := made, layers := x.count, partialFlag := x.partialFlag, mismatch := mismatch }] }
      ∃ u : State, exec (.ejectDone j true) s = .next u.beginFrame ∧
        u.lcu.eyes[j] = { s.lcu.eyes[j] with count := 0 } ∧
        (x.holdback = [] → u.stacker j = { left with tag := none, count := 0 }) ∧
        (∀ h rest, x.holdback = h :: rest →
          let run := (x.holdback.takeWhile fun y => y = h).length
          let n := (((s.findOrder h).bind fun o => o.lane j).map fun r => min r.height run).getD run
          let y : Stacker := { left with tag := some h, count := n, holdback := x.holdback.drop n }
          let drained : Prop := ∃ w, s.tally h j = some w ∧ w.drained = true
          (height s h j n → u.stacker j = offer y false) ∧
          (¬height s h j n → n < x.holdback.length ∨ drained → u.stacker j = offer y true) ∧
          (¬height s h j n → n = x.holdback.length → ¬drained → u.stacker j = y)) ∧
        u.stackerEntryOk ∧
        (∀ t, s.tally tag j = some t → ∃ z, u.tally tag j = some z ∧ z.stacksMade = made ∧
          (z.reported = true ↔
            t.reported = true ∨ (t.drained = true ∧ (u.stacker j).tag ≠ some tag ∧ tag ∉ (u.stacker j).holdback))) ∧
        u.noticedWith .stackReady .stacker (j.val + 1) (natBytes 2 tag ++ natBytes 4 made ++ natBytes 2 x.count) ∧
        (mismatch = true →
          u.noticedWith .countMismatch .stacker (j.val + 1)
            (natBytes 2 tag ++ natBytes 4 made ++ natBytes 2 x.count ++ natBytes 2 eye)) ∧
        (∀ i : StackerId, i ≠ j → u.stacker i = s.stacker i) ∧ s.keepsBut u [.lcu, .obk, .stk, .lsv])

/-- The commands of the dry end (R119, R121, R138, R141, R143, R144): SetCutoff, RetrySetup, SetStacker, ForceEject and CollectStacks. -/
def Obligations.DryEndCommands : Prop :=
  ∀ (s : State) (tag : Nat), s.serves →
    (∀ a : CutoffArgs,
      let c : Instr := .setCutoff tag a
      let fits : Prop := (300 ≤ a.scrap ∧ a.scrap ≤ 1000) ∧ (1 ≤ a.mult ∧ a.mult ≤ 8) ∧ a.gate ≤ 2000 ∧ (50 ≤ a.rate1 ∧ a.rate1 ≤ 500) ∧
        (50 ≤ a.rate2 ∧ a.rate2 ≤ 500) ∧ a.lead ≤ 100 ∧ (5 ≤ a.limit ∧ a.limit ≤ 120)
      (s.lsv.line ≠ .setup → s.answers c tag 0x70 3) ∧
      (s.lsv.line = .setup → ¬fits → s.answers c tag 0x70 4) ∧
      (s.lsv.line = .setup → fits →
        exec c s =
          .next (({ s with dec := { s.dec with
            scrapLen := a.scrap * 10, zoneMult := a.mult, gateSwitch := a.gate * 10, rates := #v[a.rate1, a.rate2]
            changeLead := a.lead * 10000, posLimit := a.limit } } : State).replied tag 0x70 [0#8]))) ∧
    (∀ i : SlitId,
      let c : Instr := .retrySetup tag (i.val + 1)
      let g := s.slit i
      (g.state ≠ .fault → s.answers c tag 0x71 3) ∧
      (g.state = .fault → ∀ x, g.setup = some x →
        exec c s =
          .next (({ s with
            dec := { s.dec with stations := s.dec.stations.set i.val { g with state := .positioning, heads := .goto x } i.isLt }
            obk := { s.obk with orders := s.obk.orders.map fun o => if o.tag = x.tag then { o with setup := .positioning } else o } } :
            State).replied tag 0x71 [0#8]))) ∧
    ∀ j : StackerId,
      let x := s.stacker j
      (∀ warn crawl limit tolerance : Nat,
        let c : Instr := .setStacker tag (j.val + 1) warn crawl limit tolerance
        let stands : Prop := s.lsv.line = .setup ∨ s.lsv.line = .ready ∨ s.lsv.line = .park
        let fits : Prop := 10 ≤ warn ∧ warn ≤ 50 ∧ 5 ≤ crawl ∧ crawl ≤ 400 ∧ 2 ≤ limit ∧ limit ≤ 60 ∧ tolerance ≤ 5
        (¬stands → s.answers c tag 0x80 3) ∧
        (stands → ¬fits → s.answers c tag 0x80 4) ∧
        (stands → fits →
          ∃ u : State, exec c s = .next (u.replied tag 0x80 [0#8]) ∧
            u.stacker j = { x with warn := warn, crawl := crawl, ejectLimit := limit, tolerance := tolerance } ∧
            (∀ i : StackerId, i ≠ j → u.stacker i = s.stacker i) ∧ u.stk = { s.stk with stackers := u.stk.stackers } ∧
            u.stackerEntryOk ∧
            u.lsv = { s.lsv with ceiling := { s.lsv.ceiling with stacker := u.lsv.ceiling.stacker } } ∧ s.keepsBut u [.stk, .lsv])) ∧
      (let c : Instr := .forceEject tag (j.val + 1)
       let offered (y : Stacker) : Prop :=
         exec c s =
           .next (({ s with stk := { s.stk with stackers := s.stk.stackers.set j.val y j.isLt } } : State).replied tag 0x81 [0#8])
       (¬(x.state = .stacking ∧ 0 < x.count) → x.state ≠ .fault → s.answers c tag 0x81 3) ∧
       (x.state = .stacking → 0 < x.count → 16 ≤ x.records.length → offered { x with state := .due, partialFlag := true }) ∧
       (x.state = .stacking → 0 < x.count → x.records.length < 16 → x.conveyorReady = false →
         offered { x with state := .offered, partialFlag := true }) ∧
       (x.state = .stacking → 0 < x.count → x.records.length < 16 → x.conveyorReady = true →
         offered { x with state := .ejecting, partialFlag := true, eject := true, timerLimit := x.ejectLimit }) ∧
       (x.state = .fault → x.conveyorReady = false → offered { x with state := .offered }) ∧
       (x.state = .fault → x.conveyorReady = true → offered { x with state := .ejecting, eject := true, timerLimit := x.ejectLimit })) ∧
      (∀ count : Nat,
        let c : Instr := .collectStacks tag (j.val + 1) count
        let left := x.records.drop count
        let y : Stacker :=
          if x.state = .due ∧ left.length < 16 then
            (if x.conveyorReady = true then { x with records := left, state := .ejecting, eject := true, timerLimit := x.ejectLimit }
             else { x with records := left, state := .offered })
          else { x with records := left }
        (8 < count → s.answers c tag 0x82 4) ∧
        (count ≤ 8 →
          ∃ p, exec c s =
              .next (({ s with stk := { s.stk with stackers := s.stk.stackers.set j.val y j.isLt } } : State).replied tag 0x82
                ([0#8] ++ p)) ∧
            p = listBytes StackRecord.bytes (x.records.take count) ++ natBytes 1 left.length ++ natBytes 1 y.state.ctorIdx))

/-! ### The Line Supervisor -/

/-- A change of the line state, taken whole (R69, R77, R84, R92, R148, R153, R154, R158, R170): the STOP and HOLD entries, the speed
reference, the stopped-sample count, the stop record, the announcement, and the notice with its detail (R175). Told of it, the splice
stations make the arming test on entry to RUN or HOLD (R69) and abort on entry to STOPPING or HALTED (R77), and the bond controller
evaluates setpoints and targets on entry to and exit from PARK, by whatever state it is left for (R84, R92, R153). The model's choice: an
unset zone keeps its setpoint outside PARK (log 21); the STOP and HOLD entries are set in one change of the ceiling table, the stop record
is inactive already in the detail of LINE_STATE on entry to READY, and the stations are told before the bond controller (log 48). -/
def Obligations.LineChange : Prop :=
  ∀ (s : State) (new : LineState),
    let t := s.changeLine new
    t.lsv.line = new ∧
    t.lsv.ceiling.stop = (if new = .run ∨ new = .hold then none else some 0) ∧
    t.lsv.ceiling.hold = (if new = .hold then some s.lsv.thread else none) ∧
    t.lsv.ceiling.request = s.lsv.ceiling.request ∧ t.lsv.ceiling.grade = s.lsv.ceiling.grade ∧
    t.lsv.speedRef = (if new = .setup ∨ new = .ready ∨ new = .halted ∨ new = .park then 0 else s.lsv.speedRef) ∧
    t.lsv.stopped = 0 ∧ t.lsv.holds = s.lsv.holds ∧ t.lsv.startFlag = s.lsv.startFlag ∧
    t.lsv.stopRec = (if new = .ready then s.lsv.stopRec.map fun r => { r with active := false } else s.lsv.stopRec) ∧
    (new = .stopping ∨ new = .halted → ∀ i : SpliceId, (t.splice i).phase ≠ .matching ∧ (t.splice i).phase ≠ .matched) ∧
    (let entered : State := { s with lsv := { s.lsv with line := new } }
     (∀ i : SpliceId,
       let x := s.splice i
       let aborts : Prop := (new = .stopping ∨ new = .halted) ∧ (x.phase = .matching ∨ x.phase = .matched)
       (∀ g r, entered.armingTerms i g r → entered.armedIn t i g r) ∧
       (aborts →
         t.splice i = { x with phase := .standby, accelerate := false, force := false } ∧ t.spliceEntryOk ∧
         t.noticedWith .spliceAborted .spliceStation (i.val + 1) (natBytes 1 x.phase.ctorIdx)) ∧
       (¬aborts → (∀ g r, ¬entered.armingTerms i g r) → t.splice i = x) ∧
       ((∀ g r, ¬entered.armingTerms i g r) → t.lcu.joints[i] = s.lcu.joints[i])) ∧
     (s.lsv.line ≠ .park → new ≠ .park → t.bnd = s.bnd ∧ t.map = s.map) ∧
     (s.lsv.line = .park ∨ new = .park →
       (∀ n : ZoneId,
         ((s.zone n).settings ≠ none ∨ new = .park →
           t.zone n =
             { s.zone n with setpoint := (entered.chooseSetpoint n).1, feedForward := (entered.chooseSetpoint n).2 }) ∧
         ((s.zone n).settings = none → new ≠ .park → t.zone n = s.zone n)) ∧
       (∀ k : GlueId,
         t.glue k = (entered.evalGlue k).glue k ∧
         (∀ c : GlueSettings, (s.glue k).settings = some c → (s.glue k).state ≠ .off →
           (t.glue k).target = entered.chooseTarget k c) ∧
         ((s.glue k).span ≠ none → (t.glue k).span = none → s.spanClosed t (.glue k) (s.gluePoint k))) ∧
       ((∀ k : GlueId, (t.glue k).span = (s.glue k).span) → t.map = s.map) ∧
       t.bnd = { s.bnd with zones := t.bnd.zones, glues := t.bnd.glues })) ∧
    t.lnk.expiries = (if s.lsv.line.monitored = new.monitored then s.lnk.expiries else 0) ∧
    t.lineNoticed s.lsv.line ∧ s.sameButMonitor t ∧ s.keepsBut t [.lcu, .map, .spc, .bnd, .lsv, .lnk]

/-- Stop causes and hold causes by the line state (R152, R153): the state entered, the stop record with its ruling and its latest cause, the
hold-cause set with the moves between RUN and HOLD, and the notice with its detail (R175). What a change of the line state does is stated in
LineChange. That a stop cause which changes the state raises LINE_STATE once, with the record as the cause leaves it, is log 9, and that a
new record starts at count 1 and an inactive one does not count is log 40, both the model's reading (DEDUCED). -/
def Obligations.StopAndHoldCauses : Prop :=
  (∀ (s : State) (c : StopCause) (d : Option Subject),
    let t := s.stopCause c d
    let fresh : StopRecord :=
      { active := true, ruling := some c, detail := d, position := some s.linePos, latest := c, latestDetail := d, count := 1 }
    let taken (r : StopRecord) : StopRecord :=
      { r with latest := c, latestDetail := d, count := if r.active = true then min (r.count + 1) 255 else r.count }
    t.lineNoticed s.lsv.line ∧ t.lsv.holds = s.lsv.holds ∧
    (let with_ (r : StopRecord) : State := { s with lsv := { s.lsv with stopRec := some r } }
     (s.lsv.line = .run ∨ s.lsv.line = .hold → t = (with_ fresh).changeLine (if c = .trip then .halted else .stopping)) ∧
     (s.lsv.line = .ready ∨ s.lsv.line = .park → t = (with_ fresh).changeLine .halted) ∧
     (s.lsv.line = .stopping → c = .trip → ∀ r, s.lsv.stopRec = some r →
       t = (with_ { taken r with ruling := some c, detail := d, position := some s.linePos }).changeLine .halted)) ∧
    (s.lsv.line = .run ∨ s.lsv.line = .hold →
      t.lsv.line = (if c = .trip then .halted else .stopping) ∧ t.lsv.stopRec = some fresh) ∧
    (s.lsv.line = .ready ∨ s.lsv.line = .park → t.lsv.line = .halted ∧ t.lsv.stopRec = some fresh) ∧
    (s.lsv.line = .stopping → t.lsv.line = (if c = .trip then .halted else .stopping) ∧
      ∀ r, s.lsv.stopRec = some r → t.lsv.stopRec = some
        (if c = .trip ∨ r.ruling = some .hostStop then
          { taken r with ruling := some c, detail := d, position := some s.linePos } else taken r)) ∧
    (s.lsv.line = .halted → t.lsv.line = .halted ∧ ∀ r, s.lsv.stopRec = some r → t.lsv.stopRec = some (taken r)) ∧
    (s.lsv.line = .setup → t.lsv.line = .setup ∧
      (∀ r, s.lsv.stopRec = some r → t.lsv.stopRec = some (taken r)) ∧
      (s.lsv.stopRec = none → t.lsv.stopRec =
        some { active := false, ruling := none, detail := none, position := none, latest := c, latestDetail := d, count := 0 })) ∧
    (c = .trip → s.lsv.line ≠ .setup → s.lsv.line ≠ .halted → t.lsv.speedRef = 0)) ∧
  (∀ (s : State) (c : HoldCause),
    let t := s.addHold c
    (s.lsv.holds.has c = true → t = s) ∧
    (s.lsv.holds.has c = false →
      t.lsv.holds = s.lsv.holds.put c true ∧ t.lsv.line = (if s.lsv.line = .run then .hold else s.lsv.line) ∧
      (s.lsv.line = .run → t = ({ s with lsv := { s.lsv with holds := s.lsv.holds.put c true } } : State).changeLine .hold) ∧
      (s.lsv.line = .run ∨ s.lsv.line = .hold → t.lineNoticed s.lsv.line) ∧
      (s.lsv.line ≠ .run → s.lsv.line ≠ .hold → t = { s with lsv := { s.lsv with holds := s.lsv.holds.put c true } }))) ∧
  ∀ (s : State) (c : HoldCause),
    let t := s.removeHold c
    let left := s.lsv.holds.put c false
    (s.lsv.holds.has c = false → t = s) ∧
    (s.lsv.holds.has c = true →
      t.lsv.holds = left ∧
      (s.lsv.line = .hold → left.isEmpty = true → t = ({ s with lsv := { s.lsv with holds := left } } : State).changeLine .run) ∧
      (s.lsv.line = .hold → t.lsv.line = (if left.isEmpty = true then .run else .hold) ∧ t.lineNoticed .hold) ∧
      (s.lsv.line ≠ .run → s.lsv.line ≠ .hold → t = { s with lsv := { s.lsv with holds := left } }))

/-- The speed target, the limiting entry, and the commands that set the entries REQUEST and HOLD (R157, R159): the target is the least of the
present entries, the limiting entry the first in table order that has it, and a change of the limiting entry, alone, raises SPEED_LIMIT.
SetSpeed and SetRamp: RANGE without effect, or the REQUEST entry, or the three ramp settings with the HOLD entry at once in HOLD; both
replies carry the speed target and the limiting entry after the command. -/
def Obligations.SpeedTarget : Prop :=
  (∀ c : Ceiling,
    (∀ e v, c.get e = some v → c.target ≤ v) ∧ c.get c.limiting = some c.target ∧
    ∀ e, c.get e = some c.target → c.limiting.ctorIdx ≤ e.ctorIdx) ∧
  (∀ (s : State) (e : Entry) (v : Option Nat),
    let t := s.setEntry e v
    let old := s.lsv.ceiling
    let new := t.lsv.ceiling
    (e ≠ .request → new.get e = v) ∧ (e = .request → new.request = v.getD old.request) ∧ (∀ x, x ≠ e → new.get x = old.get x) ∧
    (new.limiting = old.limiting → t = { s with lsv := { s.lsv with ceiling := new } }) ∧
    (new.limiting ≠ old.limiting →
      t.lsv = { s.lsv with ceiling := new } ∧
      (∃ n ∈ t.lnk.notices, n.kind = .speedLimit ∧ n.subject = ⟨.line, 0⟩ ∧
        n.detail = natBytes 1 new.limiting.ctorIdx ++ natBytes 2 new.target) ∧ s.keepsBut t [.lsv])) ∧
  ∀ (s : State) (tag : Nat), s.serves →
    let content (u : State) : List Byte := [0#8] ++ natBytes 2 u.lsv.ceiling.target ++ natBytes 1 u.lsv.ceiling.limiting.ctorIdx
    (∀ speed : Nat,
      let c : Instr := .setSpeed tag speed
      (400 < speed → s.answers c tag 0x04 4) ∧
      (speed ≤ 400 →
        ∃ u : State, exec c s = .next (u.replied tag 0x04 (content u)) ∧
          u.lsv = { s.lsv with ceiling := { s.lsv.ceiling with request := speed } } ∧ s.keepsBut u [.lsv])) ∧
    ∀ accel decel thread : Nat,
      let c : Instr := .setRamp tag accel decel thread
      let fits : Prop := 1 ≤ accel ∧ accel ≤ 100 ∧ 1 ≤ decel ∧ decel ≤ 100 ∧ 5 ≤ thread ∧ thread ≤ 60
      (¬fits → s.answers c tag 0x05 4) ∧
      (fits →
        ∃ u : State, exec c s = .next (u.replied tag 0x05 (content u)) ∧
          u.lsv =
            { s.lsv with
              accel := accel, decel := decel, thread := thread
              ceiling := { s.lsv.ceiling with hold := if s.lsv.line = .hold then some thread else s.lsv.ceiling.hold } } ∧
          s.keepsBut u [.lsv])

/-- AckHalt (R155): accepted in HALTED with no fault input of action TRIP active and a measured speed of 0; the line is READY, the stop record
is the last one, and nothing else changes. A refusal lists its items in the layout of R173. The model's choice: the line item is always
listed (log 13), and a fault input's level HIGH is coded 0 and LOW 1 (log 12). -/
def Obligations.AckHalt : Prop :=
  ∀ (s : State) (tag : Nat), s.serves →
    let c : Instr := .ackHalt tag
    let trips := (allIds 4).filter fun i =>
      decide ((s.input i).level = (s.input i).activeHigh) && decide ((s.input i).action = .trip)
    (s.lsv.line ≠ .halted → s.answers c tag 0x06 3) ∧
    (s.lsv.line = .halted → trips ≠ [] ∨ s.lcu.measured ≠ 0 →
      exec c s =
        .next (s.replied tag 0x06 ([9#8] ++ listBytes itemBytes
          (trips.map (fun i => (⟨.faultInput, i.val + 1⟩, if (s.input i).level = true then 0 else 1)) ++
            [(⟨.line, 0⟩, s.lcu.measured)])))) ∧
    (s.lsv.line = .halted → trips = [] → s.lcu.measured = 0 →
      ∃ u : State, exec c s = .next (u.replied tag 0x06 [0#8]) ∧
        u.lsv =
          { s.lsv with
            line := .ready, speedRef := 0, stopped := 0, ceiling := { s.lsv.ceiling with stop := some 0, hold := none }
            stopRec := s.lsv.stopRec.map fun r => { r with active := false } } ∧
        s.keepsBut u [.lsv])

/-- Commit, Park and Unpark (R17, R63, R82, R84, R92, R99, R103, R149, R156): Commit passes exactly when every configuration check does; Park
exactly when no work is pending; on entry to PARK every zone takes the standby setpoint and every set glue station its park gap, and
Unpark returns them (an unset zone then keeps its setpoint by log 21, the model's choice). -/
def Obligations.CommitAndPark : Prop :=
  ∀ (s : State) (tag : Nat), s.serves →
    (let c : Instr := .commit tag
     let good : Prop :=
       (s.lcu.walls ≠ none ∧ s.lcu.width ≠ 0 ∧ firstFailing (geometryChecks s.lcu.geometry) = none ∧
         ∀ i : CounterId, i.val ≤ s.walls → (s.counter i).faulted = false) ∧
       (∀ i : SpliceId, s.spliceInUse i = true → (s.splice i).settings ≠ none) ∧
       (∀ (n : ZoneId) (z : ZoneSettings), (s.zone n).settings = some z → z.dOut < s.dSlit) ∧
       (∀ (m n : ZoneId) (y z : ZoneSettings), m < n → (s.zone m).settings = some y → (s.zone n).settings = some z →
         y.channel ≠ z.channel) ∧
       (∀ k : GlueId, s.glueInUse k = true → (s.glue k).settings ≠ none) ∧
       (∀ (j k : GlueId) (y z : GlueSettings), j < k → (s.glue j).settings = some y → (s.glue k).settings = some z →
         y.channel ≠ z.channel ∧ y.rollRun ≠ z.rollRun) ∧
       ∀ o : OutputId, s.ownerStatus o ≠ .conflict ∧ s.ownerStatus o ≠ .modeMismatch
     (s.lsv.line ≠ .setup → s.answers c tag 0x01 3) ∧
     (s.lsv.line = .setup → ¬good → s.answers c tag 0x01 4) ∧
     (s.lsv.line = .setup → good →
       ∃ u : State, exec c s = .next (u.replied tag 0x01 [0#8]) ∧
         u.lsv =
           { s.lsv with
             line := .ready, speedRef := 0, stopped := 0, ceiling := { s.lsv.ceiling with stop := some 0, hold := none }
             stopRec := s.lsv.stopRec.map fun r => { r with active := false } } ∧
         s.keepsBut u [.lsv])) ∧
    (let c : Instr := .park tag
     let idle : Prop :=
       (∀ i : SpliceId, (s.splice i).phase = .idle ∨ (s.splice i).phase = .standby ∨ (s.splice i).phase = .blocked) ∧
       (∀ i : SlitId, (s.slit i).state ≠ .positioning) ∧
       (∀ j : StackerId, (s.stacker j).state = .stacking ∧ (s.stacker j).holdback = []) ∧
       (∀ o ∈ s.obk.orders, o.phase ≠ .draining) ∧
       (∀ n : ZoneId, (s.zone n).span = none ∧ s.lostSpan (.zone n) = false) ∧
       ∀ k : GlueId, (s.glue k).span = none ∧ s.lostSpan (.glue k) = false
     (s.lsv.line ≠ .ready → s.answers c tag 0x07 3) ∧
     (s.lsv.line = .ready → ¬idle → s.answers c tag 0x07 10) ∧
     (s.lsv.line = .ready → idle →
       ∃ u : State, exec c s = .next (u.replied tag 0x07 [0#8]) ∧ u.lsv.line = .park ∧ u.lsv.speedRef = 0 ∧
         (∀ n : ZoneId, (u.zone n).setpoint = s.bnd.standby) ∧
         (∀ (k : GlueId) (z : GlueSettings), (s.glue k).settings = some z → (s.glue k).state ≠ .off →
           (u.glue k).target = z.parkGap) ∧
         s.keepsBut u [.map, .bnd, .lsv])) ∧
    (let c : Instr := .unpark tag
     (s.lsv.line ≠ .park → s.answers c tag 0x08 3) ∧
     (s.lsv.line = .park →
       ∃ u : State, exec c s = .next (u.replied tag 0x08 [0#8]) ∧ u.lsv.line = .ready ∧ u.lsv.speedRef = 0 ∧
         (∀ n : ZoneId, (s.zone n).settings ≠ none → (u.zone n).setpoint = (u.chooseSetpoint n).1) ∧
         (∀ n : ZoneId, (s.zone n).settings = none → (u.zone n).setpoint = (s.zone n).setpoint) ∧
         (∀ (k : GlueId) (z : GlueSettings), (s.glue k).settings = some z → (s.glue k).state ≠ .off →
           (u.glue k).target = u.chooseTarget k z) ∧
         s.keepsBut u [.map, .bnd, .lsv]))

/-- StartLine and StopLine (R51, R90, R127, R131, R150, R151, R154): a start passes exactly when the four checks do; REQUEST takes the speed, the
line enters RUN, or HOLD with a hold cause, with no RUNNING order the STAGED one becomes RUNNING at LINE + ZC, its lanes cutting scrap up
to there, and a RESTART mark covers the board from LINE − Dmax to LINE, Dmax the greatest D_out of the set zones. StopLine raises
HOST_STOP; while the line is stopping it changes nothing. That the speed is checked before the line state is log 28, and that StopLine in
RUN and HOLD replies a bare OK log 13, both the model's choice. -/
def Obligations.StartAndStop : Prop :=
  ∀ (s : State) (tag : Nat), s.serves →
    (∀ speed : Nat,
      let c : Instr := .startLine tag speed
      let ready (t : Order) : Prop := s.stagedOrder = some t ∧ t.setup = .ready
      let good : Prop := s.lsv.startFlag = false ∧ (∀ i : InputId, (s.input i).latched = true → (s.input i).action ≠ .trip) ∧
        (s.runningOrder ≠ none ∨ ∃ t, ready t) ∧ ∀ k : GlueId, s.glueInUse k = true → (s.glue k).state = .inPosition
      (400 < speed → s.answers c tag 0x02 4) ∧
      (speed ≤ 400 → s.lsv.line ≠ .ready → s.answers c tag 0x02 3) ∧
      (speed ≤ 400 → s.lsv.line = .ready → ¬good → s.answers c tag 0x02 9) ∧
      (speed ≤ 400 → s.lsv.line = .ready → good →
        ∃ (u : State) (p : List Byte), exec c s = .next (u.replied tag 0x02 p) ∧ p.head? = some 0#8 ∧
          u.lsv.line = (if s.lsv.holds.isEmpty = true then .run else .hold) ∧ u.lsv.ceiling.request = speed ∧
          u.lsv.ceiling.stop = none ∧ u.lsv.speedRef = s.lsv.speedRef ∧ u.lsv.holds = s.lsv.holds ∧
          (s.runningOrder ≠ none → u.obk = s.obk ∧ u.dec = s.dec) ∧
          (let t : State := if s.runningOrder = none then (s.setEntry .request (some speed)).firstStart else s
           (∀ (n : ZoneId) (z : ZoneSettings), (s.zone n).settings = some z →
             (∀ (m : ZoneId) (y : ZoneSettings), (s.zone m).settings = some y → y.dOut ≤ z.dOut) →
             u.map = (t.insertMark { start := s.linePos - z.dOut, finish := some s.linePos, body := .restart }).1.map) ∧
           ((∀ n : ZoneId, (s.zone n).settings = none) → u.map = t.map) ∧
           (s.runningOrder = none → (∀ x ∈ s.obk.orders, x.phase ≠ .queued) → ∀ o, ready o →
             let e := s.linePos + s.zc + o.runLength
             t.map = (s.insertMark
               { start := e, finish := some (e + s.zc), body := .orderChange o.tag none false }).1.map)) ∧
          (s.runningOrder = none → ∀ t, ready t →
            let start := s.linePos + s.zc
            u.findOrder t.tag = some { t with phase := .running, start := start, endPos := start + t.runLength, deferred := 0 } ∧
            (∀ i, t.station = some i → (u.slit i).state = .engaged) ∧
            (∀ j : LaneId, (t.lane j).isSome = true →
              (u.lane j).mode = .scrap ∧ (u.lane j).order = some t.tag ∧ (u.lane j).base = some (s.linePos - s.dCut) ∧
              (u.lane j).scrapEnd = some start ∧ (u.lane j).cycling = false ∧ (u.lane j).prevReject = false ∧
              (u.lane j).claim = some (min 400 (s.dec.scrapLen * s.dec.rates[j] / 10000))) ∧
            (∀ j : LaneId, (t.lane j).isSome = false →
              (u.lane j).mode = .idle ∧ (u.lane j).resume = some start ∧ (u.lane j).claim = none) ∧
            u.knifeEntryOk ∧
            ∃ n ∈ u.lnk.notices, n.kind = .orderStarted ∧ n.subject = ⟨.order, t.tag⟩) ∧
          s.sameButMonitor u ∧ s.keepsBut u [.lcu, .map, .obk, .spc, .dec, .lsv, .lnk])) ∧
    (let c : Instr := .stopLine tag
     (s.lsv.line = .run ∨ s.lsv.line = .hold →
       ∃ u : State, exec c s = .next (u.replied tag 0x03 [0#8]) ∧ u.lsv.line = .stopping ∧ u.lsv.stopped = 0 ∧
         u.lsv.stopRec = some
           { active := true, ruling := some .hostStop, detail := none, position := some s.linePos, latest := .hostStop
             latestDetail := none, count := 1 } ∧
         s.keepsBut u [.spc, .lsv]) ∧
     (s.lsv.line = .stopping → exec c s = .next (s.replied tag 0x03 ([0#8] ++ stopCauseByte (s.lsv.stopRec.bind (·.ruling))))) ∧
     (s.lsv.line ≠ .run → s.lsv.line ≠ .hold → s.lsv.line ≠ .stopping → s.answers c tag 0x03 3))

/-- AckStart and Restart (R18, R38, R62, R79, R84, R92, R101, R117, R133, R147, R160 to R162): AckStart clears the start flag; Restart is
refused on a running line, and otherwise clears the run state of every block and keeps the settings, the grade table and the drive latches,
by which the OUTPUT cause of a zone stands anew; a Restart in PARK leaves PARK, which evaluates setpoints and targets first. The STOP and
HOLD entries are those of StepKeepsLine. What the model chooses at Restart is the order of the blocks LSV, LCU, MAP, OBK, SPC, DEC, STK,
BND, DST, so that the span of a faulted pair starts at 0 in the emptied map (log 48, and log 45 inside a block); log 20 (a glue pair is
OFF until its next reading, a faulted pair keeps its target, a station its stale count and the rules in force); log 21 (a zone keeps its
setpoint); log 37 (head drives as last told unless they were positioning, output pulses run on to their ends); log 49 (the table of R79
is taken for UNUSED splice stations, and that of R38 for the bridges of webs out of use); and log 52 (an output FORCED only by the
supply-range shutdown counts among those that a kept latch holds faulted, for a zone's cause and for a glue pair). Fields the spec gives no value start as
log 6 says. -/
def Obligations.AckStartAndRestart : Prop :=
  ∀ (s : State) (tag : Nat), s.serves →
    exec (.ackStart tag) s =
      .next (({ s with lsv := { s.lsv with startFlag := false } } : State).replied tag 0x09
        ([0#8] ++ natBytes 1 s.lsv.resetCause.ctorIdx)) ∧
    (let c : Instr := .restart tag
     let running : Prop := s.lsv.line = .run ∨ s.lsv.line = .hold ∨ s.lsv.line = .stopping
     (running → s.answers c tag 0x0A 3) ∧
     (¬running →
       let b : State := if s.lsv.line = .park then State.evalBonds { s with lsv := { s.lsv with line := .setup } } else s
       ∃ u : State, exec c s = .next (u.replied tag 0x0A [0#8, 2#8]) ∧
         (u.lsv.line = .setup ∧ u.lsv.startFlag = true ∧ u.lsv.resetCause = .restart ∧ u.lsv.speedRef = 0 ∧ u.lsv.stopped = 0 ∧
           u.lsv.stopRec = none ∧
           u.lsv.ceiling =
             { Ceiling.initial with
               bridge := u.lsv.ceiling.bridge, stop := u.lsv.ceiling.stop, hold := u.lsv.ceiling.hold } ∧
           u.bridgeEntryOk ∧ u.lsv.accel = s.lsv.accel ∧
           u.lsv.decel = s.lsv.decel ∧ u.lsv.thread = s.lsv.thread) ∧
         (u.lsv.holds = { HoldSet.empty with faultInput := u.lsv.holds.faultInput } ∧
           (u.lsv.holds.faultInput = true ↔ ∃ i : InputId, (s.input i).latched = true ∧ (s.input i).action = .hold)) ∧
         (∀ i : CounterId, u.counter i =
           { s.counter i with
             c := 0, debt := 0, tally := 0, tallyBase := 0, faulted := false, faultRecord := none, faultCount := 0 }) ∧
         (u.lcu =
           { s.lcu with
             counters := u.lcu.counters, joints := Vector.replicate 7 { armed := false, record := none }, eyes := u.lcu.eyes
             measured := 0, sampleBase := 0 } ∧
           ∀ j : StackerId, u.lcu.eyes[j] = { s.lcu.eyes[j] with count := 0 }) ∧
         ((∀ m ∈ u.map.marks, ∃ k, m = { start := 0, finish := none, body := .bondRisk (.glue k) }) ∧ u.map.ra = none ∧ u.map.lostMarks = 0 ∧
           ∀ x : BondSource, u.lostSpan x = false) ∧
         (∀ k : WebId, u.bridge k = { s.bridge k with content := 0, entries := [], shortfall := 0 }) ∧
         u.obk =
           { s.obk with orders := [], endStatus := .none, pendingIncoming := none, deferral := false, stray := 0 } ∧
         (u.spc = { s.spc with stations := u.spc.stations } ∧
           ∀ i : SpliceId, u.splice i =
             { SpliceStation.initial (s.splice i).speedMatch with
               settings := (s.splice i).settings, activeArm := (s.splice i).activeArm, pulse := (s.splice i).pulse }) ∧
         (∀ n : ZoneId,
           ((u.zone n).output = true ↔ ∃ o : OutputId, s.ownedBy o = some (.zone n) ∧ s.faulted o = true) ∧
           u.zone n =
             { b.zone n with
               enabled := false, state := .off, sensor := false, output := (u.zone n).output, stale := 0, demand := 0, claim := none
               span := none }) ∧
         (∀ k : GlueId,
           let g := b.glue k
           let x : GlueStation :=
             { g with
               timeout := false, output := false, sensor := false, keepWet := none, rollRun := false, turnTime := 0, span := none
               levelA := .off, levelB := .off }
           let fits : Prop := ∃ v, g.latest = .valid v ∧ v ≤ g.target + g.rules.tolerance ∧ g.target ≤ v + g.rules.tolerance
           ((g.settings = none ∨ s.glueInUse k = false) → g.state = .off → u.glue k = x) ∧
           (∀ c : GlueSettings, g.settings = some c → s.glueInUse k = true →
             (s.faulted c.outA = true ∨ s.faulted c.outB = true →
               u.glue k = { x with state := .fault, output := true, span := some 0 } ∧
               { start := 0, finish := none, body := .bondRisk (.glue k) } ∈ u.map.marks ∧
               u.noticed .glueFault .glueStation (k.val + 1)) ∧
             (s.faulted c.outA = false → s.faulted c.outB = false →
               (fits → u.glue k = { x with state := if g.target = c.parkGap then .lifted else .inPosition }) ∧
               (¬fits → u.glue k = { x with state := .moving, target := c.parkGap })))) ∧
         u.bnd = { s.bnd with zones := u.bnd.zones, glues := u.bnd.glues, zeroSpeed := 0 } ∧
         (∀ i : SlitId, u.slit i =
           { s.slit i with
             state := .idle, setup := none, heads := if (s.slit i).state = .positioning then .stop else (s.slit i).heads }) ∧
         (∀ j : LaneId, u.lane j = { CutLane.initial with fire := (s.lane j).fire } ∧ u.queue j = { accepted := [], unjudged := [] }) ∧
         u.dec = { s.dec with stations := u.dec.stations, lanes := u.dec.lanes, queues := u.dec.queues } ∧
         (∀ j : StackerId,
           u.stacker j =
             { Stacker.initial (s.stacker j).conveyorReady (s.stacker j).ejectDone with
               warn := (s.stacker j).warn, crawl := (s.stacker j).crawl, ejectLimit := (s.stacker j).ejectLimit
               tolerance := (s.stacker j).tolerance } ∧
           u.stk.gates[j] = .reject) ∧
         (u.stk.scrapPieces = 0 ∧ u.stk.scrapLength = 0) ∧
         (∃ n ∈ u.lnk.notices, n.kind = .partStarted ∧ n.subject = ⟨.part, 0⟩) ∧
         s.keepsBut u [.lcu, .map, .obk, .spc, .bnd, .dec, .stk, .lsv]))

/-! ### The Link Port -/

/-- The receiver (R163, R164, R166, R170): in HUNT a command lead begins a frame; in COLLECT characters join it, the length field is judged as
it arrives, and a complete frame with a good check is queued, or overflows with its tag and code noticed, and is heard by the silence
monitor, whose LINK_STALE leaves the hold-cause set, with the move from HOLD to RUN when that empties it; every error discards the frame and
is counted and noticed (what a raise does is stated in NoticeTable, what a hold cause's leaving does in StopAndHoldCauses). The model's
choice: while the line is in a break or ignored no character is taken (log 32), a lead character whose stop bit is 0 is a framing error and
begins no frame (log 46), and a valid frame goes to the command queue before the silence monitor (log 48). -/
def Obligations.ReceiverTakes : Prop :=
  (∀ x : ErrorCounts,
    x.count .framing = { x with framing := min (x.framing + 1) 65535 } ∧ x.count .length = { x with length := min (x.length + 1) 65535 } ∧
    x.count .check = { x with check := min (x.check + 1) 65535 } ∧ x.count .kind = { x with kind := min (x.kind + 1) 65535 } ∧
    x.count .part = { x with part := min (x.part + 1) 65535 }) ∧
  ∀ (s : State) (mark : Bool) (b : Byte) (stop : Bool), s.held = false →
    let c : Instr := .receiveCharacter mark b stop
    let stands (r : Receiver) : State := { s with lnk := { s.lnk with receiver := r } }
    let failed (e : LinkError) (r : Receiver) : Prop :=
      let counted : State := { s with lnk := { s.lnk with receiver := r, errors := s.lnk.errors.count e } }
      exec c s = .next (counted.raise .linkError ⟨.link, 0⟩ (natBytes 1 e.ctorIdx)).beginFrame
    (s.lnk.rxLine ≠ .up → exec c s = .next s.beginFrame) ∧
    (s.lnk.rxLine = .up → s.lnk.receiver = .hunt →
      (stop = false →
        exec c s = .next { s with lnk := { s.lnk with errors := s.lnk.errors.count .framing } }.beginFrame) ∧
      (stop = true → mark = false → exec c s = .next s.beginFrame) ∧
      (stop = true → mark = true → b = 0x1C#8 → exec c s = .next (stands (.collect [])).beginFrame) ∧
      (stop = true → mark = true → b ≠ 0x1C#8 → failed .kind .hunt)) ∧
    (∀ got : List Byte, s.lnk.rxLine = .up → s.lnk.receiver = .collect got →
      let bs := got ++ [b]
      let n := (bs.getD 3 0#8).toNat
      let whole : Prop := bs.length = 6 + n ∧ 4 ≤ bs.length ∧ n ≤ 240
      let check := 256 * (bs.getD (4 + n) 0#8).toNat + (bs.getD (5 + n) 0#8).toNat
      let f : Frame :=
        { tag := 256 * (bs.getD 0 0#8).toNat + (bs.getD 1 0#8).toNat, code := (bs.getD 2 0#8).toNat
          payload := (bs.drop 4).take n }
      let hunting : State := stands .hunt
      let queued : State := { hunting with lnk := { hunting.lnk with cmdQueue := s.lnk.cmdQueue ++ [f] } }
      let overflowed : State :=
        State.raise { hunting with lnk := { hunting.lnk with overflow := min (s.lnk.overflow + 1) 65535 } } .linkOverflow ⟨.link, 0⟩
          (natBytes 2 f.tag ++ natBytes 1 f.code)
      let heard (v : State) : State := State.removeHold { v with lnk := { v.lnk with expiries := 0 } } .linkStale
      (stop = false → failed .framing .hunt) ∧
      (stop = true → mark = true → b = 0x1C#8 → failed .part (.collect [])) ∧
      (stop = true → mark = true → b ≠ 0x1C#8 → failed .kind .hunt) ∧
      (stop = true → mark = false → bs.length < 4 ∨ (n ≤ 240 ∧ bs.length < 6 + n) → exec c s = .next (stands (.collect bs)).beginFrame) ∧
      (stop = true → mark = false → 4 ≤ bs.length → 240 < n → failed .length .hunt) ∧
      (stop = true → mark = false → whole → (crc (bs.take (4 + n))).toNat ≠ check → failed .check .hunt) ∧
      (stop = true → mark = false → whole → (crc (bs.take (4 + n))).toNat = check →
        ∃ u : State, exec c s = .next u.beginFrame ∧ u.lnk.receiver = .hunt ∧ u.lnk.expiries = 0 ∧
          u.lsv.holds = s.lsv.holds.put .linkStale false ∧
          (s.lsv.line = .hold → s.lsv.holds.linkStale = true →
            u.lsv.line = if (s.lsv.holds.put .linkStale false).isEmpty = true then .run else .hold) ∧
          (s.lsv.holds.linkStale = false ∨ (s.lsv.line ≠ .run ∧ s.lsv.line ≠ .hold) → u.lsv.line = s.lsv.line) ∧
          u.lnk.errors = s.lnk.errors ∧ u.lnk.replyQueue = s.lnk.replyQueue ∧
          (s.lnk.cmdQueue.length < 4 →
            u = heard queued ∧ u.lnk.cmdQueue = s.lnk.cmdQueue ++ [f] ∧ u.lnk.overflow = s.lnk.overflow) ∧
          (4 ≤ s.lnk.cmdQueue.length →
            u = heard overflowed ∧ u.lnk.cmdQueue = s.lnk.cmdQueue ∧ u.lnk.overflow = min (s.lnk.overflow + 1) 65535 ∧
            u.noticedWith .linkOverflow .link 0 (natBytes 2 f.tag ++ natBytes 1 f.code)) ∧
          s.keepsBut u [.lcu, .spc, .lsv, .lnk]))

/-- Breaks of the receive line (R164, R165): a break discards a frame being collected with reason PARTIAL and a short one ends in HUNT; a
long break is a link reset, which empties the queues, cuts off the frame being sent and keeps the rest, and the line is ignored until it
returns high. That a second BREAK_START does nothing, and that SHORT_BREAK_END and LONG_BREAK_END each act only on the line condition they
end, is log 32, the model's reading. -/
def Obligations.LineBreaks : Prop :=
  ∀ s : State, s.held = false →
    let rx (r : RxLine) : State := { s with lnk := { s.lnk with rxLine := r } }
    (s.lnk.rxLine = .up → s.lnk.receiver = .hunt → exec .breakStart s = .next (rx .inBreak).beginFrame) ∧
    (∀ got, s.lnk.rxLine = .up → s.lnk.receiver = .collect got →
      ∃ u : State, exec .breakStart s = .next u.beginFrame ∧
        u = { s with lnk := { s.lnk with
          rxLine := .inBreak, receiver := .hunt, errors := s.lnk.errors.count .part, notices := u.lnk.notices
          sending := u.lnk.sending } } ∧
        ∃ n ∈ u.lnk.notices, n.kind = .linkError ∧ n.subject = ⟨.link, 0⟩ ∧ n.detail = natBytes 1 LinkError.part.ctorIdx) ∧
    (s.lnk.rxLine ≠ .up → exec .breakStart s = .next s.beginFrame) ∧
    exec .shortBreakEnd s = .next (rx (if s.lnk.rxLine = .inBreak then .up else s.lnk.rxLine)).beginFrame ∧
    exec .linkReset s =
      .next { s with lnk := { s.lnk with
        rxLine := .ignored, receiver := .hunt, cmdQueue := [], replyQueue := [], sending := none } }.beginFrame ∧
    exec .longBreakEnd s = .next (rx (if s.lnk.rxLine = .ignored then .up else s.lnk.rxLine)).beginFrame

/-- Taking a command and sending frames (R165 to R169, R173): with room for its reply the head of the command queue leaves the queue, and
its command does exactly what it does when it is sent to its block; a frame that does not decode is answered UNKNOWN or MALFORMED. A
frame sent whole leaves the reply queue, or its notice entry, which stays pending with the raises taken meanwhile. An UNKNOWN_COMMAND
with a listed code does nothing (log 29). -/
def Obligations.QueueAndTransmit : Prop :=
  ∀ s : State, s.held = false →
    (s.lnk.cmdQueue = [] → exec .commandTake s = .next s.beginFrame) ∧
    (∀ (f : Frame) (rest : List Frame), s.lnk.cmdQueue = f :: rest → s.lnk.replyQueue.length < 4 →
      let t : State := { s with lnk := { s.lnk with cmdQueue := rest } }
      (∀ c : Instr, decodeCommand f.tag f.code f.payload = .ok c → exec .commandTake s = exec c t) ∧
      (decodeCommand f.tag f.code f.payload = .error .unknown →
        exec .commandTake s = .next (t.replied f.tag f.code [2#8])) ∧
      (decodeCommand f.tag f.code f.payload = .error .malformed →
        exec .commandTake s = .next (t.replied f.tag f.code [1#8]))) ∧
    (∀ tag code : Nat, s.lnk.replyQueue.length < 4 →
      (code ∉ commandCodes → exec (.unknownCommand tag code) s = .next (s.replied tag code [2#8])) ∧
      (code ∈ commandCodes → exec (.unknownCommand tag code) s = .next s)) ∧
    (∀ active : Bool, exec (.clearToSendChange active) s = .next { s with lnk := { s.lnk with cts := active } }.beginFrame) ∧
    (s.lnk.sending = none → exec .frameSendComplete s = .next s.beginFrame) ∧
    (∀ f, s.lnk.sending = some (.reply f) →
      exec .frameSendComplete s =
        .next { s with lnk := { s.lnk with sending := none, replyQueue := s.lnk.replyQueue.tail } }.beginFrame) ∧
    ∀ (e : NoticeEntry) (raises : Nat) (pre post : List NoticeEntry) (x : NoticeEntry),
      s.lnk.sending = some (.notice e raises) → s.lnk.notices = pre ++ x :: post → x.kind = e.kind → x.subject = e.subject →
      (∀ y ∈ pre ++ post, ¬(y.kind = e.kind ∧ y.subject = e.subject)) →
      exec .frameSendComplete s =
        .next { s with lnk := { s.lnk with
          sending := none
          notices := if raises = 0 then pre ++ post else pre ++ post ++ [{ x with count := raises }] } }.beginFrame

/-- The silence monitor (R170, R171): an expiry of the running timer holds LINK_STALE and is noticed at count 0, and raises LINK_LOST after
that; a timer that does not run has no effect (log 30). SetLinkTimeout takes 0, or 5 to 300 tenths of a second. The model's choice: the
field and the reply are 2 bytes in tenths of a second (log 13), and a timeout set while the line runs with the monitor off makes the monitor
run at once (log 33). -/
def Obligations.SilenceMonitor : Prop :=
  ∀ s : State,
    let runs : Prop := (s.lsv.line = .run ∨ s.lsv.line = .hold ∨ s.lsv.line = .stopping) ∧ s.lnk.timeout ≠ 0
    (s.held = false → ¬runs → exec .linkTimeoutExpiry s = .next s.beginFrame) ∧
    (s.held = false → runs → s.lnk.expiries = 0 →
      ∃ u : State, exec .linkTimeoutExpiry s = .next u.beginFrame ∧ u.lnk.expiries = 1 ∧ u.lsv.holds.linkStale = true ∧
        (s.lsv.line = .run → s.lsv.holds.isEmpty = true → u.lsv.line = .hold) ∧
        (∃ n ∈ u.lnk.notices, n.kind = .linkStale ∧ n.subject = ⟨.link, 0⟩) ∧
        s.sameButMonitor u ∧ s.keepsBut u [.lcu, .spc, .lsv, .lnk]) ∧
    (s.held = false → runs → s.lnk.expiries ≠ 0 →
      ∃ u : State, exec .linkTimeoutExpiry s = .next u.beginFrame ∧ u.lnk.expiries = 2 ∧ u.lsv.line = .stopping ∧
        (s.lsv.line ≠ .stopping → ∃ r, u.lsv.stopRec = some r ∧ r.ruling = some .linkLost ∧ r.latest = .linkLost) ∧
        s.sameButMonitor u ∧ s.keepsBut u [.spc, .lsv, .lnk]) ∧
    ∀ tag tenths : Nat, s.serves →
      let c : Instr := .setLinkTimeout tag tenths
      (tenths ≠ 0 → tenths < 5 ∨ 300 < tenths → s.answers c tag 0xF2 4) ∧
      (tenths = 0 ∨ (5 ≤ tenths ∧ tenths ≤ 300) →
        exec c s =
          .next (({ s with lnk := { s.lnk with timeout := tenths, expiries := if tenths = 0 then 0 else s.lnk.expiries } } :
            State).replied tag 0xF2 ([0#8] ++ natBytes 2 tenths)))

/-- Raising, choosing and sending notices and replies (R163, R168, R169, R172, R174): a raise of a pending entry keeps its place, counts up to
255 and replaces the detail, a new one joins the end; at a frame boundary a reply goes first, then the earliest entry of the highest class;
the frame being sent is its lead, the one character with mark bit 1, and then tag, code, length, payload and check; and each kind has the
code and the class of the table of R174, SAFETY to INFO as 0 to 3. That a longer payload is cut at 240 bytes is log 15, the model's
choice. -/
def Obligations.NoticeTable : Prop :=
  (∀ (s : State) (k : NoticeKind) (x : Subject) (d : List Byte),
    let t := s.raise k x d
    t = { s with lnk := { s.lnk with notices := t.lnk.notices, sending := t.lnk.sending } } ∧
    ((∀ e ∈ s.lnk.notices, ¬(e.kind = k ∧ e.subject = x)) →
      t.lnk.notices = s.lnk.notices ++ [{ kind := k, subject := x, count := 1, detail := d }]) ∧
    (∀ (pre post : List NoticeEntry) (e : NoticeEntry), s.lnk.notices = pre ++ e :: post → e.kind = k → e.subject = x →
      (∀ y ∈ pre, ¬(y.kind = k ∧ y.subject = x)) →
      t.lnk.notices = pre ++ { e with count := min (e.count + 1) 255, detail := d } :: post) ∧
    ((∀ e r, s.lnk.sending ≠ some (.notice e r)) → t.lnk.sending = s.lnk.sending) ∧
    (∀ e r, s.lnk.sending = some (.notice e r) →
      t.lnk.sending = some (.notice e (if e.kind = k ∧ e.subject = x then min (r + 1) 255 else r)))) ∧
  (∀ s : State,
    (s.lnk.sending ≠ none ∨ s.lnk.cts = false → s.beginFrame = s) ∧
    (s.lnk.sending = none → s.lnk.cts = true →
      (∀ f rest, s.lnk.replyQueue = f :: rest → s.beginFrame = { s with lnk := { s.lnk with sending := some (.reply f) } }) ∧
      (s.lnk.replyQueue = [] → s.lnk.notices = [] → s.beginFrame = s) ∧
      (s.lnk.replyQueue = [] → ∀ (pre post : List NoticeEntry) (e : NoticeEntry), s.lnk.notices = pre ++ e :: post →
        (∀ y ∈ pre, e.kind.class < y.kind.class) → (∀ y ∈ post, e.kind.class ≤ y.kind.class) →
        s.beginFrame = { s with lnk := { s.lnk with sending := some (.notice e 0) } }))) ∧
  (crc [] = 0xFFFF#16 ∧
    ∀ (bs : List Byte) (b : Byte),
      let shift (r : BitVec 16) (bit : Bool) : BitVec 16 := if r.getMsbD 0 = bit then r <<< 1 else (r <<< 1) ^^^ 0x1021#16
      crc (bs ++ [b]) = (List.range 8).foldl (fun r i => shift r (b.getMsbD i)) (crc bs)) ∧
  (let framed (lead : Byte) (tag code : Nat) (payload : List Byte) : List (Bool × Byte) :=
     let sent := payload.take 240
     let body := natBytes 2 tag ++ natBytes 1 code ++ natBytes 1 sent.length ++ sent
     (true, lead) :: (body ++ natBytes 2 (crc body).toNat).map fun b => (false, b)
   (∀ f : Frame, (Sending.reply f).characters = framed 0x2C#8 f.tag f.code f.payload) ∧
   ∀ (e : NoticeEntry) (raises : Nat),
     (Sending.notice e raises).characters =
       framed 0x3C#8 0 e.kind.code
         (natBytes 1 e.subject.type.ctorIdx ++ natBytes 2 e.subject.number ++ natBytes 1 e.count ++ e.detail)) ∧
  ∀ k : NoticeKind,
    (k.code, k.class) = match k with
      | .driveFault => (0x01, 0)
      | .stageFault => (0x02, 0)
      | .inputTrip => (0x03, 0)
      | .partStarted => (0x10, 1)
      | .lineState => (0x11, 1)
      | .counterFault => (0x12, 1)
      | .linkStale => (0x13, 1)
      | .mapFull => (0x14, 1)
      | .markLate => (0x15, 1)
      | .reelOut => (0x16, 1)
      | .spliceSuspect => (0x17, 1)
      | .spliceBlocked => (0x18, 1)
      | .zoneFault => (0x19, 1)
      | .glueFault => (0x1A, 1)
      | .setupFault => (0x1B, 1)
      | .setupLost => (0x1C, 1)
      | .knifeSkipped => (0x1D, 1)
      | .stackerFault => (0x1E, 1)
      | .orderStaged => (0x20, 2)
      | .orderLocked => (0x21, 2)
      | .orderDeferred => (0x22, 2)
      | .orderStarted => (0x23, 2)
      | .orderDone => (0x24, 2)
      | .orderShort => (0x25, 2)
      | .spliceDone => (0x26, 2)
      | .spliceAborted => (0x27, 2)
      | .reelLoaded => (0x28, 2)
      | .reelLow => (0x29, 2)
      | .stackReady => (0x2A, 2)
      | .countMismatch => (0x2B, 2)
      | .speedLimit => (0x30, 3)
      | .bridgeHigh => (0x31, 3)
      | .linkError => (0x32, 3)
      | .linkOverflow => (0x33, 3)

/-- The commands that read (R17, R36, R37, R59, R60, R78, R81, R100, R116, R132, R145, R147, R162, R171 to R173, R176): each is answered OK in every line
state with the fields of its rule in their order and changes no state; a subject that does not exist is refused. A time left on a running
timer is a free value, never above the timer's limit (log 1), counted in the model's own field. What the spec does not give of the fields
(codes, widths, the order of the arms) is logs 12, 13, 14, 39 and 41, the answer that an unset zone looked up log 21, the codes of a glue
station's states log 24, the replies that ReadLink counts log 47: the model's choice; a reply too long for its frame, log 15. -/
def Obligations.Reads : Prop :=
  ∀ (s : State) (tag : Nat), s.serves →
    let gives (c : Instr) (code : Nat) (p : List Byte) : Prop := exec c s = .next (s.replied tag code p) ∧ p.head? = some 0#8
    let timed (runs : Bool) (n : Nat) (c : Instr) (code : Nat) (p : List Byte) : Prop :=
      exec c s = .next (({ s with fresh := if runs = true then s.fresh + n else s.fresh } : State).replied tag code p) ∧
        p.head? = some 0#8
    let subject (x : Subject) : List Byte := natBytes 1 x.type.ctorIdx ++ natBytes 2 x.number
    let left (runs : Bool) (limit : Nat) : List Byte := if runs = true then natBytes 1 (s.timeLeft limit) else [0xFF#8]
    let channel (i : SpliceId) : List Byte := flagBytes s.lcu.joints[i].armed ++ optBytes 6 s.lcu.joints[i].record
    (∀ limit : Nat, s.timeLeft limit ≤ limit) ∧
    (let l := s.lsv
     let h := l.holds
     let stop : List Byte := match l.stopRec with
       | some r =>
         flagBytes r.active ++ optBytes 1 (r.ruling.map fun c => c.ctorIdx) ++ (r.detail.map subject).getD (List.replicate 3 0xFF#8) ++
           optBytes 6 r.position ++ natBytes 1 r.latest.ctorIdx ++ natBytes 1 r.count
       | none => List.replicate 13 0xFF#8
     gives (.readStatus tag) 0x0B
       ([0#8] ++ natBytes 1 l.line.ctorIdx ++
         bitSetBytes 1 [h.linkStale, h.setupOverdue, h.spliceSuspect, h.webCounter, h.faultInput] ++ stop ++
         [some l.ceiling.request, l.ceiling.grade, l.ceiling.splice, l.ceiling.setup, l.ceiling.bond, l.ceiling.bridge, l.ceiling.knife,
           l.ceiling.stacker, l.ceiling.hold, l.ceiling.stop].flatMap (optBytes 2) ++
         natBytes 2 l.ceiling.target ++ natBytes 1 l.ceiling.limiting.ctorIdx ++ natBytes 2 l.speedRef ++ natBytes 2 s.lcu.measured ++
         natBytes 1 l.stopped ++ flagBytes l.startFlag ++ natBytes 1 l.resetCause.ctorIdx ++ natBytes 1 l.accel ++ natBytes 1 l.decel ++
         natBytes 1 l.thread ++ natBytes 1 s.pendingWork.length ++ s.pendingWork.flatMap fun w => subject w.1 ++ natBytes 2 w.2)) ∧
    (let counter (i : CounterId) : List Byte :=
       let c := s.counter i
       flagBytes (!s.counterInUse i) ++ flagBytes c.faulted ++ natBytes 6 c.pos ++ natBytes 6 c.c ++ natBytes 4 c.debt ++
         natBytes 1 c.tally ++ natBytes 6 c.tallyBase ++
         (match c.faultRecord with
           | some r => natBytes 1 r.kind.ctorIdx ++ natBytes 6 r.position
           | none => List.replicate 7 0xFF#8) ++
         natBytes 1 c.faultCount ++ natBytes 4 c.scale
     let g := s.lcu.geometry
     gives (.readLength tag) 0x14
       ([0#8] ++ counter 0 ++ counter 1 ++ flagBytes s.lcu.webPresent[0] ++ counter 2 ++ flagBytes s.lcu.webPresent[1] ++ counter 3 ++
         flagBytes s.lcu.webPresent[2] ++ natBytes 2 s.lcu.measured ++ optBytes 1 s.lcu.walls ++
         (if s.lcu.width = 0 then [0xFF#8, 0xFF#8] else natBytes 2 s.lcu.width) ++
         [g.slit, g.cut, g.rej, g.stk1, g.stk2, max g.stk1 g.stk2].flatMap (fun d => natBytes 4 (d / 10)) ++
         (allIds 7).flatMap channel ++ natBytes 1 s.lcu.eyes[0].edge.ctorIdx ++ natBytes 2 s.lcu.eyes[0].count ++
         natBytes 1 s.lcu.eyes[1].edge.ctorIdx ++ natBytes 2 s.lcu.eyes[1].count ++ flagBytes s.lcu.knifeIndex[0] ++
         flagBytes s.lcu.knifeIndex[1])) ∧
    (∀ first count : Nat,
      (first ≤ 127 → count ≤ 16 →
        gives (.readMap tag first count) 0x24
          ([0#8] ++ natBytes 1 s.map.marks.length ++ natBytes 2 s.map.changeCount ++ optBytes 6 s.map.ra ++ natBytes 2 s.map.lostMarks ++
            bitSetBytes 2 (s.map.lostZone.toList ++ s.map.lostGlue.toList) ++ natBytes 6 s.linePos ++
            listBytes s.markBytes ((s.map.marks.drop first).take count))) ∧
      (127 < first ∨ 16 < count → s.answers (.readMap tag first count) tag 0x24 4)) ∧
    (∀ (k : WebId) (first count : Nat),
      let b := s.bridge k
      let x := s.webPos k - b.content
      let entry (e : BridgeEntry) : List Byte :=
        natBytes 6 e.e ++ natBytes 6 e.before ++ natBytes 6 e.after ++ natBytes 1 (e.station.val + 1) ++ flagBytes e.suspect ++
          natBytes 6 (e.e - x)
      (s.walls < k.val + 1 → s.answers (.readBridge tag (k.val + 1) first count) tag 0x25 3) ∧
      (k.val + 1 ≤ s.walls → 31 < first ∨ 16 < count → s.answers (.readBridge tag (k.val + 1) first count) tag 0x25 4) ∧
      (k.val + 1 ≤ s.walls → first ≤ 31 → count ≤ 16 →
        gives (.readBridge tag (k.val + 1) first count) 0x25
          ([0#8] ++ natBytes 6 (s.webPos k) ++ natBytes 6 b.content ++ natBytes 6 x ++ natBytes 6 b.shortfall ++
            flagBytes (decide (b.content < b.slow)) ++ natBytes 1 (b.slow / 10000) ++ natBytes 2 (b.high / 10000) ++
            natBytes 2 b.crawl ++ natBytes 1 b.entries.length ++ listBytes entry ((b.entries.drop first).take count)))) ∧
    (∀ order : Nat,
      (∀ o, s.findOrder order = some o →
        let laneRecord (l : LaneSpec) : List Byte := natBytes 2 l.length ++ natBytes 1 l.outs ++ natBytes 4 l.target ++ natBytes 2 l.height
        let record : List Byte :=
          natBytes 2 o.tag ++ natBytes 1 o.grade ++ listBytes (natBytes 2) o.knives ++ listBytes (natBytes 2) o.scores ++
            listBytes laneRecord ([o.lane1] ++ o.lane2.toList) ++ natBytes 2 o.makeupLimit
        let ahead : Nat := ((s.obk.orders.takeWhile fun x => x.tag ≠ o.tag).filter fun x => x.phase = .queued).length
        let placed : Prop := o.phase = .running ∨ o.phase = .draining ∨ o.phase = .done
        let tally (j : LaneId) : List Byte :=
          let y := (o.run j).tally
          natBytes 1 (j.val + 1) ++ y.classes.toList.flatMap (natBytes 4) ++ natBytes 4 y.stacked ++ natBytes 4 y.diverted ++
            natBytes 4 y.jamLost ++ natBytes 4 y.stacksMade ++ natBytes 1 y.inQueue ++ bitSetBytes 1 [y.laneEnd, y.drained, y.reported]
        gives (.readOrder tag order) 0x34
          ([0#8] ++ record ++ natBytes 1 o.phase.ctorIdx ++
            optBytes 1 (if o.phase = .staged ∨ o.phase = .running then o.station.map fun i => i.val + 1 else none) ++
            optBytes 1 (if o.phase = .staged then some o.setup.ctorIdx else none) ++
            natBytes 1 (if o.phase = .queued then ahead else 0) ++ optBytes 6 (if placed then some o.start else none) ++
            optBytes 6 (if placed then some o.endPos else none) ++
            natBytes 1 (if o.phase = .running then s.obk.endStatus.ctorIdx else 0) ++ natBytes 6 o.deferred ++
            bitSetBytes 1
              [o.cancelled, o.cutShort, decide (o.phase = .running ∧ s.obk.deferral = true), (o.run 0).complete, (o.run 1).complete,
                decide (o.phase = .staged ∧ s.obk.endStatus = .locked)] ++
            optBytes 1 (if o.phase = .done then some o.outcome.ctorIdx else none) ++
            o.lanes.flatMap fun j => natBytes 4 (o.required j) ++ natBytes 2 (o.run j).makeup ++ natBytes 4 (o.run j).short) ∧
        gives (.readTally tag order) 0x84
          ([0#8] ++ natBytes 2 o.tag ++ o.lanes.flatMap fun j =>
            tally j ++ natBytes 2 o.runs[j].makeup ++ natBytes 4 o.runs[j].short)) ∧
      (s.findOrder order = none →
        s.answers (.readOrder tag order) tag 0x34 6 ∧ s.answers (.readTally tag order) tag 0x84 6)) ∧
    (let entry (o : Order) : List Byte := natBytes 2 o.tag ++ natBytes 1 o.phase.ctorIdx
     let those (p : OrderPhase) : List Order := s.obk.orders.filter fun o => o.phase = p
     ∃ draining : List Order, draining.Perm (those .draining) ∧ draining.Pairwise (fun x y => x.start ≤ y.start) ∧
       gives (.readBook tag) 0x35
         ([0#8] ++ natBytes 1 s.obk.orders.length ++ natBytes 2 s.obk.stray ++
           listBytes entry (those .running ++ those .staged ++ those .queued ++ draining ++ those .done) ++
           natBytes 1 (s.obk.lockMargin / 10000) ++ natBytes 1 (s.obk.deferStep / 10000) ++ natBytes 2 (s.obk.maxDeferral / 10000) ++
           natBytes 2 s.obk.setupCrawl ++ flagBytes s.obk.deferral ++ flagBytes s.lsv.holds.setupOverdue)) ∧
    (∀ i : SpliceId,
      let x := s.splice i
      let reel (r : Reel) : List Byte :=
        natBytes 4 r.tag ++ natBytes 2 r.paper ++ natBytes 2 r.loadLength ++ natBytes 6 r.remaining ++ flagBytes r.lowReported
      let last : List Byte := match x.lastSplice with
        | some r =>
          natBytes 1 r.outcome.ctorIdx ++ optBytes 4 r.oldTag ++ optBytes 2 r.oldPaper ++ natBytes 6 r.stub ++ optBytes 4 r.newTag ++
            (match r.joint with
              | some j => natBytes 6 j.position ++ natBytes 6 j.before ++ natBytes 6 j.after ++ flagBytes j.suspect
              | none => List.replicate 19 0xFF#8)
        | none => List.replicate 36 0xFF#8
      let settings : List Byte := match x.settings with
        | some g =>
          natBytes 1 (g.path / 10000) ++ natBytes 2 (g.arm / 10000) ++ natBytes 1 (g.reserve / 10000) ++ natBytes 1 g.matchLimit ++
            natBytes 1 (g.window / 10000) ++ natBytes 2 g.speed ++ natBytes 1 g.edge.ctorIdx ++ natBytes 2 (g.reelLow / 10000) ++ [1#8]
        | none => List.replicate 11 0xFF#8 ++ [0#8]
      (s.spliceInUse i = true →
        timed (decide (x.phase = .matching)) 1 (.readStation tag (i.val + 1)) 0x45
          ([0#8] ++ natBytes 1 x.phase.ctorIdx ++ flagBytes x.force ++ natBytes 1 x.activeArm.ctorIdx ++
            flagBytes x.activeReel.isNone ++ flagBytes x.standbyReel.isSome ++ x.activeReel.toList.flatMap reel ++
            x.standbyReel.toList.flatMap reel ++ optBytes 6 x.firePos ++ optBytes 6 x.windowEnd ++
            left (decide (x.phase = .matching)) ((x.settings.map fun g => g.matchLimit).getD 0) ++ flagBytes x.speedMatch ++
            flagBytes x.accelerate ++ channel i ++
            flagBytes (decide (x.phase = .matching ∨ x.phase = .matched ∨ x.phase = .confirming)) ++
            optBytes 2 s.lsv.ceiling.splice ++ last ++ natBytes 2 x.confirmed ++ natBytes 2 x.taken ++ natBytes 2 x.failed ++
            natBytes 2 x.notMatched ++ settings ++ natBytes 2 (s.spc.jb / 10) ++ natBytes 2 (s.spc.ja / 10))) ∧
      (s.spliceInUse i = false → s.answers (.readStation tag (i.val + 1)) tag 0x45 3)) ∧
    (∀ g : Nat,
      (∀ i : Fin 32, g = i.val →
        gives (.readGrade tag g) 0x51
          ([0#8] ++ gradeBytes s.bnd.grades[i] ++ natBytes 1 (s.obk.orders.filter fun o => o.grade = g).length)) ∧
      (32 ≤ g → s.answers (.readGrade tag g) tag 0x51 4)) ∧
    (∀ n : ZoneId,
      let z := s.zone n
      gives (.readZone tag (n.val + 1)) 0x56
        ([0#8] ++ zoneSettingBytes z.settings ++ flagBytes z.enabled ++ natBytes 1 z.state.ctorIdx ++ bitSetBytes 1 [z.sensor, z.output] ++
          readingBytes z.latest ++ natBytes 1 z.stale ++ natBytes 2 z.setpoint ++ (s.gradeLookup (s.zoneLookup n)).bytes ++
          natBytes 2 z.demand ++ optBytes 2 z.claim ++ flagBytes z.span.isSome ++ optBytes 6 z.span)) ∧
    (∀ k : GlueId,
      let g := s.glue k
      (s.glueInUse k = true →
        timed (decide (g.state = .moving) || g.rollRun) 2 (.readGlue tag (k.val + 1)) 0x57
          ([0#8] ++ glueSettingBytes g.settings ++ natBytes 1 g.state.ctorIdx ++ bitSetBytes 1 [g.timeout, g.output, g.sensor] ++
            natBytes 2 g.target ++ flagBytes (g.settings.any fun c => decide (c.parkGap = g.target)) ++ readingBytes g.latest ++
            natBytes 1 g.levelA.ctorIdx ++ natBytes 1 g.levelB.ctorIdx ++
            (if g.state = .moving then natBytes 1 (s.timeLeft g.rules.moveLimit) else [0xFF#8]) ++ optBytes 2 g.keepWet ++
            flagBytes g.rollRun ++
            (if g.rollRun = true then natBytes 1 (({ s with fresh := s.fresh + 1 } : State).timeLeft g.turnTime) else [0xFF#8]) ++
            flagBytes s.countsStopped ++ flagBytes g.span.isSome ++ optBytes 6 g.span)) ∧
      (s.glueInUse k = false → s.answers (.readGlue tag (k.val + 1)) tag 0x57 3)) ∧
    gives (.readBond tag) 0x58
      ([0#8] ++ natBytes 1 (s.bnd.heatLead / 10000) ++ natBytes 1 (s.bnd.glueLead / 10000) ++ natBytes 2 s.bnd.standby ++
        optBytes 2 s.lsv.ceiling.bond ++ s.bnd.zones.toList.flatMap (fun z => natBytes 1 z.state.ctorIdx) ++
        s.bnd.glues.toList.flatMap fun g => natBytes 1 g.state.ctorIdx) ∧
    (let owners (o : OutputId) : List Subject :=
       ((allIds 12).filter fun n => (s.zone n).settings.any fun z => z.output = o).map (fun n => ⟨.heatZone, n.val + 1⟩) ++
         (allIds 4).flatMap fun k =>
           (s.glue k).settings.toList.flatMap fun g =>
             if s.glueInUse k = true then ([g.outA, g.outB].filter fun p => p = o).map fun _ => ⟨.glueStation, k.val + 1⟩ else []
     let demanded (g : GenId) : Nat :=
       (((allIds 16).filter fun o => (s.output o).mode = .pwm ∧ (s.output o).generator = some g).map s.demandOf).foldl max 0
     let duty (g : GenId) : Nat := if s.dst.warning = true then min (demanded g) 600 else demanded g
     let output (o : OutputId) : List Byte :=
       let x := s.output o
       natBytes 1 x.mode.ctorIdx ++ optBytes 1 (x.generator.map fun g => g.val + 1) ++ flagBytes x.passive ++
         natBytes 1 (s.ownerStatus o).ctorIdx ++ listBytes subject (owners o) ++ natBytes 1 (s.condition o).ctorIdx ++
         bitSetBytes 1
           ((allIds 4).map (fun i => (s.input i).latched && (s.input i).mask.getLsbD o.val) ++
             [decide (s.dst.supply ≠ .normal), s.dst.thermal]) ++
         flagBytes x.trip ++ flagBytes x.openLoad ++ natBytes 1 x.tripCount ++
         (if s.ownerStatus o ≠ .owned then List.replicate 3 0xFF#8
          else if x.mode = .pwm then natBytes 2 (s.demandOf o) ++ [0xFF#8]
          else List.replicate 2 0xFF#8 ++ natBytes 1 (s.levelOf o).ctorIdx) ++
         flagBytes x.overCurrent ++ flagBytes x.openSense
     let generator (g : GenId) : List Byte :=
       natBytes 2 s.dst.genFreq[g] ++ natBytes 2 (demanded g) ++ natBytes 2 (duty g) ++ flagBytes (decide (duty g < demanded g))
     let input (i : InputId) : List Byte :=
       let f := s.input i
       flagBytes (!f.activeHigh) ++ natBytes 2 f.mask.toNat ++ natBytes 1 f.action.ctorIdx ++ flagBytes (!f.level) ++
         flagBytes (f.level == f.activeHigh) ++ flagBytes f.latched ++ natBytes 6 f.position ++ natBytes 1 f.count
     gives (.readDrive tag) 0x64
       ([0#8] ++ (allIds 16).flatMap output ++ (allIds 8).flatMap generator ++ natBytes 1 s.dst.supply.ctorIdx ++
         flagBytes s.dst.warning ++ flagBytes s.dst.thermal ++ (allIds 4).flatMap input)) ∧
    (let station (i : SlitId) (time : List Byte) : List Byte :=
       let g := s.slit i
       natBytes 1 g.state.ctorIdx ++
         (match g.setup with
           | some x => natBytes 2 x.tag ++ listBytes (natBytes 2) x.knives ++ listBytes (natBytes 2) x.scores
           | none => List.replicate 4 0#8) ++
         time ++ flagBytes g.inPosition ++ natBytes 1 g.faultCount
     let left2 : List Byte :=
       if (s.slit 1).state = .positioning then natBytes 1 (({ s with fresh := s.fresh + 1 } : State).timeLeft s.dec.posLimit)
       else [0xFF#8]
     timed (decide ((s.slit 0).state = .positioning ∨ (s.slit 1).state = .positioning)) 2 (.readSlitter tag) 0x72
       ([0#8] ++ station 0 (left (decide ((s.slit 0).state = .positioning)) s.dec.posLimit) ++ station 1 left2 ++
         natBytes 1 s.dec.posLimit)) ∧
    (let piece (p : Piece) : List Byte :=
       natBytes 2 p.tag ++ natBytes 6 p.start ++ natBytes 6 p.finish ++ natBytes 1 p.cls.ctorIdx ++ natBytes 1 p.layers
     let lane (j : LaneId) : List Byte :=
       let l := s.lane j
       let n := s.nextCut j
       let q := (s.queue j).accepted ++ (s.queue j).unjudged
       natBytes 1 l.mode.ctorIdx ++ natBytes 2 (l.order.getD 0) ++ optBytes 6 l.pieceStart ++ optBytes 6 l.base ++
         optBytes 6 (n.map fun c => c.pos) ++ optBytes 1 (n.map fun c => c.kind.ctorIdx) ++ optBytes 6 (n.bind fun c => c.target) ++
         optBytes 6 (if l.mode = .scrap then l.scrapEnd else if l.mode = .idle then l.resume else none) ++
         flagBytes l.sheetPiece ++ flagBytes l.skipped ++ flagBytes l.prevReject ++ flagBytes l.cycling ++ natBytes 4 l.skips ++
         natBytes 4 l.good ++ optBytes 4 (l.order.bind fun r => (l.handed.find? fun h => h.1 = r).map fun h => h.2) ++
         optBytes 2 l.claim ++ natBytes 1 q.length ++ listBytes piece (q.take 4)
     gives (.readLanes tag) 0x73
       ([0#8] ++ lane 0 ++ lane 1 ++ optBytes 2 s.lsv.ceiling.knife ++ natBytes 2 (s.dec.scrapLen / 10) ++ natBytes 1 s.dec.zoneMult ++
         natBytes 2 (s.dec.gateSwitch / 10) ++ s.dec.rates.toList.flatMap (natBytes 2) ++ natBytes 1 (s.dec.changeLead / 10000) ++
         natBytes 1 s.dec.posLimit)) ∧
    timed (decide ((s.stacker 0).state = .ejecting) || decide ((s.stacker 1).state = .ejecting)) 2 (.readStackers tag) 0x83
      ([0#8] ++ s.stackerBytes 0 ++ ({ s with fresh := s.fresh + 1 } : State).stackerBytes 1 ++ s.gateBytes 0 ++ s.gateBytes 1 ++
        optBytes 2 s.lsv.ceiling.stacker ++ natBytes 4 s.stk.scrapPieces ++ natBytes 6 s.stk.scrapLength) ∧
    (∀ bytes : List Byte, exec (.ping tag bytes) s = .next (s.replied tag 0xF0 (0#8 :: bytes))) ∧
    exec (.identify tag) s = .next (s.replied tag 0xF1 [0#8, 0x4F#8, 0x4C#8, 0x54#8, 0x43#8, 0x4C#8, 0x38#8, 0x36#8, 3#8]) ∧
    (let e := s.lnk.errors
     let pending (c : Nat) : List Byte := natBytes 2 (s.lnk.notices.filter fun x => x.kind.class = c).length
     timed s.monitorRuns 1 (.readLink tag) 0xF3
       ([0#8] ++ [e.framing, e.length, e.check, e.kind, e.part, s.lnk.overflow].flatMap (natBytes 2) ++
         natBytes 1 s.lnk.cmdQueue.length ++ natBytes 1 s.lnk.replyQueue.length ++ flagBytes (decide (s.lnk.cmdQueue.length < 4)) ++
         flagBytes s.lnk.cts ++ natBytes 2 s.lnk.timeout ++ flagBytes s.monitorRuns ++
         (if s.monitorRuns = true then natBytes 2 (s.timeLeft s.lnk.timeout) else [0xFF#8, 0xFF#8]) ++ natBytes 1 s.lnk.expiries ++
         pending 0 ++ pending 1 ++ pending 2 ++ pending 3))

/-! ### Encoding and invariants -/

/-- Decoding and encoding agree: the payload written from a host command's layout, for every command that a frame can carry, decodes to that
command. -/
def Obligations.DecodeEncodeAgree : Prop :=
  ∀ (i : Instr) (l : HostLayout), i.wf = true → i.layout = some l → decodeCommand l.tag l.code (fieldBytes l.fields) = .ok i

/-- Every step keeps the agreement of the line state with the ceiling table, the speed reference, the hold causes and the start flag (R148 to
R150, R152 to R154, R157, R158, R160): in SETUP, READY, HALTED, PARK and STOPPING the STOP entry is 0, in the standing states the speed
reference is 0, RUN has no hold cause and HOLD has one, and the line runs only with the start flag clear. -/
def Obligations.StepKeepsLine : Prop := ∀ s t : State, s.LineOk → step s = .next t → t.LineOk

/-- Every step keeps the link queues within their four places, and a reply being sent at the head of the reply queue. -/
def Obligations.StepKeepsQueues : Prop := ∀ s t : State, s.QueueOk → step s = .next t → t.QueueOk

/-- Every step keeps the web map within 128 marks in order of start, no mark ending before it starts, and every bridge list within 32 entries
in order of E-coordinate (R19, R20, R29); it keeps the order book within 16 orders of distinct tags, at most one RUNNING and at most one
STAGED, with at most one unlocked ORDER_CHANGE mark in the map, which is there only while the RUNNING order's end mark is placed (R39, R41,
R45); and it keeps every bridge entry above X_k (R29). The law of R26 on closed marks is StepKeepsMarksAhead. -/
def Obligations.StepKeepsMap : Prop :=
  (∀ s t : State, s.MapOk → step s = .next t → t.MapOk) ∧ (∀ s t : State, s.BookOk → step s = .next t → t.BookOk) ∧
  ∀ s t : State, s.MapOk → s.EntriesAhead → step s = .next t → t.EntriesAhead

/-- Every mark of the web map is an open span or ends at or above LINE − D_LAST, end + D_LAST above LINE (R26): it is so after the MAP's part
of every LINE advance, whatever the state before it, and every step keeps it with the limits that the settings' ranges and Commit give (a
defer step above 0, R46; D_SLIT up to D_LAST and every zone's D_in below D_LAST, R14, R17, R82), unless the step gives the line other station
distances, as SetGeometry can in SETUP (R14). There the law waits for the next LINE advance, which alone removes marks: log 50, the model's
reading (DEDUCED). -/
def Obligations.StepKeepsMarksAhead : Prop :=
  (∀ (s : State) (d : Nat), (s.mapAdvance d).MarksAhead) ∧
  ∀ s t : State, s.BookOk → 0 < s.obk.deferStep → s.dSlit ≤ s.dLast → (∀ n : ZoneId, s.zoneIn n < s.dLast) → s.MarksAhead →
    step s = .next t → (s.lsv.line = .setup → t.lcu.geometry = s.lcu.geometry) → t.MarksAhead

/-- The six invariants hold at reset. -/
def Obligations.InvariantsAtReset : Prop :=
  State.reset.LineOk ∧ State.reset.QueueOk ∧ State.reset.MapOk ∧ State.reset.BookOk ∧ State.reset.EntriesAhead ∧ State.reset.MarksAhead
end

