-- ==== Sys2Proof/Laws/State.lean ====
section
/-! SUPPORT. Field-update lemmas: what each update of a part of State leaves, and an element read after it is changed. -/

namespace Sys2Proof.Machine

/-! ### Elements of a vector -/

@[simp] theorem getElem_modifyAt_self {α : Type} {n : Nat} (v : Vector α n) (i : Fin n) (f : α → α) :
    (modifyAt v i f)[i] = f v[i] := by
  simp [modifyAt]

theorem getElem_modifyAt_ne {α : Type} {n : Nat} (v : Vector α n) {i j : Fin n} (f : α → α) (h : j ≠ i) :
    (modifyAt v i f)[j] = v[j] := by
  have : (i : Nat) ≠ j := fun e => h (Fin.ext e.symm)
  simp [modifyAt, this]

@[simp] theorem modifyAt_modifyAt {α : Type} {n : Nat} (v : Vector α n) (i : Fin n) (f g : α → α) :
    modifyAt (modifyAt v i f) i g = modifyAt v i (fun x => g (f x)) := by
  simp [modifyAt]

/-! ### onCounter -/

@[simp] theorem State.onCounter_map (s : State) (i : CounterId) (f : Counter → Counter) : (s.onCounter i f).map = s.map := rfl
@[simp] theorem State.onCounter_obk (s : State) (i : CounterId) (f : Counter → Counter) : (s.onCounter i f).obk = s.obk := rfl
@[simp] theorem State.onCounter_spc (s : State) (i : CounterId) (f : Counter → Counter) : (s.onCounter i f).spc = s.spc := rfl
@[simp] theorem State.onCounter_bnd (s : State) (i : CounterId) (f : Counter → Counter) : (s.onCounter i f).bnd = s.bnd := rfl
@[simp] theorem State.onCounter_dst (s : State) (i : CounterId) (f : Counter → Counter) : (s.onCounter i f).dst = s.dst := rfl
@[simp] theorem State.onCounter_dec (s : State) (i : CounterId) (f : Counter → Counter) : (s.onCounter i f).dec = s.dec := rfl
@[simp] theorem State.onCounter_stk (s : State) (i : CounterId) (f : Counter → Counter) : (s.onCounter i f).stk = s.stk := rfl
@[simp] theorem State.onCounter_lsv (s : State) (i : CounterId) (f : Counter → Counter) : (s.onCounter i f).lsv = s.lsv := rfl
@[simp] theorem State.onCounter_lnk (s : State) (i : CounterId) (f : Counter → Counter) : (s.onCounter i f).lnk = s.lnk := rfl
@[simp] theorem State.onCounter_held (s : State) (i : CounterId) (f : Counter → Counter) : (s.onCounter i f).held = s.held := rfl
@[simp] theorem State.onCounter_fresh (s : State) (i : CounterId) (f : Counter → Counter) : (s.onCounter i f).fresh = s.fresh := rfl
@[simp] theorem State.onCounter_pending (s : State) (i : CounterId) (f : Counter → Counter) : (s.onCounter i f).pending = s.pending := rfl
@[simp] theorem State.onCounter_phases (s : State) (i : CounterId) (f : Counter → Counter) : (s.onCounter i f).lcu.phases = s.lcu.phases := rfl
@[simp] theorem State.onCounter_webPresent (s : State) (i : CounterId) (f : Counter → Counter) : (s.onCounter i f).lcu.webPresent = s.lcu.webPresent := rfl
@[simp] theorem State.onCounter_joints (s : State) (i : CounterId) (f : Counter → Counter) : (s.onCounter i f).lcu.joints = s.lcu.joints := rfl
@[simp] theorem State.onCounter_eyes (s : State) (i : CounterId) (f : Counter → Counter) : (s.onCounter i f).lcu.eyes = s.lcu.eyes := rfl
@[simp] theorem State.onCounter_knifeIndex (s : State) (i : CounterId) (f : Counter → Counter) : (s.onCounter i f).lcu.knifeIndex = s.lcu.knifeIndex := rfl
@[simp] theorem State.onCounter_measured (s : State) (i : CounterId) (f : Counter → Counter) : (s.onCounter i f).lcu.measured = s.lcu.measured := rfl
@[simp] theorem State.onCounter_sampleBase (s : State) (i : CounterId) (f : Counter → Counter) : (s.onCounter i f).lcu.sampleBase = s.lcu.sampleBase := rfl
@[simp] theorem State.onCounter_geometry (s : State) (i : CounterId) (f : Counter → Counter) : (s.onCounter i f).lcu.geometry = s.lcu.geometry := rfl
@[simp] theorem State.onCounter_walls (s : State) (i : CounterId) (f : Counter → Counter) : (s.onCounter i f).lcu.walls = s.lcu.walls := rfl
@[simp] theorem State.onCounter_width (s : State) (i : CounterId) (f : Counter → Counter) : (s.onCounter i f).lcu.width = s.lcu.width := rfl
@[simp] theorem State.onCounter_self (s : State) (i : CounterId) (f : Counter → Counter) : (s.onCounter i f).counter i = f (s.counter i) :=
  getElem_modifyAt_self _ _ _
theorem State.onCounter_ne (s : State) (i : CounterId) (f : Counter → Counter) {j : CounterId} (h : j ≠ i) : (s.onCounter i f).counter j = s.counter j :=
  getElem_modifyAt_ne _ _ h

/-! ### onJoint -/

@[simp] theorem State.onJoint_map (s : State) (i : SpliceId) (f : JointChannel → JointChannel) : (s.onJoint i f).map = s.map := rfl
@[simp] theorem State.onJoint_obk (s : State) (i : SpliceId) (f : JointChannel → JointChannel) : (s.onJoint i f).obk = s.obk := rfl
@[simp] theorem State.onJoint_spc (s : State) (i : SpliceId) (f : JointChannel → JointChannel) : (s.onJoint i f).spc = s.spc := rfl
@[simp] theorem State.onJoint_bnd (s : State) (i : SpliceId) (f : JointChannel → JointChannel) : (s.onJoint i f).bnd = s.bnd := rfl
@[simp] theorem State.onJoint_dst (s : State) (i : SpliceId) (f : JointChannel → JointChannel) : (s.onJoint i f).dst = s.dst := rfl
@[simp] theorem State.onJoint_dec (s : State) (i : SpliceId) (f : JointChannel → JointChannel) : (s.onJoint i f).dec = s.dec := rfl
@[simp] theorem State.onJoint_stk (s : State) (i : SpliceId) (f : JointChannel → JointChannel) : (s.onJoint i f).stk = s.stk := rfl
@[simp] theorem State.onJoint_lsv (s : State) (i : SpliceId) (f : JointChannel → JointChannel) : (s.onJoint i f).lsv = s.lsv := rfl
@[simp] theorem State.onJoint_lnk (s : State) (i : SpliceId) (f : JointChannel → JointChannel) : (s.onJoint i f).lnk = s.lnk := rfl
@[simp] theorem State.onJoint_held (s : State) (i : SpliceId) (f : JointChannel → JointChannel) : (s.onJoint i f).held = s.held := rfl
@[simp] theorem State.onJoint_fresh (s : State) (i : SpliceId) (f : JointChannel → JointChannel) : (s.onJoint i f).fresh = s.fresh := rfl
@[simp] theorem State.onJoint_pending (s : State) (i : SpliceId) (f : JointChannel → JointChannel) : (s.onJoint i f).pending = s.pending := rfl
@[simp] theorem State.onJoint_counters (s : State) (i : SpliceId) (f : JointChannel → JointChannel) : (s.onJoint i f).lcu.counters = s.lcu.counters := rfl
@[simp] theorem State.onJoint_phases (s : State) (i : SpliceId) (f : JointChannel → JointChannel) : (s.onJoint i f).lcu.phases = s.lcu.phases := rfl
@[simp] theorem State.onJoint_webPresent (s : State) (i : SpliceId) (f : JointChannel → JointChannel) : (s.onJoint i f).lcu.webPresent = s.lcu.webPresent := rfl
@[simp] theorem State.onJoint_eyes (s : State) (i : SpliceId) (f : JointChannel → JointChannel) : (s.onJoint i f).lcu.eyes = s.lcu.eyes := rfl
@[simp] theorem State.onJoint_knifeIndex (s : State) (i : SpliceId) (f : JointChannel → JointChannel) : (s.onJoint i f).lcu.knifeIndex = s.lcu.knifeIndex := rfl
@[simp] theorem State.onJoint_measured (s : State) (i : SpliceId) (f : JointChannel → JointChannel) : (s.onJoint i f).lcu.measured = s.lcu.measured := rfl
@[simp] theorem State.onJoint_sampleBase (s : State) (i : SpliceId) (f : JointChannel → JointChannel) : (s.onJoint i f).lcu.sampleBase = s.lcu.sampleBase := rfl
@[simp] theorem State.onJoint_geometry (s : State) (i : SpliceId) (f : JointChannel → JointChannel) : (s.onJoint i f).lcu.geometry = s.lcu.geometry := rfl
@[simp] theorem State.onJoint_walls (s : State) (i : SpliceId) (f : JointChannel → JointChannel) : (s.onJoint i f).lcu.walls = s.lcu.walls := rfl
@[simp] theorem State.onJoint_width (s : State) (i : SpliceId) (f : JointChannel → JointChannel) : (s.onJoint i f).lcu.width = s.lcu.width := rfl

/-! ### onEye -/

@[simp] theorem State.onEye_map (s : State) (i : StackerId) (f : SheetEye → SheetEye) : (s.onEye i f).map = s.map := rfl
@[simp] theorem State.onEye_obk (s : State) (i : StackerId) (f : SheetEye → SheetEye) : (s.onEye i f).obk = s.obk := rfl
@[simp] theorem State.onEye_spc (s : State) (i : StackerId) (f : SheetEye → SheetEye) : (s.onEye i f).spc = s.spc := rfl
@[simp] theorem State.onEye_bnd (s : State) (i : StackerId) (f : SheetEye → SheetEye) : (s.onEye i f).bnd = s.bnd := rfl
@[simp] theorem State.onEye_dst (s : State) (i : StackerId) (f : SheetEye → SheetEye) : (s.onEye i f).dst = s.dst := rfl
@[simp] theorem State.onEye_dec (s : State) (i : StackerId) (f : SheetEye → SheetEye) : (s.onEye i f).dec = s.dec := rfl
@[simp] theorem State.onEye_stk (s : State) (i : StackerId) (f : SheetEye → SheetEye) : (s.onEye i f).stk = s.stk := rfl
@[simp] theorem State.onEye_lsv (s : State) (i : StackerId) (f : SheetEye → SheetEye) : (s.onEye i f).lsv = s.lsv := rfl
@[simp] theorem State.onEye_lnk (s : State) (i : StackerId) (f : SheetEye → SheetEye) : (s.onEye i f).lnk = s.lnk := rfl
@[simp] theorem State.onEye_held (s : State) (i : StackerId) (f : SheetEye → SheetEye) : (s.onEye i f).held = s.held := rfl
@[simp] theorem State.onEye_fresh (s : State) (i : StackerId) (f : SheetEye → SheetEye) : (s.onEye i f).fresh = s.fresh := rfl
@[simp] theorem State.onEye_pending (s : State) (i : StackerId) (f : SheetEye → SheetEye) : (s.onEye i f).pending = s.pending := rfl
@[simp] theorem State.onEye_counters (s : State) (i : StackerId) (f : SheetEye → SheetEye) : (s.onEye i f).lcu.counters = s.lcu.counters := rfl
@[simp] theorem State.onEye_phases (s : State) (i : StackerId) (f : SheetEye → SheetEye) : (s.onEye i f).lcu.phases = s.lcu.phases := rfl
@[simp] theorem State.onEye_webPresent (s : State) (i : StackerId) (f : SheetEye → SheetEye) : (s.onEye i f).lcu.webPresent = s.lcu.webPresent := rfl
@[simp] theorem State.onEye_joints (s : State) (i : StackerId) (f : SheetEye → SheetEye) : (s.onEye i f).lcu.joints = s.lcu.joints := rfl
@[simp] theorem State.onEye_knifeIndex (s : State) (i : StackerId) (f : SheetEye → SheetEye) : (s.onEye i f).lcu.knifeIndex = s.lcu.knifeIndex := rfl
@[simp] theorem State.onEye_measured (s : State) (i : StackerId) (f : SheetEye → SheetEye) : (s.onEye i f).lcu.measured = s.lcu.measured := rfl
@[simp] theorem State.onEye_sampleBase (s : State) (i : StackerId) (f : SheetEye → SheetEye) : (s.onEye i f).lcu.sampleBase = s.lcu.sampleBase := rfl
@[simp] theorem State.onEye_geometry (s : State) (i : StackerId) (f : SheetEye → SheetEye) : (s.onEye i f).lcu.geometry = s.lcu.geometry := rfl
@[simp] theorem State.onEye_walls (s : State) (i : StackerId) (f : SheetEye → SheetEye) : (s.onEye i f).lcu.walls = s.lcu.walls := rfl
@[simp] theorem State.onEye_width (s : State) (i : StackerId) (f : SheetEye → SheetEye) : (s.onEye i f).lcu.width = s.lcu.width := rfl

/-! ### onBridge -/

@[simp] theorem State.onBridge_lcu (s : State) (i : WebId) (f : Bridge → Bridge) : (s.onBridge i f).lcu = s.lcu := rfl
@[simp] theorem State.onBridge_obk (s : State) (i : WebId) (f : Bridge → Bridge) : (s.onBridge i f).obk = s.obk := rfl
@[simp] theorem State.onBridge_spc (s : State) (i : WebId) (f : Bridge → Bridge) : (s.onBridge i f).spc = s.spc := rfl
@[simp] theorem State.onBridge_bnd (s : State) (i : WebId) (f : Bridge → Bridge) : (s.onBridge i f).bnd = s.bnd := rfl
@[simp] theorem State.onBridge_dst (s : State) (i : WebId) (f : Bridge → Bridge) : (s.onBridge i f).dst = s.dst := rfl
@[simp] theorem State.onBridge_dec (s : State) (i : WebId) (f : Bridge → Bridge) : (s.onBridge i f).dec = s.dec := rfl
@[simp] theorem State.onBridge_stk (s : State) (i : WebId) (f : Bridge → Bridge) : (s.onBridge i f).stk = s.stk := rfl
@[simp] theorem State.onBridge_lsv (s : State) (i : WebId) (f : Bridge → Bridge) : (s.onBridge i f).lsv = s.lsv := rfl
@[simp] theorem State.onBridge_lnk (s : State) (i : WebId) (f : Bridge → Bridge) : (s.onBridge i f).lnk = s.lnk := rfl
@[simp] theorem State.onBridge_held (s : State) (i : WebId) (f : Bridge → Bridge) : (s.onBridge i f).held = s.held := rfl
@[simp] theorem State.onBridge_fresh (s : State) (i : WebId) (f : Bridge → Bridge) : (s.onBridge i f).fresh = s.fresh := rfl
@[simp] theorem State.onBridge_pending (s : State) (i : WebId) (f : Bridge → Bridge) : (s.onBridge i f).pending = s.pending := rfl
@[simp] theorem State.onBridge_marks (s : State) (i : WebId) (f : Bridge → Bridge) : (s.onBridge i f).map.marks = s.map.marks := rfl
@[simp] theorem State.onBridge_changeCount (s : State) (i : WebId) (f : Bridge → Bridge) : (s.onBridge i f).map.changeCount = s.map.changeCount := rfl
@[simp] theorem State.onBridge_lostMarks (s : State) (i : WebId) (f : Bridge → Bridge) : (s.onBridge i f).map.lostMarks = s.map.lostMarks := rfl
@[simp] theorem State.onBridge_ra (s : State) (i : WebId) (f : Bridge → Bridge) : (s.onBridge i f).map.ra = s.map.ra := rfl
@[simp] theorem State.onBridge_lostZone (s : State) (i : WebId) (f : Bridge → Bridge) : (s.onBridge i f).map.lostZone = s.map.lostZone := rfl
@[simp] theorem State.onBridge_lostGlue (s : State) (i : WebId) (f : Bridge → Bridge) : (s.onBridge i f).map.lostGlue = s.map.lostGlue := rfl
@[simp] theorem State.onBridge_self (s : State) (i : WebId) (f : Bridge → Bridge) : (s.onBridge i f).bridge i = f (s.bridge i) :=
  getElem_modifyAt_self _ _ _
theorem State.onBridge_ne (s : State) (i : WebId) (f : Bridge → Bridge) {j : WebId} (h : j ≠ i) : (s.onBridge i f).bridge j = s.bridge j :=
  getElem_modifyAt_ne _ _ h

/-! ### onSplice -/

@[simp] theorem State.onSplice_lcu (s : State) (i : SpliceId) (f : SpliceStation → SpliceStation) : (s.onSplice i f).lcu = s.lcu := rfl
@[simp] theorem State.onSplice_map (s : State) (i : SpliceId) (f : SpliceStation → SpliceStation) : (s.onSplice i f).map = s.map := rfl
@[simp] theorem State.onSplice_obk (s : State) (i : SpliceId) (f : SpliceStation → SpliceStation) : (s.onSplice i f).obk = s.obk := rfl
@[simp] theorem State.onSplice_bnd (s : State) (i : SpliceId) (f : SpliceStation → SpliceStation) : (s.onSplice i f).bnd = s.bnd := rfl
@[simp] theorem State.onSplice_dst (s : State) (i : SpliceId) (f : SpliceStation → SpliceStation) : (s.onSplice i f).dst = s.dst := rfl
@[simp] theorem State.onSplice_dec (s : State) (i : SpliceId) (f : SpliceStation → SpliceStation) : (s.onSplice i f).dec = s.dec := rfl
@[simp] theorem State.onSplice_stk (s : State) (i : SpliceId) (f : SpliceStation → SpliceStation) : (s.onSplice i f).stk = s.stk := rfl
@[simp] theorem State.onSplice_lsv (s : State) (i : SpliceId) (f : SpliceStation → SpliceStation) : (s.onSplice i f).lsv = s.lsv := rfl
@[simp] theorem State.onSplice_lnk (s : State) (i : SpliceId) (f : SpliceStation → SpliceStation) : (s.onSplice i f).lnk = s.lnk := rfl
@[simp] theorem State.onSplice_held (s : State) (i : SpliceId) (f : SpliceStation → SpliceStation) : (s.onSplice i f).held = s.held := rfl
@[simp] theorem State.onSplice_fresh (s : State) (i : SpliceId) (f : SpliceStation → SpliceStation) : (s.onSplice i f).fresh = s.fresh := rfl
@[simp] theorem State.onSplice_pending (s : State) (i : SpliceId) (f : SpliceStation → SpliceStation) : (s.onSplice i f).pending = s.pending := rfl
@[simp] theorem State.onSplice_jb (s : State) (i : SpliceId) (f : SpliceStation → SpliceStation) : (s.onSplice i f).spc.jb = s.spc.jb := rfl
@[simp] theorem State.onSplice_ja (s : State) (i : SpliceId) (f : SpliceStation → SpliceStation) : (s.onSplice i f).spc.ja = s.spc.ja := rfl
@[simp] theorem State.onSplice_self (s : State) (i : SpliceId) (f : SpliceStation → SpliceStation) : (s.onSplice i f).splice i = f (s.splice i) :=
  getElem_modifyAt_self _ _ _
theorem State.onSplice_ne (s : State) (i : SpliceId) (f : SpliceStation → SpliceStation) {j : SpliceId} (h : j ≠ i) : (s.onSplice i f).splice j = s.splice j :=
  getElem_modifyAt_ne _ _ h

/-! ### onZone -/

@[simp] theorem State.onZone_lcu (s : State) (i : ZoneId) (f : Zone → Zone) : (s.onZone i f).lcu = s.lcu := rfl
@[simp] theorem State.onZone_map (s : State) (i : ZoneId) (f : Zone → Zone) : (s.onZone i f).map = s.map := rfl
@[simp] theorem State.onZone_obk (s : State) (i : ZoneId) (f : Zone → Zone) : (s.onZone i f).obk = s.obk := rfl
@[simp] theorem State.onZone_spc (s : State) (i : ZoneId) (f : Zone → Zone) : (s.onZone i f).spc = s.spc := rfl
@[simp] theorem State.onZone_dst (s : State) (i : ZoneId) (f : Zone → Zone) : (s.onZone i f).dst = s.dst := rfl
@[simp] theorem State.onZone_dec (s : State) (i : ZoneId) (f : Zone → Zone) : (s.onZone i f).dec = s.dec := rfl
@[simp] theorem State.onZone_stk (s : State) (i : ZoneId) (f : Zone → Zone) : (s.onZone i f).stk = s.stk := rfl
@[simp] theorem State.onZone_lsv (s : State) (i : ZoneId) (f : Zone → Zone) : (s.onZone i f).lsv = s.lsv := rfl
@[simp] theorem State.onZone_lnk (s : State) (i : ZoneId) (f : Zone → Zone) : (s.onZone i f).lnk = s.lnk := rfl
@[simp] theorem State.onZone_held (s : State) (i : ZoneId) (f : Zone → Zone) : (s.onZone i f).held = s.held := rfl
@[simp] theorem State.onZone_fresh (s : State) (i : ZoneId) (f : Zone → Zone) : (s.onZone i f).fresh = s.fresh := rfl
@[simp] theorem State.onZone_pending (s : State) (i : ZoneId) (f : Zone → Zone) : (s.onZone i f).pending = s.pending := rfl
@[simp] theorem State.onZone_grades (s : State) (i : ZoneId) (f : Zone → Zone) : (s.onZone i f).bnd.grades = s.bnd.grades := rfl
@[simp] theorem State.onZone_glues (s : State) (i : ZoneId) (f : Zone → Zone) : (s.onZone i f).bnd.glues = s.bnd.glues := rfl
@[simp] theorem State.onZone_heatLead (s : State) (i : ZoneId) (f : Zone → Zone) : (s.onZone i f).bnd.heatLead = s.bnd.heatLead := rfl
@[simp] theorem State.onZone_glueLead (s : State) (i : ZoneId) (f : Zone → Zone) : (s.onZone i f).bnd.glueLead = s.bnd.glueLead := rfl
@[simp] theorem State.onZone_standby (s : State) (i : ZoneId) (f : Zone → Zone) : (s.onZone i f).bnd.standby = s.bnd.standby := rfl
@[simp] theorem State.onZone_zeroSpeed (s : State) (i : ZoneId) (f : Zone → Zone) : (s.onZone i f).bnd.zeroSpeed = s.bnd.zeroSpeed := rfl
@[simp] theorem State.onZone_self (s : State) (i : ZoneId) (f : Zone → Zone) : (s.onZone i f).zone i = f (s.zone i) :=
  getElem_modifyAt_self _ _ _
theorem State.onZone_ne (s : State) (i : ZoneId) (f : Zone → Zone) {j : ZoneId} (h : j ≠ i) : (s.onZone i f).zone j = s.zone j :=
  getElem_modifyAt_ne _ _ h

/-! ### onGlue -/

@[simp] theorem State.onGlue_lcu (s : State) (i : GlueId) (f : GlueStation → GlueStation) : (s.onGlue i f).lcu = s.lcu := rfl
@[simp] theorem State.onGlue_map (s : State) (i : GlueId) (f : GlueStation → GlueStation) : (s.onGlue i f).map = s.map := rfl
@[simp] theorem State.onGlue_obk (s : State) (i : GlueId) (f : GlueStation → GlueStation) : (s.onGlue i f).obk = s.obk := rfl
@[simp] theorem State.onGlue_spc (s : State) (i : GlueId) (f : GlueStation → GlueStation) : (s.onGlue i f).spc = s.spc := rfl
@[simp] theorem State.onGlue_dst (s : State) (i : GlueId) (f : GlueStation → GlueStation) : (s.onGlue i f).dst = s.dst := rfl
@[simp] theorem State.onGlue_dec (s : State) (i : GlueId) (f : GlueStation → GlueStation) : (s.onGlue i f).dec = s.dec := rfl
@[simp] theorem State.onGlue_stk (s : State) (i : GlueId) (f : GlueStation → GlueStation) : (s.onGlue i f).stk = s.stk := rfl
@[simp] theorem State.onGlue_lsv (s : State) (i : GlueId) (f : GlueStation → GlueStation) : (s.onGlue i f).lsv = s.lsv := rfl
@[simp] theorem State.onGlue_lnk (s : State) (i : GlueId) (f : GlueStation → GlueStation) : (s.onGlue i f).lnk = s.lnk := rfl
@[simp] theorem State.onGlue_held (s : State) (i : GlueId) (f : GlueStation → GlueStation) : (s.onGlue i f).held = s.held := rfl
@[simp] theorem State.onGlue_fresh (s : State) (i : GlueId) (f : GlueStation → GlueStation) : (s.onGlue i f).fresh = s.fresh := rfl
@[simp] theorem State.onGlue_pending (s : State) (i : GlueId) (f : GlueStation → GlueStation) : (s.onGlue i f).pending = s.pending := rfl
@[simp] theorem State.onGlue_grades (s : State) (i : GlueId) (f : GlueStation → GlueStation) : (s.onGlue i f).bnd.grades = s.bnd.grades := rfl
@[simp] theorem State.onGlue_zones (s : State) (i : GlueId) (f : GlueStation → GlueStation) : (s.onGlue i f).bnd.zones = s.bnd.zones := rfl
@[simp] theorem State.onGlue_heatLead (s : State) (i : GlueId) (f : GlueStation → GlueStation) : (s.onGlue i f).bnd.heatLead = s.bnd.heatLead := rfl
@[simp] theorem State.onGlue_glueLead (s : State) (i : GlueId) (f : GlueStation → GlueStation) : (s.onGlue i f).bnd.glueLead = s.bnd.glueLead := rfl
@[simp] theorem State.onGlue_standby (s : State) (i : GlueId) (f : GlueStation → GlueStation) : (s.onGlue i f).bnd.standby = s.bnd.standby := rfl
@[simp] theorem State.onGlue_zeroSpeed (s : State) (i : GlueId) (f : GlueStation → GlueStation) : (s.onGlue i f).bnd.zeroSpeed = s.bnd.zeroSpeed := rfl
@[simp] theorem State.onGlue_self (s : State) (i : GlueId) (f : GlueStation → GlueStation) : (s.onGlue i f).glue i = f (s.glue i) :=
  getElem_modifyAt_self _ _ _
theorem State.onGlue_ne (s : State) (i : GlueId) (f : GlueStation → GlueStation) {j : GlueId} (h : j ≠ i) : (s.onGlue i f).glue j = s.glue j :=
  getElem_modifyAt_ne _ _ h

/-! ### onOutput -/

@[simp] theorem State.onOutput_lcu (s : State) (i : OutputId) (f : Output → Output) : (s.onOutput i f).lcu = s.lcu := rfl
@[simp] theorem State.onOutput_map (s : State) (i : OutputId) (f : Output → Output) : (s.onOutput i f).map = s.map := rfl
@[simp] theorem State.onOutput_obk (s : State) (i : OutputId) (f : Output → Output) : (s.onOutput i f).obk = s.obk := rfl
@[simp] theorem State.onOutput_spc (s : State) (i : OutputId) (f : Output → Output) : (s.onOutput i f).spc = s.spc := rfl
@[simp] theorem State.onOutput_bnd (s : State) (i : OutputId) (f : Output → Output) : (s.onOutput i f).bnd = s.bnd := rfl
@[simp] theorem State.onOutput_dec (s : State) (i : OutputId) (f : Output → Output) : (s.onOutput i f).dec = s.dec := rfl
@[simp] theorem State.onOutput_stk (s : State) (i : OutputId) (f : Output → Output) : (s.onOutput i f).stk = s.stk := rfl
@[simp] theorem State.onOutput_lsv (s : State) (i : OutputId) (f : Output → Output) : (s.onOutput i f).lsv = s.lsv := rfl
@[simp] theorem State.onOutput_lnk (s : State) (i : OutputId) (f : Output → Output) : (s.onOutput i f).lnk = s.lnk := rfl
@[simp] theorem State.onOutput_held (s : State) (i : OutputId) (f : Output → Output) : (s.onOutput i f).held = s.held := rfl
@[simp] theorem State.onOutput_fresh (s : State) (i : OutputId) (f : Output → Output) : (s.onOutput i f).fresh = s.fresh := rfl
@[simp] theorem State.onOutput_pending (s : State) (i : OutputId) (f : Output → Output) : (s.onOutput i f).pending = s.pending := rfl
@[simp] theorem State.onOutput_genFreq (s : State) (i : OutputId) (f : Output → Output) : (s.onOutput i f).dst.genFreq = s.dst.genFreq := rfl
@[simp] theorem State.onOutput_supply (s : State) (i : OutputId) (f : Output → Output) : (s.onOutput i f).dst.supply = s.dst.supply := rfl
@[simp] theorem State.onOutput_warning (s : State) (i : OutputId) (f : Output → Output) : (s.onOutput i f).dst.warning = s.dst.warning := rfl
@[simp] theorem State.onOutput_thermal (s : State) (i : OutputId) (f : Output → Output) : (s.onOutput i f).dst.thermal = s.dst.thermal := rfl
@[simp] theorem State.onOutput_inputs (s : State) (i : OutputId) (f : Output → Output) : (s.onOutput i f).dst.inputs = s.dst.inputs := rfl
@[simp] theorem State.onOutput_self (s : State) (i : OutputId) (f : Output → Output) : (s.onOutput i f).output i = f (s.output i) :=
  getElem_modifyAt_self _ _ _
theorem State.onOutput_ne (s : State) (i : OutputId) (f : Output → Output) {j : OutputId} (h : j ≠ i) : (s.onOutput i f).output j = s.output j :=
  getElem_modifyAt_ne _ _ h

/-! ### onInput -/

@[simp] theorem State.onInput_lcu (s : State) (i : InputId) (f : FaultInput → FaultInput) : (s.onInput i f).lcu = s.lcu := rfl
@[simp] theorem State.onInput_map (s : State) (i : InputId) (f : FaultInput → FaultInput) : (s.onInput i f).map = s.map := rfl
@[simp] theorem State.onInput_obk (s : State) (i : InputId) (f : FaultInput → FaultInput) : (s.onInput i f).obk = s.obk := rfl
@[simp] theorem State.onInput_spc (s : State) (i : InputId) (f : FaultInput → FaultInput) : (s.onInput i f).spc = s.spc := rfl
@[simp] theorem State.onInput_bnd (s : State) (i : InputId) (f : FaultInput → FaultInput) : (s.onInput i f).bnd = s.bnd := rfl
@[simp] theorem State.onInput_dec (s : State) (i : InputId) (f : FaultInput → FaultInput) : (s.onInput i f).dec = s.dec := rfl
@[simp] theorem State.onInput_stk (s : State) (i : InputId) (f : FaultInput → FaultInput) : (s.onInput i f).stk = s.stk := rfl
@[simp] theorem State.onInput_lsv (s : State) (i : InputId) (f : FaultInput → FaultInput) : (s.onInput i f).lsv = s.lsv := rfl
@[simp] theorem State.onInput_lnk (s : State) (i : InputId) (f : FaultInput → FaultInput) : (s.onInput i f).lnk = s.lnk := rfl
@[simp] theorem State.onInput_held (s : State) (i : InputId) (f : FaultInput → FaultInput) : (s.onInput i f).held = s.held := rfl
@[simp] theorem State.onInput_fresh (s : State) (i : InputId) (f : FaultInput → FaultInput) : (s.onInput i f).fresh = s.fresh := rfl
@[simp] theorem State.onInput_pending (s : State) (i : InputId) (f : FaultInput → FaultInput) : (s.onInput i f).pending = s.pending := rfl
@[simp] theorem State.onInput_outputs (s : State) (i : InputId) (f : FaultInput → FaultInput) : (s.onInput i f).dst.outputs = s.dst.outputs := rfl
@[simp] theorem State.onInput_genFreq (s : State) (i : InputId) (f : FaultInput → FaultInput) : (s.onInput i f).dst.genFreq = s.dst.genFreq := rfl
@[simp] theorem State.onInput_supply (s : State) (i : InputId) (f : FaultInput → FaultInput) : (s.onInput i f).dst.supply = s.dst.supply := rfl
@[simp] theorem State.onInput_warning (s : State) (i : InputId) (f : FaultInput → FaultInput) : (s.onInput i f).dst.warning = s.dst.warning := rfl
@[simp] theorem State.onInput_thermal (s : State) (i : InputId) (f : FaultInput → FaultInput) : (s.onInput i f).dst.thermal = s.dst.thermal := rfl
@[simp] theorem State.onInput_self (s : State) (i : InputId) (f : FaultInput → FaultInput) : (s.onInput i f).input i = f (s.input i) :=
  getElem_modifyAt_self _ _ _
theorem State.onInput_ne (s : State) (i : InputId) (f : FaultInput → FaultInput) {j : InputId} (h : j ≠ i) : (s.onInput i f).input j = s.input j :=
  getElem_modifyAt_ne _ _ h

/-! ### onSlit -/

@[simp] theorem State.onSlit_lcu (s : State) (i : SlitId) (f : SlitStation → SlitStation) : (s.onSlit i f).lcu = s.lcu := rfl
@[simp] theorem State.onSlit_map (s : State) (i : SlitId) (f : SlitStation → SlitStation) : (s.onSlit i f).map = s.map := rfl
@[simp] theorem State.onSlit_obk (s : State) (i : SlitId) (f : SlitStation → SlitStation) : (s.onSlit i f).obk = s.obk := rfl
@[simp] theorem State.onSlit_spc (s : State) (i : SlitId) (f : SlitStation → SlitStation) : (s.onSlit i f).spc = s.spc := rfl
@[simp] theorem State.onSlit_bnd (s : State) (i : SlitId) (f : SlitStation → SlitStation) : (s.onSlit i f).bnd = s.bnd := rfl
@[simp] theorem State.onSlit_dst (s : State) (i : SlitId) (f : SlitStation → SlitStation) : (s.onSlit i f).dst = s.dst := rfl
@[simp] theorem State.onSlit_stk (s : State) (i : SlitId) (f : SlitStation → SlitStation) : (s.onSlit i f).stk = s.stk := rfl
@[simp] theorem State.onSlit_lsv (s : State) (i : SlitId) (f : SlitStation → SlitStation) : (s.onSlit i f).lsv = s.lsv := rfl
@[simp] theorem State.onSlit_lnk (s : State) (i : SlitId) (f : SlitStation → SlitStation) : (s.onSlit i f).lnk = s.lnk := rfl
@[simp] theorem State.onSlit_held (s : State) (i : SlitId) (f : SlitStation → SlitStation) : (s.onSlit i f).held = s.held := rfl
@[simp] theorem State.onSlit_fresh (s : State) (i : SlitId) (f : SlitStation → SlitStation) : (s.onSlit i f).fresh = s.fresh := rfl
@[simp] theorem State.onSlit_pending (s : State) (i : SlitId) (f : SlitStation → SlitStation) : (s.onSlit i f).pending = s.pending := rfl
@[simp] theorem State.onSlit_lanes (s : State) (i : SlitId) (f : SlitStation → SlitStation) : (s.onSlit i f).dec.lanes = s.dec.lanes := rfl
@[simp] theorem State.onSlit_queues (s : State) (i : SlitId) (f : SlitStation → SlitStation) : (s.onSlit i f).dec.queues = s.dec.queues := rfl
@[simp] theorem State.onSlit_scrapLen (s : State) (i : SlitId) (f : SlitStation → SlitStation) : (s.onSlit i f).dec.scrapLen = s.dec.scrapLen := rfl
@[simp] theorem State.onSlit_zoneMult (s : State) (i : SlitId) (f : SlitStation → SlitStation) : (s.onSlit i f).dec.zoneMult = s.dec.zoneMult := rfl
@[simp] theorem State.onSlit_gateSwitch (s : State) (i : SlitId) (f : SlitStation → SlitStation) : (s.onSlit i f).dec.gateSwitch = s.dec.gateSwitch := rfl
@[simp] theorem State.onSlit_rates (s : State) (i : SlitId) (f : SlitStation → SlitStation) : (s.onSlit i f).dec.rates = s.dec.rates := rfl
@[simp] theorem State.onSlit_changeLead (s : State) (i : SlitId) (f : SlitStation → SlitStation) : (s.onSlit i f).dec.changeLead = s.dec.changeLead := rfl
@[simp] theorem State.onSlit_posLimit (s : State) (i : SlitId) (f : SlitStation → SlitStation) : (s.onSlit i f).dec.posLimit = s.dec.posLimit := rfl
@[simp] theorem State.onSlit_self (s : State) (i : SlitId) (f : SlitStation → SlitStation) : (s.onSlit i f).slit i = f (s.slit i) :=
  getElem_modifyAt_self _ _ _
theorem State.onSlit_ne (s : State) (i : SlitId) (f : SlitStation → SlitStation) {j : SlitId} (h : j ≠ i) : (s.onSlit i f).slit j = s.slit j :=
  getElem_modifyAt_ne _ _ h

/-! ### onLane -/

@[simp] theorem State.onLane_lcu (s : State) (i : LaneId) (f : CutLane → CutLane) : (s.onLane i f).lcu = s.lcu := rfl
@[simp] theorem State.onLane_map (s : State) (i : LaneId) (f : CutLane → CutLane) : (s.onLane i f).map = s.map := rfl
@[simp] theorem State.onLane_obk (s : State) (i : LaneId) (f : CutLane → CutLane) : (s.onLane i f).obk = s.obk := rfl
@[simp] theorem State.onLane_spc (s : State) (i : LaneId) (f : CutLane → CutLane) : (s.onLane i f).spc = s.spc := rfl
@[simp] theorem State.onLane_bnd (s : State) (i : LaneId) (f : CutLane → CutLane) : (s.onLane i f).bnd = s.bnd := rfl
@[simp] theorem State.onLane_dst (s : State) (i : LaneId) (f : CutLane → CutLane) : (s.onLane i f).dst = s.dst := rfl
@[simp] theorem State.onLane_stk (s : State) (i : LaneId) (f : CutLane → CutLane) : (s.onLane i f).stk = s.stk := rfl
@[simp] theorem State.onLane_lsv (s : State) (i : LaneId) (f : CutLane → CutLane) : (s.onLane i f).lsv = s.lsv := rfl
@[simp] theorem State.onLane_lnk (s : State) (i : LaneId) (f : CutLane → CutLane) : (s.onLane i f).lnk = s.lnk := rfl
@[simp] theorem State.onLane_held (s : State) (i : LaneId) (f : CutLane → CutLane) : (s.onLane i f).held = s.held := rfl
@[simp] theorem State.onLane_fresh (s : State) (i : LaneId) (f : CutLane → CutLane) : (s.onLane i f).fresh = s.fresh := rfl
@[simp] theorem State.onLane_pending (s : State) (i : LaneId) (f : CutLane → CutLane) : (s.onLane i f).pending = s.pending := rfl
@[simp] theorem State.onLane_stations (s : State) (i : LaneId) (f : CutLane → CutLane) : (s.onLane i f).dec.stations = s.dec.stations := rfl
@[simp] theorem State.onLane_queues (s : State) (i : LaneId) (f : CutLane → CutLane) : (s.onLane i f).dec.queues = s.dec.queues := rfl
@[simp] theorem State.onLane_scrapLen (s : State) (i : LaneId) (f : CutLane → CutLane) : (s.onLane i f).dec.scrapLen = s.dec.scrapLen := rfl
@[simp] theorem State.onLane_zoneMult (s : State) (i : LaneId) (f : CutLane → CutLane) : (s.onLane i f).dec.zoneMult = s.dec.zoneMult := rfl
@[simp] theorem State.onLane_gateSwitch (s : State) (i : LaneId) (f : CutLane → CutLane) : (s.onLane i f).dec.gateSwitch = s.dec.gateSwitch := rfl
@[simp] theorem State.onLane_rates (s : State) (i : LaneId) (f : CutLane → CutLane) : (s.onLane i f).dec.rates = s.dec.rates := rfl
@[simp] theorem State.onLane_changeLead (s : State) (i : LaneId) (f : CutLane → CutLane) : (s.onLane i f).dec.changeLead = s.dec.changeLead := rfl
@[simp] theorem State.onLane_posLimit (s : State) (i : LaneId) (f : CutLane → CutLane) : (s.onLane i f).dec.posLimit = s.dec.posLimit := rfl
@[simp] theorem State.onLane_self (s : State) (i : LaneId) (f : CutLane → CutLane) : (s.onLane i f).lane i = f (s.lane i) :=
  getElem_modifyAt_self _ _ _
theorem State.onLane_ne (s : State) (i : LaneId) (f : CutLane → CutLane) {j : LaneId} (h : j ≠ i) : (s.onLane i f).lane j = s.lane j :=
  getElem_modifyAt_ne _ _ h

/-! ### onQueue -/

@[simp] theorem State.onQueue_lcu (s : State) (i : LaneId) (f : SheetQueue → SheetQueue) : (s.onQueue i f).lcu = s.lcu := rfl
@[simp] theorem State.onQueue_map (s : State) (i : LaneId) (f : SheetQueue → SheetQueue) : (s.onQueue i f).map = s.map := rfl
@[simp] theorem State.onQueue_obk (s : State) (i : LaneId) (f : SheetQueue → SheetQueue) : (s.onQueue i f).obk = s.obk := rfl
@[simp] theorem State.onQueue_spc (s : State) (i : LaneId) (f : SheetQueue → SheetQueue) : (s.onQueue i f).spc = s.spc := rfl
@[simp] theorem State.onQueue_bnd (s : State) (i : LaneId) (f : SheetQueue → SheetQueue) : (s.onQueue i f).bnd = s.bnd := rfl
@[simp] theorem State.onQueue_dst (s : State) (i : LaneId) (f : SheetQueue → SheetQueue) : (s.onQueue i f).dst = s.dst := rfl
@[simp] theorem State.onQueue_stk (s : State) (i : LaneId) (f : SheetQueue → SheetQueue) : (s.onQueue i f).stk = s.stk := rfl
@[simp] theorem State.onQueue_lsv (s : State) (i : LaneId) (f : SheetQueue → SheetQueue) : (s.onQueue i f).lsv = s.lsv := rfl
@[simp] theorem State.onQueue_lnk (s : State) (i : LaneId) (f : SheetQueue → SheetQueue) : (s.onQueue i f).lnk = s.lnk := rfl
@[simp] theorem State.onQueue_held (s : State) (i : LaneId) (f : SheetQueue → SheetQueue) : (s.onQueue i f).held = s.held := rfl
@[simp] theorem State.onQueue_fresh (s : State) (i : LaneId) (f : SheetQueue → SheetQueue) : (s.onQueue i f).fresh = s.fresh := rfl
@[simp] theorem State.onQueue_pending (s : State) (i : LaneId) (f : SheetQueue → SheetQueue) : (s.onQueue i f).pending = s.pending := rfl
@[simp] theorem State.onQueue_stations (s : State) (i : LaneId) (f : SheetQueue → SheetQueue) : (s.onQueue i f).dec.stations = s.dec.stations := rfl
@[simp] theorem State.onQueue_lanes (s : State) (i : LaneId) (f : SheetQueue → SheetQueue) : (s.onQueue i f).dec.lanes = s.dec.lanes := rfl
@[simp] theorem State.onQueue_scrapLen (s : State) (i : LaneId) (f : SheetQueue → SheetQueue) : (s.onQueue i f).dec.scrapLen = s.dec.scrapLen := rfl
@[simp] theorem State.onQueue_zoneMult (s : State) (i : LaneId) (f : SheetQueue → SheetQueue) : (s.onQueue i f).dec.zoneMult = s.dec.zoneMult := rfl
@[simp] theorem State.onQueue_gateSwitch (s : State) (i : LaneId) (f : SheetQueue → SheetQueue) : (s.onQueue i f).dec.gateSwitch = s.dec.gateSwitch := rfl
@[simp] theorem State.onQueue_rates (s : State) (i : LaneId) (f : SheetQueue → SheetQueue) : (s.onQueue i f).dec.rates = s.dec.rates := rfl
@[simp] theorem State.onQueue_changeLead (s : State) (i : LaneId) (f : SheetQueue → SheetQueue) : (s.onQueue i f).dec.changeLead = s.dec.changeLead := rfl
@[simp] theorem State.onQueue_posLimit (s : State) (i : LaneId) (f : SheetQueue → SheetQueue) : (s.onQueue i f).dec.posLimit = s.dec.posLimit := rfl
@[simp] theorem State.onQueue_self (s : State) (i : LaneId) (f : SheetQueue → SheetQueue) : (s.onQueue i f).queue i = f (s.queue i) :=
  getElem_modifyAt_self _ _ _
theorem State.onQueue_ne (s : State) (i : LaneId) (f : SheetQueue → SheetQueue) {j : LaneId} (h : j ≠ i) : (s.onQueue i f).queue j = s.queue j :=
  getElem_modifyAt_ne _ _ h

/-! ### onStacker -/

@[simp] theorem State.onStacker_lcu (s : State) (i : StackerId) (f : Stacker → Stacker) : (s.onStacker i f).lcu = s.lcu := rfl
@[simp] theorem State.onStacker_map (s : State) (i : StackerId) (f : Stacker → Stacker) : (s.onStacker i f).map = s.map := rfl
@[simp] theorem State.onStacker_obk (s : State) (i : StackerId) (f : Stacker → Stacker) : (s.onStacker i f).obk = s.obk := rfl
@[simp] theorem State.onStacker_spc (s : State) (i : StackerId) (f : Stacker → Stacker) : (s.onStacker i f).spc = s.spc := rfl
@[simp] theorem State.onStacker_bnd (s : State) (i : StackerId) (f : Stacker → Stacker) : (s.onStacker i f).bnd = s.bnd := rfl
@[simp] theorem State.onStacker_dst (s : State) (i : StackerId) (f : Stacker → Stacker) : (s.onStacker i f).dst = s.dst := rfl
@[simp] theorem State.onStacker_dec (s : State) (i : StackerId) (f : Stacker → Stacker) : (s.onStacker i f).dec = s.dec := rfl
@[simp] theorem State.onStacker_lsv (s : State) (i : StackerId) (f : Stacker → Stacker) : (s.onStacker i f).lsv = s.lsv := rfl
@[simp] theorem State.onStacker_lnk (s : State) (i : StackerId) (f : Stacker → Stacker) : (s.onStacker i f).lnk = s.lnk := rfl
@[simp] theorem State.onStacker_held (s : State) (i : StackerId) (f : Stacker → Stacker) : (s.onStacker i f).held = s.held := rfl
@[simp] theorem State.onStacker_fresh (s : State) (i : StackerId) (f : Stacker → Stacker) : (s.onStacker i f).fresh = s.fresh := rfl
@[simp] theorem State.onStacker_pending (s : State) (i : StackerId) (f : Stacker → Stacker) : (s.onStacker i f).pending = s.pending := rfl
@[simp] theorem State.onStacker_gates (s : State) (i : StackerId) (f : Stacker → Stacker) : (s.onStacker i f).stk.gates = s.stk.gates := rfl
@[simp] theorem State.onStacker_scrapPieces (s : State) (i : StackerId) (f : Stacker → Stacker) : (s.onStacker i f).stk.scrapPieces = s.stk.scrapPieces := rfl
@[simp] theorem State.onStacker_scrapLength (s : State) (i : StackerId) (f : Stacker → Stacker) : (s.onStacker i f).stk.scrapLength = s.stk.scrapLength := rfl
@[simp] theorem State.onStacker_self (s : State) (i : StackerId) (f : Stacker → Stacker) : (s.onStacker i f).stacker i = f (s.stacker i) :=
  getElem_modifyAt_self _ _ _
theorem State.onStacker_ne (s : State) (i : StackerId) (f : Stacker → Stacker) {j : StackerId} (h : j ≠ i) : (s.onStacker i f).stacker j = s.stacker j :=
  getElem_modifyAt_ne _ _ h

/-! ### setGate -/

@[simp] theorem State.setGate_lcu (s : State) (i : LaneId) (g : Gate) : (s.setGate i g).lcu = s.lcu := rfl
@[simp] theorem State.setGate_map (s : State) (i : LaneId) (g : Gate) : (s.setGate i g).map = s.map := rfl
@[simp] theorem State.setGate_obk (s : State) (i : LaneId) (g : Gate) : (s.setGate i g).obk = s.obk := rfl
@[simp] theorem State.setGate_spc (s : State) (i : LaneId) (g : Gate) : (s.setGate i g).spc = s.spc := rfl
@[simp] theorem State.setGate_bnd (s : State) (i : LaneId) (g : Gate) : (s.setGate i g).bnd = s.bnd := rfl
@[simp] theorem State.setGate_dst (s : State) (i : LaneId) (g : Gate) : (s.setGate i g).dst = s.dst := rfl
@[simp] theorem State.setGate_dec (s : State) (i : LaneId) (g : Gate) : (s.setGate i g).dec = s.dec := rfl
@[simp] theorem State.setGate_lsv (s : State) (i : LaneId) (g : Gate) : (s.setGate i g).lsv = s.lsv := rfl
@[simp] theorem State.setGate_lnk (s : State) (i : LaneId) (g : Gate) : (s.setGate i g).lnk = s.lnk := rfl
@[simp] theorem State.setGate_held (s : State) (i : LaneId) (g : Gate) : (s.setGate i g).held = s.held := rfl
@[simp] theorem State.setGate_fresh (s : State) (i : LaneId) (g : Gate) : (s.setGate i g).fresh = s.fresh := rfl
@[simp] theorem State.setGate_pending (s : State) (i : LaneId) (g : Gate) : (s.setGate i g).pending = s.pending := rfl
@[simp] theorem State.setGate_stackers (s : State) (i : LaneId) (g : Gate) : (s.setGate i g).stk.stackers = s.stk.stackers := rfl
@[simp] theorem State.setGate_scrapPieces (s : State) (i : LaneId) (g : Gate) : (s.setGate i g).stk.scrapPieces = s.stk.scrapPieces := rfl
@[simp] theorem State.setGate_scrapLength (s : State) (i : LaneId) (g : Gate) : (s.setGate i g).stk.scrapLength = s.stk.scrapLength := rfl

/-! ### setMarks -/

@[simp] theorem State.setMarks_lcu (s : State) (ms : List Mark) : (s.setMarks ms).lcu = s.lcu := rfl
@[simp] theorem State.setMarks_obk (s : State) (ms : List Mark) : (s.setMarks ms).obk = s.obk := rfl
@[simp] theorem State.setMarks_spc (s : State) (ms : List Mark) : (s.setMarks ms).spc = s.spc := rfl
@[simp] theorem State.setMarks_bnd (s : State) (ms : List Mark) : (s.setMarks ms).bnd = s.bnd := rfl
@[simp] theorem State.setMarks_dst (s : State) (ms : List Mark) : (s.setMarks ms).dst = s.dst := rfl
@[simp] theorem State.setMarks_dec (s : State) (ms : List Mark) : (s.setMarks ms).dec = s.dec := rfl
@[simp] theorem State.setMarks_stk (s : State) (ms : List Mark) : (s.setMarks ms).stk = s.stk := rfl
@[simp] theorem State.setMarks_lsv (s : State) (ms : List Mark) : (s.setMarks ms).lsv = s.lsv := rfl
@[simp] theorem State.setMarks_lnk (s : State) (ms : List Mark) : (s.setMarks ms).lnk = s.lnk := rfl
@[simp] theorem State.setMarks_held (s : State) (ms : List Mark) : (s.setMarks ms).held = s.held := rfl
@[simp] theorem State.setMarks_fresh (s : State) (ms : List Mark) : (s.setMarks ms).fresh = s.fresh := rfl
@[simp] theorem State.setMarks_pending (s : State) (ms : List Mark) : (s.setMarks ms).pending = s.pending := rfl
@[simp] theorem State.setMarks_ra (s : State) (ms : List Mark) : (s.setMarks ms).map.ra = s.map.ra := rfl
@[simp] theorem State.setMarks_lostZone (s : State) (ms : List Mark) : (s.setMarks ms).map.lostZone = s.map.lostZone := rfl
@[simp] theorem State.setMarks_lostGlue (s : State) (ms : List Mark) : (s.setMarks ms).map.lostGlue = s.map.lostGlue := rfl
@[simp] theorem State.setMarks_bridges (s : State) (ms : List Mark) : (s.setMarks ms).map.bridges = s.map.bridges := rfl

/-! ### countLostMark -/

@[simp] theorem State.countLostMark_lcu (s : State) : (s.countLostMark).lcu = s.lcu := rfl
@[simp] theorem State.countLostMark_obk (s : State) : (s.countLostMark).obk = s.obk := rfl
@[simp] theorem State.countLostMark_spc (s : State) : (s.countLostMark).spc = s.spc := rfl
@[simp] theorem State.countLostMark_bnd (s : State) : (s.countLostMark).bnd = s.bnd := rfl
@[simp] theorem State.countLostMark_dst (s : State) : (s.countLostMark).dst = s.dst := rfl
@[simp] theorem State.countLostMark_dec (s : State) : (s.countLostMark).dec = s.dec := rfl
@[simp] theorem State.countLostMark_stk (s : State) : (s.countLostMark).stk = s.stk := rfl
@[simp] theorem State.countLostMark_lsv (s : State) : (s.countLostMark).lsv = s.lsv := rfl
@[simp] theorem State.countLostMark_lnk (s : State) : (s.countLostMark).lnk = s.lnk := rfl
@[simp] theorem State.countLostMark_held (s : State) : (s.countLostMark).held = s.held := rfl
@[simp] theorem State.countLostMark_fresh (s : State) : (s.countLostMark).fresh = s.fresh := rfl
@[simp] theorem State.countLostMark_pending (s : State) : (s.countLostMark).pending = s.pending := rfl
@[simp] theorem State.countLostMark_ra (s : State) : (s.countLostMark).map.ra = s.map.ra := rfl
@[simp] theorem State.countLostMark_lostZone (s : State) : (s.countLostMark).map.lostZone = s.map.lostZone := rfl
@[simp] theorem State.countLostMark_lostGlue (s : State) : (s.countLostMark).map.lostGlue = s.map.lostGlue := rfl
@[simp] theorem State.countLostMark_bridges (s : State) : (s.countLostMark).map.bridges = s.map.bridges := rfl

/-! ### onOrder -/

@[simp] theorem State.onOrder_lcu (s : State) (tag : Nat) (f : Order → Order) : (s.onOrder tag f).lcu = s.lcu := rfl
@[simp] theorem State.onOrder_map (s : State) (tag : Nat) (f : Order → Order) : (s.onOrder tag f).map = s.map := rfl
@[simp] theorem State.onOrder_spc (s : State) (tag : Nat) (f : Order → Order) : (s.onOrder tag f).spc = s.spc := rfl
@[simp] theorem State.onOrder_bnd (s : State) (tag : Nat) (f : Order → Order) : (s.onOrder tag f).bnd = s.bnd := rfl
@[simp] theorem State.onOrder_dst (s : State) (tag : Nat) (f : Order → Order) : (s.onOrder tag f).dst = s.dst := rfl
@[simp] theorem State.onOrder_dec (s : State) (tag : Nat) (f : Order → Order) : (s.onOrder tag f).dec = s.dec := rfl
@[simp] theorem State.onOrder_stk (s : State) (tag : Nat) (f : Order → Order) : (s.onOrder tag f).stk = s.stk := rfl
@[simp] theorem State.onOrder_lsv (s : State) (tag : Nat) (f : Order → Order) : (s.onOrder tag f).lsv = s.lsv := rfl
@[simp] theorem State.onOrder_lnk (s : State) (tag : Nat) (f : Order → Order) : (s.onOrder tag f).lnk = s.lnk := rfl
@[simp] theorem State.onOrder_held (s : State) (tag : Nat) (f : Order → Order) : (s.onOrder tag f).held = s.held := rfl
@[simp] theorem State.onOrder_fresh (s : State) (tag : Nat) (f : Order → Order) : (s.onOrder tag f).fresh = s.fresh := rfl
@[simp] theorem State.onOrder_pending (s : State) (tag : Nat) (f : Order → Order) : (s.onOrder tag f).pending = s.pending := rfl

/-! ### dropOrder -/

@[simp] theorem State.dropOrder_lcu (s : State) (tag : Nat) : (s.dropOrder tag).lcu = s.lcu := rfl
@[simp] theorem State.dropOrder_map (s : State) (tag : Nat) : (s.dropOrder tag).map = s.map := rfl
@[simp] theorem State.dropOrder_spc (s : State) (tag : Nat) : (s.dropOrder tag).spc = s.spc := rfl
@[simp] theorem State.dropOrder_bnd (s : State) (tag : Nat) : (s.dropOrder tag).bnd = s.bnd := rfl
@[simp] theorem State.dropOrder_dst (s : State) (tag : Nat) : (s.dropOrder tag).dst = s.dst := rfl
@[simp] theorem State.dropOrder_dec (s : State) (tag : Nat) : (s.dropOrder tag).dec = s.dec := rfl
@[simp] theorem State.dropOrder_stk (s : State) (tag : Nat) : (s.dropOrder tag).stk = s.stk := rfl
@[simp] theorem State.dropOrder_lsv (s : State) (tag : Nat) : (s.dropOrder tag).lsv = s.lsv := rfl
@[simp] theorem State.dropOrder_lnk (s : State) (tag : Nat) : (s.dropOrder tag).lnk = s.lnk := rfl
@[simp] theorem State.dropOrder_held (s : State) (tag : Nat) : (s.dropOrder tag).held = s.held := rfl
@[simp] theorem State.dropOrder_fresh (s : State) (tag : Nat) : (s.dropOrder tag).fresh = s.fresh := rfl
@[simp] theorem State.dropOrder_pending (s : State) (tag : Nat) : (s.dropOrder tag).pending = s.pending := rfl

/-! ### setEndStatus -/

@[simp] theorem State.setEndStatus_lcu (s : State) (e : EndStatus) : (s.setEndStatus e).lcu = s.lcu := rfl
@[simp] theorem State.setEndStatus_map (s : State) (e : EndStatus) : (s.setEndStatus e).map = s.map := rfl
@[simp] theorem State.setEndStatus_spc (s : State) (e : EndStatus) : (s.setEndStatus e).spc = s.spc := rfl
@[simp] theorem State.setEndStatus_bnd (s : State) (e : EndStatus) : (s.setEndStatus e).bnd = s.bnd := rfl
@[simp] theorem State.setEndStatus_dst (s : State) (e : EndStatus) : (s.setEndStatus e).dst = s.dst := rfl
@[simp] theorem State.setEndStatus_dec (s : State) (e : EndStatus) : (s.setEndStatus e).dec = s.dec := rfl
@[simp] theorem State.setEndStatus_stk (s : State) (e : EndStatus) : (s.setEndStatus e).stk = s.stk := rfl
@[simp] theorem State.setEndStatus_lsv (s : State) (e : EndStatus) : (s.setEndStatus e).lsv = s.lsv := rfl
@[simp] theorem State.setEndStatus_lnk (s : State) (e : EndStatus) : (s.setEndStatus e).lnk = s.lnk := rfl
@[simp] theorem State.setEndStatus_held (s : State) (e : EndStatus) : (s.setEndStatus e).held = s.held := rfl
@[simp] theorem State.setEndStatus_fresh (s : State) (e : EndStatus) : (s.setEndStatus e).fresh = s.fresh := rfl
@[simp] theorem State.setEndStatus_pending (s : State) (e : EndStatus) : (s.setEndStatus e).pending = s.pending := rfl

/-! ### raise -/

@[simp] theorem State.raise_lcu (s : State) (k : NoticeKind) (x : Subject) (d : List Byte) : (s.raise k x d).lcu = s.lcu := rfl
@[simp] theorem State.raise_map (s : State) (k : NoticeKind) (x : Subject) (d : List Byte) : (s.raise k x d).map = s.map := rfl
@[simp] theorem State.raise_obk (s : State) (k : NoticeKind) (x : Subject) (d : List Byte) : (s.raise k x d).obk = s.obk := rfl
@[simp] theorem State.raise_spc (s : State) (k : NoticeKind) (x : Subject) (d : List Byte) : (s.raise k x d).spc = s.spc := rfl
@[simp] theorem State.raise_bnd (s : State) (k : NoticeKind) (x : Subject) (d : List Byte) : (s.raise k x d).bnd = s.bnd := rfl
@[simp] theorem State.raise_dst (s : State) (k : NoticeKind) (x : Subject) (d : List Byte) : (s.raise k x d).dst = s.dst := rfl
@[simp] theorem State.raise_dec (s : State) (k : NoticeKind) (x : Subject) (d : List Byte) : (s.raise k x d).dec = s.dec := rfl
@[simp] theorem State.raise_stk (s : State) (k : NoticeKind) (x : Subject) (d : List Byte) : (s.raise k x d).stk = s.stk := rfl
@[simp] theorem State.raise_lsv (s : State) (k : NoticeKind) (x : Subject) (d : List Byte) : (s.raise k x d).lsv = s.lsv := rfl
@[simp] theorem State.raise_held (s : State) (k : NoticeKind) (x : Subject) (d : List Byte) : (s.raise k x d).held = s.held := rfl
@[simp] theorem State.raise_fresh (s : State) (k : NoticeKind) (x : Subject) (d : List Byte) : (s.raise k x d).fresh = s.fresh := rfl
@[simp] theorem State.raise_pending (s : State) (k : NoticeKind) (x : Subject) (d : List Byte) : (s.raise k x d).pending = s.pending := rfl
@[simp] theorem State.raise_receiver (s : State) (k : NoticeKind) (x : Subject) (d : List Byte) : (s.raise k x d).lnk.receiver = s.lnk.receiver := rfl
@[simp] theorem State.raise_rxLine (s : State) (k : NoticeKind) (x : Subject) (d : List Byte) : (s.raise k x d).lnk.rxLine = s.lnk.rxLine := rfl
@[simp] theorem State.raise_errors (s : State) (k : NoticeKind) (x : Subject) (d : List Byte) : (s.raise k x d).lnk.errors = s.lnk.errors := rfl
@[simp] theorem State.raise_overflow (s : State) (k : NoticeKind) (x : Subject) (d : List Byte) : (s.raise k x d).lnk.overflow = s.lnk.overflow := rfl
@[simp] theorem State.raise_cmdQueue (s : State) (k : NoticeKind) (x : Subject) (d : List Byte) : (s.raise k x d).lnk.cmdQueue = s.lnk.cmdQueue := rfl
@[simp] theorem State.raise_replyQueue (s : State) (k : NoticeKind) (x : Subject) (d : List Byte) : (s.raise k x d).lnk.replyQueue = s.lnk.replyQueue := rfl
@[simp] theorem State.raise_timeout (s : State) (k : NoticeKind) (x : Subject) (d : List Byte) : (s.raise k x d).lnk.timeout = s.lnk.timeout := rfl
@[simp] theorem State.raise_expiries (s : State) (k : NoticeKind) (x : Subject) (d : List Byte) : (s.raise k x d).lnk.expiries = s.lnk.expiries := rfl
@[simp] theorem State.raise_cts (s : State) (k : NoticeKind) (x : Subject) (d : List Byte) : (s.raise k x d).lnk.cts = s.lnk.cts := rfl

/-! ### pushReply -/

@[simp] theorem State.pushReply_lcu (s : State) (f : Frame) : (s.pushReply f).lcu = s.lcu := rfl
@[simp] theorem State.pushReply_map (s : State) (f : Frame) : (s.pushReply f).map = s.map := rfl
@[simp] theorem State.pushReply_obk (s : State) (f : Frame) : (s.pushReply f).obk = s.obk := rfl
@[simp] theorem State.pushReply_spc (s : State) (f : Frame) : (s.pushReply f).spc = s.spc := rfl
@[simp] theorem State.pushReply_bnd (s : State) (f : Frame) : (s.pushReply f).bnd = s.bnd := rfl
@[simp] theorem State.pushReply_dst (s : State) (f : Frame) : (s.pushReply f).dst = s.dst := rfl
@[simp] theorem State.pushReply_dec (s : State) (f : Frame) : (s.pushReply f).dec = s.dec := rfl
@[simp] theorem State.pushReply_stk (s : State) (f : Frame) : (s.pushReply f).stk = s.stk := rfl
@[simp] theorem State.pushReply_lsv (s : State) (f : Frame) : (s.pushReply f).lsv = s.lsv := rfl
@[simp] theorem State.pushReply_held (s : State) (f : Frame) : (s.pushReply f).held = s.held := rfl
@[simp] theorem State.pushReply_fresh (s : State) (f : Frame) : (s.pushReply f).fresh = s.fresh := rfl
@[simp] theorem State.pushReply_pending (s : State) (f : Frame) : (s.pushReply f).pending = s.pending := rfl

/-! ### setReceiver -/

@[simp] theorem State.setReceiver_lcu (s : State) (r : Receiver) : (s.setReceiver r).lcu = s.lcu := rfl
@[simp] theorem State.setReceiver_map (s : State) (r : Receiver) : (s.setReceiver r).map = s.map := rfl
@[simp] theorem State.setReceiver_obk (s : State) (r : Receiver) : (s.setReceiver r).obk = s.obk := rfl
@[simp] theorem State.setReceiver_spc (s : State) (r : Receiver) : (s.setReceiver r).spc = s.spc := rfl
@[simp] theorem State.setReceiver_bnd (s : State) (r : Receiver) : (s.setReceiver r).bnd = s.bnd := rfl
@[simp] theorem State.setReceiver_dst (s : State) (r : Receiver) : (s.setReceiver r).dst = s.dst := rfl
@[simp] theorem State.setReceiver_dec (s : State) (r : Receiver) : (s.setReceiver r).dec = s.dec := rfl
@[simp] theorem State.setReceiver_stk (s : State) (r : Receiver) : (s.setReceiver r).stk = s.stk := rfl
@[simp] theorem State.setReceiver_lsv (s : State) (r : Receiver) : (s.setReceiver r).lsv = s.lsv := rfl
@[simp] theorem State.setReceiver_held (s : State) (r : Receiver) : (s.setReceiver r).held = s.held := rfl
@[simp] theorem State.setReceiver_fresh (s : State) (r : Receiver) : (s.setReceiver r).fresh = s.fresh := rfl
@[simp] theorem State.setReceiver_pending (s : State) (r : Receiver) : (s.setReceiver r).pending = s.pending := rfl

/-! ### setRx -/

@[simp] theorem State.setRx_lcu (s : State) (r : RxLine) : (s.setRx r).lcu = s.lcu := rfl
@[simp] theorem State.setRx_map (s : State) (r : RxLine) : (s.setRx r).map = s.map := rfl
@[simp] theorem State.setRx_obk (s : State) (r : RxLine) : (s.setRx r).obk = s.obk := rfl
@[simp] theorem State.setRx_spc (s : State) (r : RxLine) : (s.setRx r).spc = s.spc := rfl
@[simp] theorem State.setRx_bnd (s : State) (r : RxLine) : (s.setRx r).bnd = s.bnd := rfl
@[simp] theorem State.setRx_dst (s : State) (r : RxLine) : (s.setRx r).dst = s.dst := rfl
@[simp] theorem State.setRx_dec (s : State) (r : RxLine) : (s.setRx r).dec = s.dec := rfl
@[simp] theorem State.setRx_stk (s : State) (r : RxLine) : (s.setRx r).stk = s.stk := rfl
@[simp] theorem State.setRx_lsv (s : State) (r : RxLine) : (s.setRx r).lsv = s.lsv := rfl
@[simp] theorem State.setRx_held (s : State) (r : RxLine) : (s.setRx r).held = s.held := rfl
@[simp] theorem State.setRx_fresh (s : State) (r : RxLine) : (s.setRx r).fresh = s.fresh := rfl
@[simp] theorem State.setRx_pending (s : State) (r : RxLine) : (s.setRx r).pending = s.pending := rfl

/-! ### countError -/

@[simp] theorem State.countError_lcu (s : State) (r : LinkError) : (s.countError r).lcu = s.lcu := rfl
@[simp] theorem State.countError_map (s : State) (r : LinkError) : (s.countError r).map = s.map := rfl
@[simp] theorem State.countError_obk (s : State) (r : LinkError) : (s.countError r).obk = s.obk := rfl
@[simp] theorem State.countError_spc (s : State) (r : LinkError) : (s.countError r).spc = s.spc := rfl
@[simp] theorem State.countError_bnd (s : State) (r : LinkError) : (s.countError r).bnd = s.bnd := rfl
@[simp] theorem State.countError_dst (s : State) (r : LinkError) : (s.countError r).dst = s.dst := rfl
@[simp] theorem State.countError_dec (s : State) (r : LinkError) : (s.countError r).dec = s.dec := rfl
@[simp] theorem State.countError_stk (s : State) (r : LinkError) : (s.countError r).stk = s.stk := rfl
@[simp] theorem State.countError_lsv (s : State) (r : LinkError) : (s.countError r).lsv = s.lsv := rfl
@[simp] theorem State.countError_held (s : State) (r : LinkError) : (s.countError r).held = s.held := rfl
@[simp] theorem State.countError_fresh (s : State) (r : LinkError) : (s.countError r).fresh = s.fresh := rfl
@[simp] theorem State.countError_pending (s : State) (r : LinkError) : (s.countError r).pending = s.pending := rfl

/-! ### takeFresh -/

@[simp] theorem State.takeFresh_lcu (s : State) : (s.takeFresh).lcu = s.lcu := rfl
@[simp] theorem State.takeFresh_map (s : State) : (s.takeFresh).map = s.map := rfl
@[simp] theorem State.takeFresh_obk (s : State) : (s.takeFresh).obk = s.obk := rfl
@[simp] theorem State.takeFresh_spc (s : State) : (s.takeFresh).spc = s.spc := rfl
@[simp] theorem State.takeFresh_bnd (s : State) : (s.takeFresh).bnd = s.bnd := rfl
@[simp] theorem State.takeFresh_dst (s : State) : (s.takeFresh).dst = s.dst := rfl
@[simp] theorem State.takeFresh_dec (s : State) : (s.takeFresh).dec = s.dec := rfl
@[simp] theorem State.takeFresh_stk (s : State) : (s.takeFresh).stk = s.stk := rfl
@[simp] theorem State.takeFresh_lsv (s : State) : (s.takeFresh).lsv = s.lsv := rfl
@[simp] theorem State.takeFresh_lnk (s : State) : (s.takeFresh).lnk = s.lnk := rfl
@[simp] theorem State.takeFresh_held (s : State) : (s.takeFresh).held = s.held := rfl
@[simp] theorem State.takeFresh_pending (s : State) : (s.takeFresh).pending = s.pending := rfl

/-! ### setRecord -/

@[simp] theorem State.setRecord_lcu (s : State) (r : StopRecord) : (s.setRecord r).lcu = s.lcu := rfl
@[simp] theorem State.setRecord_map (s : State) (r : StopRecord) : (s.setRecord r).map = s.map := rfl
@[simp] theorem State.setRecord_obk (s : State) (r : StopRecord) : (s.setRecord r).obk = s.obk := rfl
@[simp] theorem State.setRecord_spc (s : State) (r : StopRecord) : (s.setRecord r).spc = s.spc := rfl
@[simp] theorem State.setRecord_bnd (s : State) (r : StopRecord) : (s.setRecord r).bnd = s.bnd := rfl
@[simp] theorem State.setRecord_dst (s : State) (r : StopRecord) : (s.setRecord r).dst = s.dst := rfl
@[simp] theorem State.setRecord_dec (s : State) (r : StopRecord) : (s.setRecord r).dec = s.dec := rfl
@[simp] theorem State.setRecord_stk (s : State) (r : StopRecord) : (s.setRecord r).stk = s.stk := rfl
@[simp] theorem State.setRecord_lnk (s : State) (r : StopRecord) : (s.setRecord r).lnk = s.lnk := rfl
@[simp] theorem State.setRecord_held (s : State) (r : StopRecord) : (s.setRecord r).held = s.held := rfl
@[simp] theorem State.setRecord_fresh (s : State) (r : StopRecord) : (s.setRecord r).fresh = s.fresh := rfl
@[simp] theorem State.setRecord_pending (s : State) (r : StopRecord) : (s.setRecord r).pending = s.pending := rfl
@[simp] theorem State.setRecord_line (s : State) (r : StopRecord) : (s.setRecord r).lsv.line = s.lsv.line := rfl
@[simp] theorem State.setRecord_holds (s : State) (r : StopRecord) : (s.setRecord r).lsv.holds = s.lsv.holds := rfl
@[simp] theorem State.setRecord_ceiling (s : State) (r : StopRecord) : (s.setRecord r).lsv.ceiling = s.lsv.ceiling := rfl
@[simp] theorem State.setRecord_speedRef (s : State) (r : StopRecord) : (s.setRecord r).lsv.speedRef = s.lsv.speedRef := rfl
@[simp] theorem State.setRecord_stopped (s : State) (r : StopRecord) : (s.setRecord r).lsv.stopped = s.lsv.stopped := rfl
@[simp] theorem State.setRecord_startFlag (s : State) (r : StopRecord) : (s.setRecord r).lsv.startFlag = s.lsv.startFlag := rfl
@[simp] theorem State.setRecord_resetCause (s : State) (r : StopRecord) : (s.setRecord r).lsv.resetCause = s.lsv.resetCause := rfl
@[simp] theorem State.setRecord_accel (s : State) (r : StopRecord) : (s.setRecord r).lsv.accel = s.lsv.accel := rfl
@[simp] theorem State.setRecord_decel (s : State) (r : StopRecord) : (s.setRecord r).lsv.decel = s.lsv.decel := rfl
@[simp] theorem State.setRecord_thread (s : State) (r : StopRecord) : (s.setRecord r).lsv.thread = s.lsv.thread := rfl

end Sys2Proof.Machine
end

