-- ==== Sys2Proof/Laws/Within.lean ====
section
/-! SUPPORT. What the shared operations can do, said once: `State.Within bs s t` says that a step of the part's own work that led from `s`
to `t` touched no block outside `bs`, left the link queues, the terminals and the settings of the line, and kept the invariants. -/

namespace Sys2Proof.Machine

/-- What a piece of the part's own work leaves. -/
structure State.Touches (bs : List Block) (s t : State) : Prop where
  same : ∀ b, b ∉ Block.lnk :: bs → s.sameBlock t b
  link : t.lnk = { s.lnk with notices := t.lnk.notices, sending := t.lnk.sending, expiries := t.lnk.expiries }
  expiries : Block.lnk ∉ bs → t.lnk.expiries = s.lnk.expiries
  reply : ∀ f, t.lnk.sending = some (.reply f) ↔ s.lnk.sending = some (.reply f)
  held : t.held = s.held
  fresh : t.fresh = s.fresh
  pending : t.pending = s.pending
  flag : t.lsv.startFlag = s.lsv.startFlag
  thread : t.lsv.thread = s.lsv.thread
  lcu : t.lcu = { s.lcu with joints := t.lcu.joints, eyes := t.lcu.eyes }
  levels : ∀ k, { t.bridge k with entries := [] } = { s.bridge k with entries := [] }
  map : s.MapOk → t.MapOk
  ahead : s.EntriesAhead → t.EntriesAhead

/-- What a piece of the part's own work leaves and keeps. -/
structure State.Within (bs : List Block) (s t : State) : Prop extends State.Touches bs s t where
  line : s.LineOk → t.LineOk

theorem State.sameBlock.trans {s t u : State} {b : Block} (h : s.sameBlock t b) (h' : t.sameBlock u b) : s.sameBlock u b := by
  cases b <;> exact Eq.trans h' h

theorem State.Touches.refl {bs : List Block} (s : State) : s.Touches bs s where
  same b _ := by cases b <;> rfl
  link := rfl
  expiries _ := rfl
  reply _ := Iff.rfl
  held := rfl
  fresh := rfl
  pending := rfl
  flag := rfl
  thread := rfl
  lcu := rfl
  levels _ := rfl
  map h := h
  ahead h := h

theorem State.Within.refl {bs : List Block} (s : State) : s.Within bs s where
  toTouches := .refl s
  line h := h

theorem State.Touches.trans {bs : List Block} {s t u : State} (h : s.Touches bs t) (h' : t.Touches bs u) : s.Touches bs u where
  same b hb := (h.same b hb).trans (h'.same b hb)
  link := by rw [h'.link, h.link]
  expiries hb := (h'.expiries hb).trans (h.expiries hb)
  reply f := (h'.reply f).trans (h.reply f)
  held := h'.held.trans h.held
  fresh := h'.fresh.trans h.fresh
  pending := h'.pending.trans h.pending
  flag := h'.flag.trans h.flag
  thread := h'.thread.trans h.thread
  lcu := by rw [h'.lcu, h.lcu]
  levels k := (h'.levels k).trans (h.levels k)
  map i := h'.map (h.map i)
  ahead i := h'.ahead (h.ahead i)

theorem State.Within.trans {bs : List Block} {s t u : State} (h : s.Within bs t) (h' : t.Within bs u) : s.Within bs u where
  toTouches := h.toTouches.trans h'.toTouches
  line i := h'.line (h.line i)

/-- A wider set of blocks. -/
theorem State.Touches.mono {bs cs : List Block} {s t : State} (h : s.Touches bs t) (hs : bs ⊆ cs) : s.Touches cs t :=
  { h with
    same := fun b hb => h.same b fun hm => hb (by
      rcases List.mem_cons.mp hm with rfl | hm
      · exact List.mem_cons_self
      · exact List.mem_cons_of_mem _ (hs hm))
    expiries := fun hb => h.expiries fun hm => hb (hs hm) }

theorem State.Within.mono {bs cs : List Block} {s t : State} (h : s.Within bs t) (hs : bs ⊆ cs) : s.Within cs t where
  toTouches := h.toTouches.mono hs
  line := h.line

/-- A further piece of work that touches fewer blocks. -/
theorem State.Within.step {bs cs : List Block} {s t u : State} (h : s.Within cs t) (h' : t.Within bs u) (hs : bs ⊆ cs) :
    s.Within cs u := h.trans (h'.mono hs)

theorem State.Touches.step {bs cs : List Block} {s t u : State} (h : s.Touches cs t) (h' : t.Within bs u) (hs : bs ⊆ cs) :
    s.Touches cs u := h.trans (h'.toTouches.mono hs)

theorem State.Within.ite {bs : List Block} {c : Prop} [Decidable c] {s t u : State} (h : c → s.Within bs t) (h' : ¬c → s.Within bs u) :
    s.Within bs (if c then t else u) := by
  split
  · next x => exact h x
  · next x => exact h' x

/-- The statements' frame. -/
theorem State.Touches.keepsBut {bs : List Block} {s t : State} (h : s.Touches bs t) : s.keepsBut t bs :=
  ⟨h.same, fun hb => by
    have e := h.link
    rw [h.expiries hb] at e
    exact e, h.held, h.fresh, h.pending⟩

theorem State.Within.foldl {bs : List Block} {α : Type} (f : State → α → State) (hf : ∀ (t : State) (a : α), t.Within bs (f t a)) :
    ∀ (l : List α) (s : State), s.Within bs (l.foldl f s)
  | [], s => .refl s
  | a :: l, s => (hf s a).trans (State.Within.foldl f hf l (f s a))

theorem State.forAll_within {bs : List Block} {s : State} {n : Nat} {f : State → Fin n → State} (hf : ∀ (t : State) (i : Fin n), t.Within bs (f t i)) :
    s.Within bs (s.forAll n f) := .foldl f hf _ _

/-! ### Invariants seen through the fields they read -/

theorem State.LineOk.congr {s t : State} (h : s.LineOk) (hl : t.lsv.line = s.lsv.line) (hh : t.lsv.holds = s.lsv.holds)
    (hf : t.lsv.startFlag = s.lsv.startFlag) (ht : t.lsv.thread = s.lsv.thread) (hr : t.lsv.speedRef = s.lsv.speedRef)
    (hs : t.lsv.ceiling.stop = s.lsv.ceiling.stop) (hc : t.lsv.ceiling.hold = s.lsv.ceiling.hold) : t.LineOk where
  stopEntry := by rw [hs, hl]; exact h.stopEntry
  holdEntry := by rw [hc, hl, ht]; exact h.holdEntry
  standing := by rw [hl, hr]; exact h.standing
  running := by rw [hl, hh]; exact h.running
  holding := by rw [hl, hh]; exact h.holding
  started := by rw [hl, hf]; exact h.started

theorem State.MapOk.congr {s t : State} (h : s.MapOk) (hm : t.map.marks = s.map.marks)
    (hb : ∀ k, (t.bridge k).entries = (s.bridge k).entries) : t.MapOk where
  marks := by rw [hm]; exact h.marks
  sorted := by rw [hm]; exact h.sorted
  ends := by rw [hm]; exact h.ends
  entries k := by rw [hb]; exact h.entries k
  joints k := by rw [hb]; exact h.joints k

theorem State.EntriesAhead.congr {s t : State} (h : s.EntriesAhead) (hc : t.lcu.counters = s.lcu.counters)
    (hb : ∀ k, t.bridge k = s.bridge k) : t.EntriesAhead := fun k b hm => by
  rw [hb] at hm
  have e : t.mergeCoord k = s.mergeCoord k := by
    unfold State.mergeCoord State.webPos State.counter
    rw [hc, hb]
  rw [e]
  exact h k b hm

/-- MarksAhead as a test of each mark. -/
theorem State.marksAhead_iff {s : State} :
    s.MarksAhead ↔ ∀ m ∈ s.map.marks, m.finish.all (fun e => decide (s.linePos < e + s.dLast)) = true := by
  refine forall₂_congr fun m _ => ?_
  cases m.finish <;> simp

theorem State.MarksAhead.congr {s t : State} (h : s.MarksAhead) (hp : t.linePos = s.linePos) (hd : t.dLast = s.dLast)
    (hm : ∀ m ∈ t.map.marks, m.finish = none ∨ ∃ x ∈ s.map.marks, x.finish = m.finish) : t.MarksAhead := fun m ht e he => by
  rcases hm m ht with hn | ⟨x, hx, hf⟩
  · rw [hn] at he
    cases he
  · rw [hp, hd]
    exact h x hx e (hf.trans he)

/-- Work that leaves the line supervisor, the link port and the web map. -/
theorem State.Within.of_quiet {bs : List Block} {s t : State} (same : ∀ b, b ∉ Block.lnk :: bs → s.sameBlock t b)
    (link : t.lnk = s.lnk) (lsv : t.lsv = s.lsv) (map : s.MapOk → t.MapOk) (ahead : s.EntriesAhead → t.EntriesAhead)
    (held : t.held = s.held) (fresh : t.fresh = s.fresh)
    (pending : t.pending = s.pending)
    (lcu : t.lcu = { s.lcu with joints := t.lcu.joints, eyes := t.lcu.eyes })
    (levels : ∀ k, { t.bridge k with entries := [] } = { s.bridge k with entries := [] }) : s.Within bs t where
  same := same
  link := by rw [link]
  expiries _ := by rw [link]
  reply _ := by rw [link]
  held := held
  fresh := fresh
  pending := pending
  flag := by rw [lsv]
  thread := by rw [lsv]
  lcu := lcu
  levels := levels
  line h := h.congr (by rw [lsv]) (by rw [lsv]) (by rw [lsv]) (by rw [lsv]) (by rw [lsv]) (by rw [lsv]) (by rw [lsv])
  map := map
  ahead := ahead

/-- What every command's body keeps. -/
structure State.Kept (s t : State) : Prop where
  held : t.held = s.held
  pending : t.pending = s.pending
  cmdQueue : t.lnk.cmdQueue = s.lnk.cmdQueue
  replyQueue : t.lnk.replyQueue = s.lnk.replyQueue
  reply : ∀ f, t.lnk.sending = some (.reply f) ↔ s.lnk.sending = some (.reply f)
  line : s.LineOk → t.LineOk
  map : s.MapOk → t.MapOk

theorem State.Within.kept {bs : List Block} {s t : State} (h : s.Within bs t) : s.Kept t where
  held := h.held
  pending := h.pending
  cmdQueue := by rw [h.link]
  replyQueue := by rw [h.link]
  reply := h.reply
  line := h.line
  map := h.map

theorem State.Kept.refl (s : State) : s.Kept s := (State.Within.refl (bs := []) s).kept

theorem State.Kept.trans {s t u : State} (h : s.Kept t) (h' : t.Kept u) : s.Kept u where
  held := h'.held.trans h.held
  pending := h'.pending.trans h.pending
  cmdQueue := h'.cmdQueue.trans h.cmdQueue
  replyQueue := h'.replyQueue.trans h.replyQueue
  reply f := (h'.reply f).trans (h.reply f)
  line i := h'.line (h.line i)
  map i := h'.map (h.map i)

theorem State.Kept.step {bs : List Block} {s t u : State} (h : s.Kept t) (h' : t.Within bs u) : s.Kept u := h.trans h'.kept

theorem State.Kept.ite {c : Prop} [Decidable c] {s t u : State} (h : c → s.Kept t) (h' : ¬c → s.Kept u) :
    s.Kept (if c then t else u) := by
  split
  · next x => exact h x
  · next x => exact h' x

/-- A change outside the line supervisor's, the link port's and the web map's state. -/
theorem State.Kept.of_quiet {s t : State} (held : t.held = s.held) (pending : t.pending = s.pending) (lsv : t.lsv = s.lsv)
    (lnk : t.lnk = s.lnk) (map : t.map = s.map) : s.Kept t where
  held := held
  pending := pending
  cmdQueue := by rw [lnk]
  replyQueue := by rw [lnk]
  reply _ := by rw [lnk]
  line h := h.congr (by rw [lsv]) (by rw [lsv]) (by rw [lsv]) (by rw [lsv]) (by rw [lsv]) (by rw [lsv]) (by rw [lsv])
  map h := h.congr (by rw [map]) fun k => by simp [State.bridge, map]

theorem State.lcu_kept (s : State) (x : Lcu) : s.Kept { s with lcu := x } := .of_quiet rfl rfl rfl rfl rfl

theorem State.takeFresh_kept (s : State) : s.Kept s.takeFresh := .of_quiet rfl rfl rfl rfl rfl

end Sys2Proof.Machine
end

