-- ==== Sys2Proof/Laws/WithinOps.lean ====
section
/-! SUPPORT. What the shared operations of Ops.lean can do. -/

namespace Sys2Proof.Machine

/-! ### Updates of one block -/

theorem State.obk_within (s : State) (x : Obk) : s.Within [.obk] { s with obk := x } :=
  .of_quiet (fun b hb => by cases b <;> first | rfl | simp at hb) rfl rfl (fun h => h.congr rfl fun _ => rfl)
    (fun h => h) rfl rfl rfl rfl fun _ => rfl

theorem State.spc_within (s : State) (x : Spc) : s.Within [.spc] { s with spc := x } :=
  .of_quiet (fun b hb => by cases b <;> first | rfl | simp at hb) rfl rfl (fun h => h.congr rfl fun _ => rfl)
    (fun h => h) rfl rfl rfl rfl fun _ => rfl

theorem State.bnd_within (s : State) (x : Bnd) : s.Within [.bnd] { s with bnd := x } :=
  .of_quiet (fun b hb => by cases b <;> first | rfl | simp at hb) rfl rfl (fun h => h.congr rfl fun _ => rfl)
    (fun h => h) rfl rfl rfl rfl fun _ => rfl

theorem State.dst_within (s : State) (x : Dst) : s.Within [.dst] { s with dst := x } :=
  .of_quiet (fun b hb => by cases b <;> first | rfl | simp at hb) rfl rfl (fun h => h.congr rfl fun _ => rfl)
    (fun h => h) rfl rfl rfl rfl fun _ => rfl

theorem State.dec_within (s : State) (x : Dec) : s.Within [.dec] { s with dec := x } :=
  .of_quiet (fun b hb => by cases b <;> first | rfl | simp at hb) rfl rfl (fun h => h.congr rfl fun _ => rfl)
    (fun h => h) rfl rfl rfl rfl fun _ => rfl

theorem State.stk_within (s : State) (x : Stk) : s.Within [.stk] { s with stk := x } :=
  .of_quiet (fun b hb => by cases b <;> first | rfl | simp at hb) rfl rfl (fun h => h.congr rfl fun _ => rfl)
    (fun h => h) rfl rfl rfl rfl fun _ => rfl

theorem State.onCounter_kept (s : State) (i : CounterId) (f : Counter → Counter) : s.Kept (s.onCounter i f) :=
  .of_quiet rfl rfl rfl rfl rfl

theorem State.onJoint_within (s : State) (i : SpliceId) (f : JointChannel → JointChannel) : s.Within [.lcu] (s.onJoint i f) :=
  .of_quiet (fun b hb => by cases b <;> first | rfl | simp at hb) rfl rfl (fun h => h.congr rfl fun _ => rfl)
    (fun h => h) rfl rfl rfl rfl fun _ => rfl

theorem State.onEye_within (s : State) (i : StackerId) (f : SheetEye → SheetEye) : s.Within [.lcu] (s.onEye i f) :=
  .of_quiet (fun b hb => by cases b <;> first | rfl | simp at hb) rfl rfl (fun h => h.congr rfl fun _ => rfl)
    (fun h => h) rfl rfl rfl rfl fun _ => rfl

theorem State.onSplice_within (s : State) (i : SpliceId) (f : SpliceStation → SpliceStation) : s.Within [.spc] (s.onSplice i f) := s.spc_within _

theorem State.onZone_within (s : State) (i : ZoneId) (f : Zone → Zone) : s.Within [.bnd] (s.onZone i f) := s.bnd_within _

theorem State.onGlue_within (s : State) (i : GlueId) (f : GlueStation → GlueStation) : s.Within [.bnd] (s.onGlue i f) := s.bnd_within _

theorem State.onOutput_within (s : State) (i : OutputId) (f : Output → Output) : s.Within [.dst] (s.onOutput i f) := s.dst_within _

theorem State.onInput_within (s : State) (i : InputId) (f : FaultInput → FaultInput) : s.Within [.dst] (s.onInput i f) := s.dst_within _

theorem State.onSlit_within (s : State) (i : SlitId) (f : SlitStation → SlitStation) : s.Within [.dec] (s.onSlit i f) := s.dec_within _

theorem State.onLane_within (s : State) (i : LaneId) (f : CutLane → CutLane) : s.Within [.dec] (s.onLane i f) := s.dec_within _

theorem State.onQueue_within (s : State) (i : LaneId) (f : SheetQueue → SheetQueue) : s.Within [.dec] (s.onQueue i f) := s.dec_within _

theorem State.onStacker_within (s : State) (i : StackerId) (f : Stacker → Stacker) : s.Within [.stk] (s.onStacker i f) := s.stk_within _

theorem State.setGate_within (s : State) (i : LaneId) (g : Gate) : s.Within [.stk] (s.setGate i g) := s.stk_within _

theorem State.onOrder_within (s : State) (tag : Nat) (f : Order → Order) : s.Within [.obk] (s.onOrder tag f) := s.obk_within _

theorem State.dropOrder_within (s : State) (tag : Nat) : s.Within [.obk] (s.dropOrder tag) := s.obk_within _

theorem State.onRun_within (s : State) (tag : Nat) (j : LaneId) (f : LaneRun → LaneRun) : s.Within [.obk] (s.onRun tag j f) :=
  s.obk_within _

theorem State.onTally_within (s : State) (tag : Nat) (j : LaneId) (f : Tally → Tally) : s.Within [.obk] (s.onTally tag j f) :=
  s.obk_within _

/-! ### Notices and the ceiling table -/

theorem raiseInSending_reply (k : NoticeKind) (x : Subject) (o : Option Sending) (f : Frame) :
    raiseInSending k x o = some (.reply f) ↔ o = some (.reply f) := by
  rcases o with _ | o
  · simp [raiseInSending]
  · cases o <;> simp [raiseInSending]

theorem State.raise_within (s : State) (k : NoticeKind) (x : Subject) (d : List Byte) : s.Within [] (s.raise k x d) where
  same b hb := by cases b <;> first | rfl | simp at hb
  link := rfl
  expiries _ := rfl
  reply f := raiseInSending_reply k x _ f
  held := rfl
  fresh := rfl
  pending := rfl
  flag := rfl
  thread := rfl
  lcu := rfl
  levels _ := rfl
  line h := h.congr rfl rfl rfl rfl rfl rfl rfl
  map h := h.congr rfl fun _ => rfl
  ahead h := h

/-- A ceiling table replaced by one with the same STOP and HOLD entries. -/
theorem State.setCeiling_within (s : State) (c : Ceiling) (hs : c.stop = s.lsv.ceiling.stop) (hh : c.hold = s.lsv.ceiling.hold) :
    s.Within [.lsv] (s.setCeiling c) := by
  have base : s.Within [.lsv] { s with lsv := { s.lsv with ceiling := c } } :=
    { same := fun b hb => by cases b <;> first | rfl | simp at hb
      link := rfl
      expiries := fun _ => rfl
      reply := fun _ => Iff.rfl
      held := rfl
      fresh := rfl
      pending := rfl
      flag := rfl
      thread := rfl
      lcu := rfl
      levels := fun _ => rfl
      line := fun h => h.congr rfl rfl rfl rfl rfl hs hh
      map := fun h => h.congr rfl fun _ => rfl
      ahead := fun h => h }
  unfold State.setCeiling
  split
  · exact base
  · exact base.step (State.raise_within ..) (by simp)

/-- An entry other than the line state's own two is set (R157). -/
theorem State.setEntry_within (s : State) (e : Entry) (v : Option Nat) (hs : e ≠ .stop := by decide) (hh : e ≠ .hold := by decide) :
    s.Within [.lsv] (s.setEntry e v) := by
  apply State.setCeiling_within <;> cases e <;> first | rfl | contradiction

/-! ### The web map -/

theorem insertSorted_length (m : Mark) (ms : List Mark) : (insertSorted m ms).length = ms.length + 1 := by
  induction ms with
  | nil => rfl
  | cons x xs ih =>
    unfold insertSorted
    split
    · rfl
    · simp [ih]

theorem mem_insertSorted {m x : Mark} {ms : List Mark} : x ∈ insertSorted m ms ↔ x = m ∨ x ∈ ms := by
  induction ms with
  | nil => simp [insertSorted]
  | cons y ys ih =>
    unfold insertSorted
    split
    · simp
    · simp only [List.mem_cons, ih]
      tauto

theorem insertSorted_sorted {m : Mark} {ms : List Mark} (h : ms.Pairwise fun a b => a.start ≤ b.start) :
    (insertSorted m ms).Pairwise fun a b => a.start ≤ b.start := by
  induction ms with
  | nil => simp [insertSorted]
  | cons y ys ih =>
    have hy := List.pairwise_cons.mp h
    unfold insertSorted
    split
    · next hlt =>
      refine List.pairwise_cons.mpr ⟨fun x hx => ?_, h⟩
      rcases List.mem_cons.mp hx with rfl | hx
      · exact hlt.le
      · exact hlt.le.trans (hy.1 x hx)
    · next hge =>
      refine List.pairwise_cons.mpr ⟨fun x hx => ?_, ih hy.2⟩
      rcases mem_insertSorted.mp hx with rfl | hx
      · exact not_lt.mp hge
      · exact hy.1 x hx

/-- New marks that keep the map's order and capacity. -/
theorem State.setMarks_within (s : State) (ms : List Mark)
    (h : s.MapOk → ms.length ≤ Config.mapCapacity ∧ (ms.Pairwise fun a b => a.start ≤ b.start) ∧
      ∀ m ∈ ms, ∀ e, m.finish = some e → m.start ≤ e) : s.Within [.map] (s.setMarks ms) :=
  .of_quiet (fun b hb => by cases b <;> first | rfl | simp at hb) rfl rfl
    (fun i => { marks := (h i).1, sorted := (h i).2.1, ends := (h i).2.2, entries := i.entries, joints := i.joints })
    (fun h => h) rfl rfl rfl rfl fun _ => rfl

/-- The web map changed in its counts, RA or lost-span flags. -/
theorem State.map_within (s : State) (x : WebMap) (hm : x.marks = s.map.marks) (hb : x.bridges = s.map.bridges) :
    s.Within [.map] { s with map := x } :=
  .of_quiet (fun b hb => by cases b <;> first | rfl | simp at hb) rfl rfl
    (fun i => i.congr hm fun k => by simp [State.bridge, hb]) (fun i => i.congr rfl fun k => by simp [State.bridge, hb]) rfl rfl rfl rfl fun k => by simp [State.bridge, hb]

theorem State.countLostMark_within (s : State) : s.Within [.map] s.countLostMark := s.map_within _ rfl rfl

theorem State.lowerRa_within (s : State) (p : Nat) : s.Within [.map] (s.lowerRa p) := by
  unfold State.lowerRa
  split
  · split
    · exact s.map_within _ rfl rfl
    · exact .refl s
  · exact s.map_within _ rfl rfl

theorem State.setLostSpan_within (s : State) (x : BondSource) (b : Bool) : s.Within [.map] (s.setLostSpan x b) := by
  cases x <;> exact s.map_within _ rfl rfl

theorem State.loseMark_within (s : State) (m : Mark) : s.Within [.map] (s.loseMark m) := by
  have h := (s.lowerRa_within m.start).trans (State.countLostMark_within _)
  unfold State.loseMark
  dsimp only
  split
  · split
    · exact (h.step (State.raise_within ..) (by simp)).trans (State.setLostSpan_within ..)
    · exact h.step (State.raise_within ..) (by simp)
  · exact h.step (State.raise_within ..) (by simp)

/-- A mark that does not end before it starts, stored in a map with room. -/
theorem State.storeMark_within (s : State) (m : Mark) (hm : ∀ e, m.finish = some e → m.start ≤ e)
    (room : s.map.marks.length < Config.mapCapacity) : s.Within [.map] (s.setMarks (insertSorted m s.map.marks)) :=
  s.setMarks_within _ fun i =>
    ⟨by rw [insertSorted_length]; exact room, insertSorted_sorted i.sorted, fun x hx => by
      rcases mem_insertSorted.mp hx with rfl | hx
      · exact hm
      · exact i.ends x hx⟩

theorem State.insertMark_within (s : State) (m : Mark) (hm : ∀ e, m.finish = some e → m.start ≤ e) :
    s.Within [.map] (s.insertMark m).1 := by
  unfold State.insertMark
  split
  · split
    · exact (State.countLostMark_within _).step (State.raise_within ..) (by simp)
    · split
      · next room => exact s.storeMark_within m hm room
      · split
        · exact .refl s
        · exact s.loseMark_within m
  · split
    · next room => exact s.storeMark_within m hm room
    · split
      · exact .refl s
      · exact s.loseMark_within m

theorem State.openSpan_within (s : State) (x : BondSource) (p : Nat) : s.Within [.map] (s.openSpan x p) :=
  s.insertMark_within _ fun _ h => by simp at h

/-! A list of marks that differs from the map's only in what a mark carries behind its start. -/

/-- A list changed mark by mark with starts kept and no mark ending before it starts. -/
theorem State.relabel_within (s : State) (ms : List Mark) (hs : ms.map (·.start) = s.map.marks.map (·.start))
    (he : (∀ m ∈ s.map.marks, ∀ e, m.finish = some e → m.start ≤ e) → ∀ m ∈ ms, ∀ e, m.finish = some e → m.start ≤ e) :
    s.Within [.map] (s.setMarks ms) :=
  s.setMarks_within _ fun i => by
    refine ⟨?_, ?_, he i.ends⟩
    · have := congrArg List.length hs
      simp only [List.length_map] at this
      rw [this]
      exact i.marks
    · have h1 : (s.map.marks.map (·.start)).Pairwise (· ≤ ·) := List.pairwise_map.mpr i.sorted
      rw [← hs] at h1
      exact List.pairwise_map.mp h1

theorem closeFirst_starts (x : BondSource) (e : Nat) (ms : List Mark) : (closeFirst x e ms).map (·.start) = ms.map (·.start) := by
  induction ms with
  | nil => rfl
  | cons m ms ih =>
    unfold closeFirst
    split
    · rfl
    · simp [ih]

theorem closeFirst_ends (x : BondSource) (e : Nat) (ms : List Mark) (h : ∀ m ∈ ms, ∀ v, m.finish = some v → m.start ≤ v) :
    ∀ m ∈ closeFirst x e ms, ∀ v, m.finish = some v → m.start ≤ v := by
  induction ms with
  | nil => simp [closeFirst]
  | cons m ms ih =>
    unfold closeFirst
    split
    · intro y hy v hv
      rcases List.mem_cons.mp hy with rfl | hy
      · simp only [Option.some.injEq] at hv
        rw [← hv]
        exact le_max_left _ _
      · exact h y (List.mem_cons_of_mem _ hy) v hv
    · intro y hy
      rcases List.mem_cons.mp hy with rfl | hy
      · exact h y List.mem_cons_self
      · exact ih (fun z hz => h z (List.mem_cons_of_mem _ hz)) y hy

theorem State.closeSpan_within (s : State) (x : BondSource) (e : Nat) : s.Within [.map] (s.closeSpan x e) := by
  unfold State.closeSpan
  split
  · exact s.relabel_within _ (closeFirst_starts x e _) (closeFirst_ends x e _)
  · split
    · exact s.setLostSpan_within x false
    · exact .refl s

theorem changeUnlocked_starts (f : MarkBody → MarkBody) (ms : List Mark) :
    (changeUnlocked f ms).map (·.start) = ms.map (·.start) := by
  induction ms with
  | nil => rfl
  | cons m ms ih =>
    unfold changeUnlocked
    split
    · rfl
    · simp [ih]

theorem changeUnlocked_ends (f : MarkBody → MarkBody) (ms : List Mark) (h : ∀ m ∈ ms, ∀ v, m.finish = some v → m.start ≤ v) :
    ∀ m ∈ changeUnlocked f ms, ∀ v, m.finish = some v → m.start ≤ v := by
  induction ms with
  | nil => simp [changeUnlocked]
  | cons m ms ih =>
    unfold changeUnlocked
    split
    · intro y hy
      rcases List.mem_cons.mp hy with rfl | hy
      · exact h m List.mem_cons_self
      · exact h y (List.mem_cons_of_mem _ hy)
    · intro y hy
      rcases List.mem_cons.mp hy with rfl | hy
      · exact h y List.mem_cons_self
      · exact ih (fun z hz => h z (List.mem_cons_of_mem _ hz)) y hy

theorem State.onUnlocked_within (s : State) (f : MarkBody → MarkBody) : s.Within [.map] (s.onUnlocked f) := by
  unfold State.onUnlocked
  split
  · exact .refl s
  · exact s.relabel_within _ (changeUnlocked_starts f _) (changeUnlocked_ends f _)

theorem State.lockMark_within (s : State) : s.Within [.map] s.lockMark := s.onUnlocked_within _

theorem State.setIncoming_within (s : State) (t : Option Nat) : s.Within [.map] (s.setIncoming t) := s.onUnlocked_within _

/-- A mark taken out of a list: the list is that mark and the rest, the rest in order. -/
theorem takeFirst_spec {p : Mark → Bool} {ms : List Mark} {m : Mark} {rest : List Mark} (h : takeFirst p ms = some (m, rest)) :
    p m = true ∧ rest.length + 1 = ms.length ∧ rest.Sublist ms ∧ m ∈ ms := by
  induction ms generalizing m rest with
  | nil => simp [takeFirst] at h
  | cons x xs ih =>
    unfold takeFirst at h
    split at h
    · next hp =>
      obtain ⟨rfl, rfl⟩ := Prod.mk.inj (Option.some.inj h)
      exact ⟨hp, rfl, List.sublist_cons_self _ _, List.mem_cons_self⟩
    · split at h
      · next y r hr =>
        obtain ⟨rfl, rfl⟩ := Prod.mk.inj (Option.some.inj h)
        obtain ⟨h1, h2, h3, h4⟩ := ih hr
        exact ⟨h1, by simp [h2], h3.cons_cons x, List.mem_cons_of_mem _ h4⟩
      · exact absurd h (by simp)

theorem State.moveMark_within (s : State) (p : Nat) : s.Within [.map] (s.moveMark p) := by
  unfold State.moveMark
  split
  · next m rest h =>
    obtain ⟨-, hl, hs, -⟩ := takeFirst_spec h
    refine s.setMarks_within _ fun i => ⟨?_, insertSorted_sorted (i.sorted.sublist hs), fun x hx => ?_⟩
    · rw [insertSorted_length, hl]
      exact i.marks
    · rcases mem_insertSorted.mp hx with rfl | hx
      · intro e he
        simp only [Option.some.injEq] at he
        show p ≤ e
        omega
      · exact i.ends x (hs.subset hx)
  · exact .refl s

/-! ### Bridges -/

/-- A bridge changed with its list kept within its capacity and in its order. -/
theorem State.onBridge_mapOk {s : State} {k : WebId} {f : Bridge → Bridge} (i : s.MapOk)
    (h : ∀ b : Bridge, b = s.bridge k → b.entries.length ≤ Config.bridgeCapacity → (b.entries.Pairwise fun x y => x.e ≤ y.e) →
      (f b).entries.length ≤ Config.bridgeCapacity ∧ (f b).entries.Pairwise fun x y => x.e ≤ y.e) : (s.onBridge k f).MapOk := by
  have at_k : ∀ j : WebId, ((s.onBridge k f).bridge j).entries.length ≤ Config.bridgeCapacity ∧
      ((s.onBridge k f).bridge j).entries.Pairwise fun x y => x.e ≤ y.e := fun j => by
    by_cases e : j = k
    · subst e
      rw [State.onBridge_self]
      exact h _ rfl (i.entries j) (i.joints j)
    · rw [State.onBridge_ne _ _ _ e]
      exact ⟨i.entries j, i.joints j⟩
  exact { marks := i.marks, sorted := i.sorted, ends := i.ends, entries := fun j => (at_k j).1, joints := fun j => (at_k j).2 }

/-- A bridge list changed within its capacity and in its order, by no entry at or below X_k. -/
theorem State.onEntries_within (s : State) (k : WebId) (f : List BridgeEntry → List BridgeEntry)
    (h : ∀ l, l = (s.bridge k).entries → l.length ≤ Config.bridgeCapacity → (l.Pairwise fun x y => x.e ≤ y.e) →
      (f l).length ≤ Config.bridgeCapacity ∧ (f l).Pairwise fun x y => x.e ≤ y.e)
    (ha : ∀ b ∈ f (s.bridge k).entries, b ∈ (s.bridge k).entries ∨ s.mergeCoord k < b.e) :
    s.Within [.map] (s.onBridge k fun b => { b with entries := f b.entries }) := by
  have levels (j : WebId) : { (s.onBridge k fun b => { b with entries := f b.entries }).bridge j with entries := [] } =
      { s.bridge j with entries := [] } := by
    by_cases e : j = k
    · subst e
      rw [State.onBridge_self]
    · rw [State.onBridge_ne _ _ _ e]
  refine .of_quiet (fun b hb => by cases b <;> first | rfl | simp at hb) rfl rfl
    (fun i => State.onBridge_mapOk i fun b e hl hp => h _ (by rw [e]) hl hp) (fun i j b hb => ?_) rfl rfl rfl rfl levels
  have hx : (s.onBridge k fun b => { b with entries := f b.entries }).mergeCoord j = s.mergeCoord j := by
    have hc := congrArg Bridge.content (levels j)
    exact congrArg (s.webPos j - ·) hc
  rw [hx]
  by_cases e : j = k
  · subst e
    rw [State.onBridge_self] at hb
    exact (ha b hb).elim (i j b) id
  · rw [State.onBridge_ne _ _ _ e] at hb
    exact i j b hb

/-- A bridge changed outside its list. -/
theorem State.onBridge_kept (s : State) (k : WebId) (f : Bridge → Bridge) (h : ∀ b, (f b).entries = b.entries) :
    s.Kept (s.onBridge k f) where
  held := rfl
  pending := rfl
  cmdQueue := rfl
  replyQueue := rfl
  reply _ := Iff.rfl
  line i := i.congr rfl rfl rfl rfl rfl rfl rfl
  map i := State.onBridge_mapOk i fun b _ hl hp => by rw [h]; exact ⟨hl, hp⟩

theorem State.setEntry_kept (s : State) (e : Entry) (v : Option Nat) (hs : e ≠ .stop) (hh : e ≠ .hold) : s.Kept (s.setEntry e v) :=
  (s.setEntry_within e v hs hh).kept

theorem State.transferEntry_within (s : State) (x : Nat) (b : BridgeEntry) : s.Within [.map] (s.transferEntry x b).1 :=
  s.insertMark_within _ fun e h => by
    simp only [Option.some.injEq] at h
    show s.linePos + b.e - (x + b.before) ≤ e
    omega

theorem State.transferList_within (x : Nat) : ∀ (l : List BridgeEntry) (s : State), s.Within [.map] (s.transferList x l).1
  | [], s => .refl s
  | b :: bs, s => (s.transferEntry_within x b).trans (State.transferList_within x bs _)

theorem State.transferDue_within (s : State) (k : WebId) : s.Within [.map] (s.transferDue k).1 := by
  unfold State.transferDue
  exact (s.onEntries_within k _
    (fun b _ hl hp => ⟨(List.length_drop ▸ Nat.sub_le _ _).trans hl, hp.sublist (List.drop_sublist _ _)⟩)
    fun _ hb => .inl (List.mem_of_mem_drop hb)).trans (State.transferList_within _ _ _)

theorem insertEntry_length (b : BridgeEntry) (l : List BridgeEntry) : (insertEntry b l).length = l.length + 1 := by
  induction l with
  | nil => rfl
  | cons x xs ih =>
    unfold insertEntry
    split
    · rfl
    · simp [ih]

theorem mem_insertEntry {b x : BridgeEntry} {l : List BridgeEntry} : x ∈ insertEntry b l ↔ x = b ∨ x ∈ l := by
  induction l with
  | nil => simp [insertEntry]
  | cons y ys ih =>
    unfold insertEntry
    split
    · simp
    · simp only [List.mem_cons, ih]
      tauto

theorem insertEntry_sorted {b : BridgeEntry} {l : List BridgeEntry} (h : l.Pairwise fun x y => x.e ≤ y.e) :
    (insertEntry b l).Pairwise fun x y => x.e ≤ y.e := by
  induction l with
  | nil => simp [insertEntry]
  | cons y ys ih =>
    have hy := List.pairwise_cons.mp h
    unfold insertEntry
    split
    · next hlt =>
      refine List.pairwise_cons.mpr ⟨fun x hx => ?_, h⟩
      rcases List.mem_cons.mp hx with rfl | hx
      · exact hlt.le
      · exact hlt.le.trans (hy.1 x hx)
    · next hge =>
      refine List.pairwise_cons.mpr ⟨fun x hx => ?_, ih hy.2⟩
      rcases mem_insertEntry.mp hx with rfl | hx
      · exact not_lt.mp hge
      · exact hy.1 x hx

theorem State.bridgeJoint_within (s : State) (k : WebId) (b : BridgeEntry) : s.Within [.map] (s.bridgeJoint k b) := by
  unfold State.bridgeJoint
  split
  · exact State.transferEntry_within ..
  · next late =>
    split
    · next room =>
      refine s.onEntries_within k _ (fun l hl _ hp => by
        subst hl
        exact ⟨by rw [insertEntry_length]; exact room, insertEntry_sorted hp⟩) fun x hx => ?_
      rcases mem_insertEntry.mp hx with rfl | hx
      · exact .inr (not_le.mp late)
      · exact .inl hx
    · exact ((State.lowerRa_within ..).trans (State.countLostMark_within _)).step (State.raise_within ..) (by simp)

theorem State.placeJoint_within (s : State) (i : SpliceId) (p b a : Nat) (x : Bool) : s.Within [.map] (s.placeJoint i p b a x) := by
  unfold State.placeJoint
  split
  · exact State.bridgeJoint_within ..
  · exact s.insertMark_within _ fun e h => by
      simp only [Option.some.injEq] at h
      show p - b ≤ e
      omega

theorem State.evalBridgeEntry_within (s : State) : s.Within [.lsv] s.evalBridgeEntry := State.setEntry_within ..

theorem State.setContent_kept (s : State) (k : WebId) (v : Nat) : s.Kept (s.setContent k v) := by
  have h := (s.onBridge_kept k (fun b => { b with content := v }) fun _ => rfl).step (State.evalBridgeEntry_within _)
  unfold State.setContent
  dsimp only
  split
  · exact h.step (State.raise_within ..)
  · exact h

end Sys2Proof.Machine
end

