-- ==== Sys2Proof/Laws/Ahead.lean ====
section
/-! SUPPORT. What the requests to the web map do to the law of R26 (`State.MarksAhead`): an insertion keeps it, since a late mark is not stored;
a close and a move keep it when the end they give lies ahead. -/

namespace Sys2Proof.Machine

/-- New marks, each of them open, or ahead, or in the map already. -/
theorem State.MarksAhead.setMarks {s : State} (i : s.MarksAhead) (ms : List Mark)
    (h : ∀ m ∈ ms, m ∈ s.map.marks ∨ ∀ e, m.finish = some e → s.linePos < e + s.dLast) : (s.setMarks ms).MarksAhead :=
  fun m hm e he => (h m hm).elim (fun x => i m x e he) fun x => x e he

/-- Work that leaves the marks, the counters and the station distances. -/
theorem State.MarksAhead.same {s t : State} (i : s.MarksAhead) (hl : t.lcu = s.lcu) (hm : t.map.marks = s.map.marks) : t.MarksAhead := by
  refine i.congr ?_ ?_ fun m h => .inr ⟨m, hm ▸ h, rfl⟩
  · unfold State.linePos State.counter
    rw [hl]
  · unfold State.dLast
    rw [hl]

theorem State.loseMark_marks (s : State) (m : Mark) : (s.loseMark m).map.marks = s.map.marks ∧ (s.loseMark m).lcu = s.lcu := by
  unfold State.loseMark State.lowerRa State.countLostMark State.setLostSpan State.raise
  dsimp only
  repeat' split
  all_goals exact ⟨rfl, rfl⟩

/-- An insertion request keeps the law whatever mark it carries (R21, R26). -/
theorem State.MarksAhead.insertMark {s : State} (i : s.MarksAhead) (m : Mark) : (s.insertMark m).1.MarksAhead := by
  have store (h : ∀ e, m.finish = some e → s.linePos < e + s.dLast) : (s.setMarks (insertSorted m s.map.marks)).MarksAhead :=
    i.setMarks _ fun x hx => by
      rcases mem_insertSorted.mp hx with rfl | hx
      · exact .inr h
      · exact .inl hx
  have lose : (s.loseMark m).MarksAhead := i.same (s.loseMark_marks m).2 (s.loseMark_marks m).1
  unfold State.insertMark
  split
  · next e he =>
    split
    · exact i.same rfl rfl
    · next hn =>
      split
      · exact store fun v hv => by
          cases he.symm.trans hv
          exact not_le.mp hn
      · split
        · exact i
        · exact lose
  · next he =>
    split
    · exact store fun v hv => by
        rw [he] at hv
        cases hv
    · split
      · exact i
      · exact lose

theorem State.MarksAhead.openSpan {s : State} (i : s.MarksAhead) (x : BondSource) (p : Nat) : (s.openSpan x p).MarksAhead := i.insertMark _

/-- A close request with an end that lies ahead keeps the law (R24, R26). -/
theorem State.MarksAhead.closeSpan {s : State} (i : s.MarksAhead) (x : BondSource) (e : Nat) (h : s.linePos < e + s.dLast) :
    (s.closeSpan x e).MarksAhead := by
  have close : ∀ ms : List Mark, ∀ m ∈ closeFirst x e ms, m ∈ ms ∨ ∀ v, m.finish = some v → s.linePos < v + s.dLast := by
    intro ms
    induction ms with
    | nil => simp [closeFirst]
    | cons y ys ih =>
      intro m hm
      unfold closeFirst at hm
      split at hm
      · rcases List.mem_cons.mp hm with rfl | hm
        · refine .inr fun v hv => ?_
          simp only [Option.some.injEq] at hv
          have := le_max_right y.start e
          omega
        · exact .inl (List.mem_cons_of_mem _ hm)
      · rcases List.mem_cons.mp hm with rfl | hm
        · exact .inl List.mem_cons_self
        · exact (ih m hm).imp (List.mem_cons_of_mem _) id
  unfold State.closeSpan
  split
  · exact i.setMarks _ (close _)
  · split
    · cases x <;> exact i.same rfl rfl
    · exact i

/-- A move of the end mark to a place that lies ahead keeps the law (R25, R26). -/
theorem State.MarksAhead.moveMark {s : State} (i : s.MarksAhead) (p : Nat) (h : s.linePos < p + s.zc + s.dLast) :
    (s.moveMark p).MarksAhead := by
  have rest : ∀ (ms : List Mark) (m : Mark) (l : List Mark), takeFirst (·.isUnlockedChange) ms = some (m, l) → ∀ x ∈ l, x ∈ ms := by
    intro ms
    induction ms with
    | nil => intro m l e; cases e
    | cons y ys ih =>
      intro m l e x hx
      unfold takeFirst at e
      split at e
      · cases e
        exact List.mem_cons_of_mem _ hx
      · split at e
        · next z zs hz =>
          cases e
          rcases List.mem_cons.mp hx with rfl | hx
          · exact List.mem_cons_self
          · exact List.mem_cons_of_mem _ (ih _ _ hz x hx)
        · cases e
  unfold State.moveMark
  split
  · next m l e =>
    refine i.setMarks _ fun x hx => ?_
    rcases mem_insertSorted.mp hx with rfl | hx
    · refine .inr fun v hv => ?_
      simp only [Option.some.injEq] at hv
      omega
    · exact .inl (rest _ _ _ e x hx)
  · exact i

end Sys2Proof.Machine
end

