-- ==== Sys2Proof/Laws/WithinBond.lean ====
section
/-! SUPPORT. What the bond controller's and the splice stations' own operations can do. -/

namespace Sys2Proof.Machine

theorem State.evalZone_within (s : State) (n : ZoneId) : s.Within [.bnd] (s.evalZone n) := by
  unfold State.evalZone
  repeat' first
    | with_reducible apply State.Within.refl
    | (with_reducible apply State.Within.ite) <;> intro _
    | with_reducible apply State.Within.step ?_ (State.onZone_within ..) (by simp)

theorem State.evalBond_within (s : State) : s.Within [.bnd, .lsv] (s.evalBond) := by
  unfold State.evalBond
  extract_lets s1
  repeat' first
    | with_reducible apply State.Within.refl
    | with_reducible apply State.Within.step ?_ (State.onZone_within ..) (by simp)
    | with_reducible apply State.Within.step ?_ (State.setEntry_within ..) (by simp)
    | with_reducible apply State.Within.trans ?_ (State.forAll_within fun _ _ => ?_)

theorem State.openZoneSpan_within (s : State) (n : ZoneId) : s.Within [.map, .bnd] (s.openZoneSpan n) := by
  unfold State.openZoneSpan
  extract_lets start
  repeat' first
    | with_reducible apply State.Within.refl
    | with_reducible apply State.Within.step ?_ (State.onZone_within ..) (by simp)
    | with_reducible apply State.Within.step ?_ (State.openSpan_within ..) (by simp)

theorem State.closeZoneSpan_within (s : State) (n : ZoneId) : s.Within [.map, .bnd] (s.closeZoneSpan n) := by
  unfold State.closeZoneSpan
  repeat' first
    | with_reducible apply State.Within.refl
    | (with_reducible apply State.Within.ite) <;> intro _
    | with_reducible apply State.Within.step ?_ (State.closeSpan_within ..) (by simp)
    | with_reducible apply State.Within.step ?_ (State.onZone_within ..) (by simp)

theorem State.enterZone_within (s : State) (n : ZoneId) (new : ZoneState) : s.Within [.map, .bnd, .lsv] (s.enterZone n new) := by
  unfold State.enterZone
  extract_lets s1 s2 s3
  repeat' first
    | with_reducible apply State.Within.refl
    | (with_reducible apply State.Within.ite) <;> intro _
    | with_reducible apply State.Within.step ?_ (State.closeZoneSpan_within ..) (by simp)
    | with_reducible apply State.Within.step ?_ (State.evalBond_within ..) (by simp)
    | with_reducible apply State.Within.step ?_ (State.onZone_within ..) (by simp)
    | with_reducible apply State.Within.step ?_ (State.openZoneSpan_within ..) (by simp)
    | with_reducible apply State.Within.step ?_ (State.raise_within ..) (by simp)

theorem State.postDemand_within (s : State) (n : ZoneId) (r : Reading) : s.Within [.bnd] (s.postDemand n r) := by
  unfold State.postDemand
  repeat' first
    | with_reducible apply State.Within.refl
    | with_reducible apply State.Within.step ?_ (State.onZone_within ..) (by simp)

theorem State.zoneSensorFault_within (s : State) (n : ZoneId) : s.Within [.map, .bnd, .lsv] (s.zoneSensorFault n) := by
  unfold State.zoneSensorFault
  repeat' first
    | with_reducible apply State.Within.refl
    | with_reducible apply State.Within.step ?_ (State.enterZone_within ..) (by simp)
    | with_reducible apply State.Within.step ?_ (State.onZone_within ..) (by simp)

theorem State.judgeTemperature_within (s : State) (n : ZoneId) (r : Reading) : s.Within [.map, .bnd, .lsv] (s.judgeTemperature n r) := by
  unfold State.judgeTemperature
  repeat' first
    | with_reducible apply State.Within.refl
    | extract_lets s1 s1
    | (with_reducible apply State.Within.ite) <;> intro _
    | with_reducible apply State.Within.step ?_ (State.enterZone_within ..) (by simp)
    | with_reducible apply State.Within.step ?_ (State.onZone_within ..) (by simp)
    | with_reducible apply State.Within.step ?_ (State.zoneSensorFault_within ..) (by simp)
    | split

theorem State.takeTemperature_within (s : State) (n : ZoneId) (r : Reading) : s.Within [.map, .bnd, .lsv] (s.takeTemperature n r) := by
  unfold State.takeTemperature
  extract_lets s1
  repeat' first
    | with_reducible apply State.Within.refl
    | (with_reducible apply State.Within.ite) <;> intro _
    | with_reducible apply State.Within.step ?_ (State.evalBond_within ..) (by simp)
    | with_reducible apply State.Within.step ?_ (State.evalZone_within ..) (by simp)
    | with_reducible apply State.Within.step ?_ (State.judgeTemperature_within ..) (by simp)
    | with_reducible apply State.Within.step ?_ (State.onZone_within ..) (by simp)
    | with_reducible apply State.Within.step ?_ (State.postDemand_within ..) (by simp)

theorem State.zoneReport_within (s : State) (n : ZoneId) (isFault : Bool) : s.Within [.map, .bnd, .lsv] (s.zoneReport n isFault) := by
  unfold State.zoneReport
  extract_lets s1
  repeat' first
    | with_reducible apply State.Within.refl
    | (with_reducible apply State.Within.ite) <;> intro _
    | with_reducible apply State.Within.step ?_ (State.enterZone_within ..) (by simp)
    | with_reducible apply State.Within.step ?_ (State.onZone_within ..) (by simp)

/-- A station takes rules and nothing else. -/
theorem GlueStation.takeRules_keeps (g : GlueStation) : g.takeRules = { g with rules := g.takeRules.rules } := by
  unfold GlueStation.takeRules; split <;> rfl

/-- A set station takes the rules of its settings. -/
theorem GlueStation.takeRules_set {g : GlueStation} {c : GlueSettings} (h : g.settings = some c) :
    g.takeRules = { g with rules := c.moveRules } := by
  simp [GlueStation.takeRules, h]

theorem State.setGlueState_within (s : State) (k : GlueId) (new : GlueState) : s.Within [.bnd] (s.setGlueState k new) := by
  unfold State.setGlueState
  repeat' first
    | with_reducible apply State.Within.refl
    | with_reducible apply State.Within.step ?_ (State.onGlue_within ..) (by simp)

theorem State.setPair_within (s : State) (k : GlueId) (a b : Level) : s.Within [.bnd] (s.setPair k a b) := by
  unfold State.setPair
  repeat' first
    | with_reducible apply State.Within.refl
    | with_reducible apply State.Within.step ?_ (State.onGlue_within ..) (by simp)

theorem State.driveToward_within (s : State) (k : GlueId) (r : Nat) : s.Within [.bnd] (s.driveToward k r) := by
  unfold State.driveToward
  repeat' first
    | with_reducible apply State.Within.refl
    | (with_reducible apply State.Within.ite) <;> intro _
    | with_reducible apply State.Within.step ?_ (State.setPair_within ..) (by simp)

theorem State.leavePair_within (s : State) (k : GlueId) : s.Within [.bnd] (s.leavePair k) := by
  unfold State.leavePair
  repeat' first
    | with_reducible apply State.Within.refl
    | extract_lets 
    | with_reducible apply State.Within.step ?_ (State.setPair_within ..) (by simp)
    | split

theorem State.closeGlueSpan_within (s : State) (k : GlueId) : s.Within [.map, .bnd] (s.closeGlueSpan k) := by
  unfold State.closeGlueSpan
  repeat' first
    | with_reducible apply State.Within.refl
    | (with_reducible apply State.Within.ite) <;> intro _
    | with_reducible apply State.Within.step ?_ (State.closeSpan_within ..) (by simp)
    | with_reducible apply State.Within.step ?_ (State.onGlue_within ..) (by simp)

theorem State.judgeGap_within (s : State) (k : GlueId) (r : Nat) : s.Within [.map, .bnd] (s.judgeGap k r) := by
  unfold State.judgeGap
  repeat' first
    | with_reducible apply State.Within.refl
    | extract_lets g fits
    | (with_reducible apply State.Within.ite) <;> intro _
    | with_reducible apply State.Within.step ?_ (State.closeGlueSpan_within ..) (by simp)
    | with_reducible apply State.Within.step ?_ (State.driveToward_within ..) (by simp)
    | with_reducible apply State.Within.step ?_ (State.leavePair_within ..) (by simp)
    | with_reducible apply State.Within.step ?_ (State.setGlueState_within ..) (by simp)
    | split

theorem State.evalGlue_within (s : State) (k : GlueId) : s.Within [.map, .bnd] (s.evalGlue k) := by
  unfold State.evalGlue
  repeat' first
    | with_reducible apply State.Within.refl
    | extract_lets t s1
    | (with_reducible apply State.Within.ite) <;> intro _
    | with_reducible apply State.Within.step ?_ (State.judgeGap_within ..) (by simp)
    | with_reducible apply State.Within.step ?_ (State.onGlue_within ..) (by simp)
    | split

theorem State.openGlueSpan_within (s : State) (k : GlueId) : s.Within [.map, .bnd] (s.openGlueSpan k) := by
  unfold State.openGlueSpan
  repeat' first
    | with_reducible apply State.Within.refl
    | (with_reducible apply State.Within.ite) <;> intro _
    | with_reducible apply State.Within.step ?_ (State.onGlue_within ..) (by simp)
    | with_reducible apply State.Within.step ?_ (State.openSpan_within ..) (by simp)

theorem State.glueFault_within (s : State) (k : GlueId) (c : GlueCause) : s.Within [.map, .bnd] (s.glueFault k c) := by
  unfold State.glueFault
  repeat' first
    | with_reducible apply State.Within.refl
    | extract_lets s1
    | with_reducible apply State.Within.step ?_ (State.onGlue_within ..) (by simp)
    | with_reducible apply State.Within.step ?_ (State.openGlueSpan_within ..) (by simp)
    | with_reducible apply State.Within.step ?_ (State.raise_within ..) (by simp)
    | with_reducible apply State.Within.step ?_ (State.setGlueState_within ..) (by simp)
    | with_reducible apply State.Within.step ?_ (State.setPair_within ..) (by simp)
    | split

theorem State.glueReport_within (s : State) (k : GlueId) (isFault : Bool) : s.Within [.map, .bnd] (s.glueReport k isFault) := by
  unfold State.glueReport
  repeat' first
    | with_reducible apply State.Within.refl
    | (with_reducible apply State.Within.ite) <;> intro _
    | with_reducible apply State.Within.step ?_ (State.glueFault_within ..) (by simp)
    | with_reducible apply State.Within.step ?_ (State.onGlue_within ..) (by simp)

theorem State.takeGap_within (s : State) (k : GlueId) (r : Reading) : s.Within [.map, .bnd] (s.takeGap k r) := by
  unfold State.takeGap
  extract_lets s1 s2
  repeat' first
    | with_reducible apply State.Within.refl
    | (with_reducible apply State.Within.ite) <;> intro _
    | with_reducible apply State.Within.step ?_ (State.evalGlue_within ..) (by simp)
    | with_reducible apply State.Within.step ?_ (State.glueFault_within ..) (by simp)
    | with_reducible apply State.Within.step ?_ (State.judgeGap_within ..) (by simp)
    | with_reducible apply State.Within.step ?_ (State.onGlue_within ..) (by simp)
    | split

theorem State.glueTakesUp_within (s : State) (k : GlueId) : s.Within [.bnd] (s.glueTakesUp k) := by
  unfold State.glueTakesUp
  repeat' first
    | with_reducible apply State.Within.refl
    | extract_lets 
    | with_reducible apply State.Within.step ?_ (State.onGlue_within ..) (by simp)
    | with_reducible apply State.Within.step ?_ (State.setGlueState_within ..) (by simp)
    | with_reducible apply State.Within.step ?_ (State.setPair_within ..) (by simp)
    | split

theorem State.glueTakenOut_within (s : State) (k : GlueId) : s.Within [.map, .bnd] (s.glueTakenOut k) := by
  unfold State.glueTakenOut
  repeat' first
    | with_reducible apply State.Within.refl
    | (with_reducible apply State.Within.ite) <;> intro _
    | with_reducible apply State.Within.step ?_ (State.closeGlueSpan_within ..) (by simp)
    | with_reducible apply State.Within.step ?_ (State.onGlue_within ..) (by simp)
    | with_reducible apply State.Within.step ?_ (State.setGlueState_within ..) (by simp)
    | with_reducible apply State.Within.step ?_ (State.setPair_within ..) (by simp)

theorem State.endStop_within (s : State) : s.Within [.bnd] (s.endStop) := by
  unfold State.endStop
  repeat' first
    | with_reducible apply State.Within.refl
    | (with_reducible apply State.Within.ite) <;> intro _
    | with_reducible apply State.Within.step ?_ (State.bnd_within ..) (by simp)

theorem State.evalBonds_within (s : State) : s.Within [.map, .bnd] (s.evalBonds) := by
  unfold State.evalBonds
  repeat' first
    | with_reducible apply State.Within.refl
    | with_reducible apply State.Within.step ?_ (State.evalGlue_within ..) (by simp)
    | with_reducible apply State.Within.step ?_ (State.evalZone_within ..) (by simp)
    | with_reducible apply State.Within.trans ?_ (State.forAll_within fun _ _ => ?_)

theorem State.bondLineAdvance_within (s : State) : s.Within [.map, .bnd] (s.bondLineAdvance) := by
  unfold State.bondLineAdvance
  repeat' first
    | with_reducible apply State.Within.refl
    | with_reducible apply State.Within.step ?_ (State.endStop_within ..) (by simp)
    | with_reducible apply State.Within.step ?_ (State.evalBonds_within ..) (by simp)

theorem State.bondWebAdvance_within (s : State) (k : WebId) : s.Within [.map, .bnd] (s.bondWebAdvance k) := by
  unfold State.bondWebAdvance
  repeat' first
    | with_reducible apply State.Within.refl
    | with_reducible apply State.Within.step ?_ (State.evalGlue_within ..) (by simp)

theorem State.countZeroSpeed_within (s : State) : s.Within [.bnd] (s.countZeroSpeed) := by
  unfold State.countZeroSpeed
  extract_lets s1
  repeat' first
    | with_reducible apply State.Within.refl
    | (with_reducible apply State.Within.ite) <;> intro _
    | with_reducible apply State.Within.step ?_ (State.bnd_within ..) (by simp)

theorem State.evalSplice_within (s : State) : s.Within [.lsv] (s.evalSplice) := by
  unfold State.evalSplice
  repeat' first
    | with_reducible apply State.Within.refl
    | with_reducible apply State.Within.step ?_ (State.setEntry_within ..) (by simp)

theorem State.enterSplice_within (s : State) (i : SpliceId) (p : SplicePhase) : s.Within [.spc, .lsv] (s.enterSplice i p) := by
  unfold State.enterSplice
  repeat' first
    | with_reducible apply State.Within.refl
    | with_reducible apply State.Within.step ?_ (State.evalSplice_within ..) (by simp)
    | with_reducible apply State.Within.step ?_ (State.onSplice_within ..) (by simp)

theorem State.armChannel_within (s : State) (i : SpliceId) : s.Within [.lcu] (s.armChannel i) := by
  unfold State.armChannel
  repeat' first
    | with_reducible apply State.Within.refl
    | (with_reducible apply State.Within.ite) <;> intro _
    | with_reducible apply State.Within.step ?_ (State.onJoint_within ..) (by simp)

theorem State.disarmChannel_within (s : State) (i : SpliceId) : s.Within [.lcu] (s.disarmChannel i) := by
  unfold State.disarmChannel
  repeat' first
    | with_reducible apply State.Within.refl
    | with_reducible apply State.Within.step ?_ (State.onJoint_within ..) (by simp)

theorem State.fire_within (s : State) (i : SpliceId) : s.Within [.lcu, .spc, .lsv] (s.fire i) := by
  unfold State.fire
  extract_lets c s1
  repeat' first
    | with_reducible apply State.Within.refl
    | with_reducible apply State.Within.step ?_ (State.armChannel_within ..) (by simp)
    | with_reducible apply State.Within.step ?_ (State.enterSplice_within ..) (by simp)
    | with_reducible apply State.Within.step ?_ (State.onSplice_within ..) (by simp)

theorem State.fireTest_within (s : State) (i : SpliceId) : s.Within [.lcu, .spc, .lsv] (s.fireTest i) := by
  unfold State.fireTest
  repeat' first
    | with_reducible apply State.Within.refl
    | (with_reducible apply State.Within.ite) <;> intro _
    | with_reducible apply State.Within.step ?_ (State.fire_within ..) (by simp)

theorem State.enterMatched_within (s : State) (i : SpliceId) : s.Within [.lcu, .spc, .lsv] (s.enterMatched i) := by
  unfold State.enterMatched
  repeat' first
    | with_reducible apply State.Within.refl
    | with_reducible apply State.Within.step ?_ (State.enterSplice_within ..) (by simp)
    | with_reducible apply State.Within.step ?_ (State.fireTest_within ..) (by simp)

theorem State.enterMatching_within (s : State) (i : SpliceId) (force : Bool) : s.Within [.lcu, .spc, .lsv] (s.enterMatching i force) := by
  unfold State.enterMatching
  extract_lets s1
  repeat' first
    | with_reducible apply State.Within.refl
    | (with_reducible apply State.Within.ite) <;> intro _
    | with_reducible apply State.Within.step ?_ (State.enterMatched_within ..) (by simp)
    | with_reducible apply State.Within.step ?_ (State.enterSplice_within ..) (by simp)
    | with_reducible apply State.Within.step ?_ (State.onSplice_within ..) (by simp)

theorem State.armTest_within (s : State) (i : SpliceId) : s.Within [.lcu, .spc, .lsv] (s.armTest i) := by
  unfold State.armTest
  repeat' first
    | with_reducible apply State.Within.refl
    | (with_reducible apply State.Within.ite) <;> intro _
    | with_reducible apply State.Within.step ?_ (State.enterMatching_within ..) (by simp)

theorem State.abortSplice_within (s : State) (i : SpliceId) : s.Within [.spc, .lsv] (s.abortSplice i) := by
  unfold State.abortSplice
  extract_lets p
  repeat' first
    | with_reducible apply State.Within.refl
    | (with_reducible apply State.Within.ite) <;> intro _
    | with_reducible apply State.Within.step ?_ (State.enterSplice_within ..) (by simp)
    | with_reducible apply State.Within.step ?_ (State.onSplice_within ..) (by simp)
    | with_reducible apply State.Within.step ?_ (State.raise_within ..) (by simp)

end Sys2Proof.Machine
end

