-- ==== Sys2Proof/Laws/WithinLine.lean ====
section
/-! SUPPORT. What a change of the line state, a hold cause and a stop cause can do. -/

namespace Sys2Proof.Machine

theorem State.raiseLine_within (s : State) (old : LineState) : s.Within [] (s.raiseLine old) := by
  unfold State.raiseLine
  repeat' first
    | with_reducible apply State.Within.refl
    | with_reducible apply State.Within.step ?_ (State.raise_within ..) (by simp)

/-- What the entry to a line state leaves (R148): the ceiling table, the holds and the flags stand; the link's expiry count may fall. -/
theorem State.putLine_lnk (s : State) (new : LineState) :
    (s.putLine new).lnk = { s.lnk with expiries := (s.putLine new).lnk.expiries } := rfl


/-- The line state put and its two entries set. -/
theorem State.enterLine_touches (s : State) (new : LineState) : s.Touches [.lsv, .lnk] (s.putLine new).setLineEntries := by
  have base (c : Ceiling) : s.Touches [.lsv, .lnk] { s.putLine new with lsv := { (s.putLine new).lsv with ceiling := c } } :=
    { same := fun b hb => by cases b <;> first | rfl | simp at hb
      link := rfl
      expiries := fun h => absurd (by simp) h
      reply := fun _ => Iff.rfl
      held := rfl
      fresh := rfl
      pending := rfl
      flag := rfl
      thread := rfl
      lcu := rfl
      levels := fun _ => rfl
      map := fun h => h.congr rfl fun _ => rfl
      ahead := fun h => h }
  unfold State.setLineEntries State.setCeiling
  dsimp only
  split
  · exact base _
  · exact (base _).step (State.raise_within ..) (by simp)

/-- The new line state agrees with the ceiling table and the speed reference, and with the holds and the start flag where it fits them. -/
theorem State.enterLine_lineOk (s : State) (new : LineState) (hr : new = .run → s.lsv.holds.isEmpty = true)
    (hh : new = .hold → s.lsv.holds.isEmpty = false) (hf : new.runs = true → s.lsv.startFlag = false) :
    (s.putLine new).setLineEntries.LineOk := by
  have base (c : Ceiling) (hs : c.stop = new.stopEntry) (hc : c.hold = new.holdEntry s.lsv.thread) :
      State.LineOk { s.putLine new with lsv := { (s.putLine new).lsv with ceiling := c } } :=
    { stopEntry := hs
      holdEntry := hc
      standing := fun h => by
        change new.stands = true at h
        simp [State.putLine, h]
      running := hr
      holding := hh
      started := hf }
  unfold State.setLineEntries State.setCeiling
  dsimp only
  split
  · exact base _ rfl rfl
  · exact (State.raise_within ..).line (base _ rfl rfl)


theorem State.announceSplice_within (s : State) (new : LineState) : s.Within [.lcu, .spc, .lsv] (s.announceSplice new) := by
  unfold State.announceSplice
  repeat' first
    | with_reducible apply State.Within.refl
    | extract_lets 
    | with_reducible apply State.Within.step ?_ (State.abortSplice_within ..) (by simp)
    | with_reducible apply State.Within.step ?_ (State.armTest_within ..) (by simp)
    | with_reducible apply State.Within.trans ?_ (State.forAll_within fun _ _ => ?_)
    | split

theorem State.announceBond_within (s : State) (old new : LineState) : s.Within [.map, .bnd] (s.announceBond old new) := by
  unfold State.announceBond
  repeat' first
    | with_reducible apply State.Within.refl
    | (with_reducible apply State.Within.ite) <;> intro _
    | with_reducible apply State.Within.step ?_ (State.evalBonds_within ..) (by simp)

/-- A change of the line state (R148). -/
theorem State.changeLine_touches (s : State) (new : LineState) : s.Touches [.lcu, .map, .spc, .bnd, .lsv, .lnk] (s.changeLine new) := by
  unfold State.changeLine
  exact ((((s.enterLine_touches new).mono (by simp)).step (State.announceSplice_within ..) (by simp)).step
    (State.announceBond_within ..) (by simp)).step (State.raiseLine_within ..) (by simp)

theorem State.changeLine_lineOk (s : State) (new : LineState) (hr : new = .run → s.lsv.holds.isEmpty = true)
    (hh : new = .hold → s.lsv.holds.isEmpty = false) (hf : new.runs = true → s.lsv.startFlag = false) :
    (s.changeLine new).LineOk := by
  unfold State.changeLine
  exact (State.raiseLine_within ..).line ((State.announceBond_within ..).line ((State.announceSplice_within ..).line
    (s.enterLine_lineOk new hr hh hf)))

/-- A change to a line state in which the line does not run. -/
theorem State.changeLine_within (s : State) (new : LineState) (h : new.runs = false := by rfl) :
    s.Within [.lcu, .map, .spc, .bnd, .lsv, .lnk] (s.changeLine new) where
  toTouches := s.changeLine_touches new
  line _ := s.changeLine_lineOk new (fun e => by subst e; cases h) (fun e => by subst e; cases h) (fun e => by rw [h] at e; cases e)

/-- The hold-cause set replaced, the line state not yet following. -/
theorem State.putHolds_touches (s : State) (h : HoldSet) : s.Touches [.lsv] { s with lsv := { s.lsv with holds := h } } where
  same b hb := by cases b <;> first | rfl | simp at hb
  link := rfl
  expiries _ := rfl
  reply _ := Iff.rfl
  held := rfl
  fresh := rfl
  pending := rfl
  flag := rfl
  thread := rfl
  lcu := rfl
  levels _ := rfl
  map h := h.congr rfl fun _ => rfl
  ahead h := h


/-- A change of the hold-cause set (R152). -/
theorem State.holdsChanged_within (s : State) (h : HoldSet) : s.Within [.lcu, .map, .spc, .bnd, .lsv, .lnk] (s.holdsChanged h) := by
  have put := (s.putHolds_touches h).mono (cs := [.lcu, .map, .spc, .bnd, .lsv, .lnk]) (by simp)
  have change (new : LineState) : s.Touches [.lcu, .map, .spc, .bnd, .lsv, .lnk] (State.changeLine { s with lsv := { s.lsv with holds := h } } new) :=
    put.trans (State.changeLine_touches _ new)
  unfold State.holdsChanged
  dsimp only
  split
  · next hl =>
    split
    · next he =>
      exact
        { toTouches := put.step (State.raiseLine_within ..) (by simp)
          line := fun i => (State.raiseLine_within ..).line
            { i with running := fun _ => he, holding := fun e => (by rw [hl] at e; cases e) } }
    · next he =>
      exact
        { toTouches := change _
          line := fun i => State.changeLine_lineOk _ _ (fun e => by cases e) (fun _ => by simpa using he) fun _ =>
            i.started (by rw [hl]; rfl) }
  · next hl =>
    split
    · next he =>
      exact
        { toTouches := change _
          line := fun i => State.changeLine_lineOk _ _ (fun _ => he) (fun e => by cases e) fun _ => i.started (by rw [hl]; rfl) }
    · next he =>
      exact
        { toTouches := put.step (State.raiseLine_within ..) (by simp)
          line := fun i => (State.raiseLine_within ..).line
            { i with running := fun e => (by rw [hl] at e; cases e), holding := fun _ => by simpa using he } }
  all_goals
    next hl =>
    exact
      { toTouches := put
        line := fun i => { i with running := fun e => (by rw [hl] at e; cases e), holding := fun e => (by rw [hl] at e; cases e) } }


theorem State.addHold_within (s : State) (c : HoldCause) : s.Within [.lcu, .map, .spc, .bnd, .lsv, .lnk] (s.addHold c) := by
  unfold State.addHold
  repeat' first
    | with_reducible apply State.Within.refl
    | (with_reducible apply State.Within.ite) <;> intro _
    | with_reducible apply State.Within.step ?_ (State.holdsChanged_within ..) (by simp)

theorem State.removeHold_within (s : State) (c : HoldCause) : s.Within [.lcu, .map, .spc, .bnd, .lsv, .lnk] (s.removeHold c) := by
  unfold State.removeHold
  repeat' first
    | with_reducible apply State.Within.refl
    | (with_reducible apply State.Within.ite) <;> intro _
    | with_reducible apply State.Within.step ?_ (State.holdsChanged_within ..) (by simp)

theorem State.setRecord_within (s : State) (r : StopRecord) : s.Within [.lsv] (s.setRecord r) where
  same b hb := by cases b <;> first | rfl | simp at hb
  link := rfl
  expiries _ := rfl
  reply _ := Iff.rfl
  held := rfl
  fresh := rfl
  pending := rfl
  flag := rfl
  thread := rfl
  lcu := rfl
  levels _ := rfl
  line h := h.congr rfl rfl rfl rfl rfl rfl rfl
  map h := h.congr rfl fun _ => rfl
  ahead h := h


/-- A stop cause taken (R153). -/
theorem State.stopCause_within (s : State) (c : StopCause) (d : Option Subject) : s.Within [.lcu, .map, .spc, .bnd, .lsv, .lnk] (s.stopCause c d) := by
  unfold State.stopCause
  dsimp only
  split <;> repeat' first
    | with_reducible apply State.Within.refl
    | with_reducible apply State.Within.step ?_ (State.setRecord_within ..) (by simp)
    | with_reducible apply State.Within.step ?_ (State.raiseLine_within ..) (by simp)
    | with_reducible apply State.Within.step ?_ (State.changeLine_within _ _ (by decide)) (by simp)
    | with_reducible apply State.Within.step ?_ (State.changeLine_within _ _ (by split <;> decide)) (by simp)
    | split


end Sys2Proof.Machine
end

