-- ==== Sys2Proof/Laws/WithinDry.lean ====
section
/-! SUPPORT. What the drive stage's, the dry end controller's and the order book's own operations can do. -/

namespace Sys2Proof.Machine

theorem State.ownerReport_within (s : State) (w : Owner) (isFault : Bool) : s.Within [.map, .bnd, .lsv] (s.ownerReport w isFault) := by
  unfold State.ownerReport
  repeat' first
    | with_reducible apply State.Within.refl
    | extract_lets 
    | with_reducible apply State.Within.step ?_ (State.glueReport_within ..) (by simp)
    | with_reducible apply State.Within.step ?_ (State.zoneReport_within ..) (by simp)
    | split

theorem State.sendReports_within (s old : State) : s.Within [.map, .bnd, .lsv] (s.sendReports old) := by
  unfold State.sendReports
  exact .foldl _ (fun _ _ => State.ownerReport_within ..) _ _


theorem State.raiseDrive_within (s : State) (o : OutputId) (k : DriveFaultKind) : s.Within [] (s.raiseDrive o k) := by
  unfold State.raiseDrive
  repeat' first
    | with_reducible apply State.Within.refl
    | with_reducible apply State.Within.step ?_ (State.raise_within ..) (by simp)

theorem State.raiseStage_within (s : State) (c : StageCondition) : s.Within [] (s.raiseStage c) := by
  unfold State.raiseStage
  repeat' first
    | with_reducible apply State.Within.refl
    | with_reducible apply State.Within.step ?_ (State.raise_within ..) (by simp)

theorem State.lineAction_within (s : State) (i : InputId) : s.Within [.lcu, .map, .spc, .bnd, .lsv, .lnk] (s.lineAction i) := by
  unfold State.lineAction
  repeat' first
    | with_reducible apply State.Within.refl
    | extract_lets 
    | with_reducible apply State.Within.step ?_ (State.addHold_within ..) (by simp)
    | with_reducible apply State.Within.step ?_ (State.stopCause_within ..) (by simp)
    | split

theorem State.latchInput_within (s : State) (i : InputId) : s.Within [.lcu, .map, .spc, .bnd, .dst, .lsv, .lnk] (s.latchInput i) := by
  unfold State.latchInput
  extract_lets s1 s2
  repeat' first
    | with_reducible apply State.Within.refl
    | with_reducible apply State.Within.step ?_ (State.lineAction_within ..) (by simp)
    | with_reducible apply State.Within.step ?_ (State.onInput_within ..) (by simp)
    | with_reducible apply State.Within.step ?_ (State.raise_within ..) (by simp)
    | with_reducible apply State.Within.step ?_ (State.sendReports_within ..) (by simp)

theorem State.judgeInput_within (s : State) (i : InputId) : s.Within [.lcu, .map, .spc, .bnd, .dst, .lsv, .lnk] (s.judgeInput i) := by
  unfold State.judgeInput
  repeat' first
    | with_reducible apply State.Within.refl
    | (with_reducible apply State.Within.ite) <;> intro _
    | with_reducible apply State.Within.step ?_ (State.latchInput_within ..) (by simp)

theorem State.evalKnife_within (s : State) : s.Within [.lsv] (s.evalKnife) := by
  unfold State.evalKnife
  repeat' first
    | with_reducible apply State.Within.refl
    | with_reducible apply State.Within.step ?_ (State.setEntry_within ..) (by simp)

theorem State.evalLaneClaim_within (s : State) (j : LaneId) : s.Within [.dec, .lsv] (s.evalLaneClaim j) := by
  unfold State.evalLaneClaim
  repeat' first
    | with_reducible apply State.Within.refl
    | with_reducible apply State.Within.step ?_ (State.evalKnife_within ..) (by simp)
    | with_reducible apply State.Within.step ?_ (State.onLane_within ..) (by simp)

theorem State.endMarkMoved_within (s : State) : s.Within [.dec, .lsv] (s.endMarkMoved) := by
  unfold State.endMarkMoved
  repeat' first
    | with_reducible apply State.Within.refl
    | (with_reducible apply State.Within.ite) <;> intro _
    | with_reducible apply State.Within.step ?_ (State.evalLaneClaim_within ..) (by simp)
    | with_reducible apply State.Within.trans ?_ (State.forAll_within fun _ _ => ?_)

theorem State.reportSetup_within (s : State) (i : SlitId) (c : SetupCond) : s.Within [.obk] (s.reportSetup i c) := by
  unfold State.reportSetup
  repeat' first
    | with_reducible apply State.Within.refl
    | extract_lets 
    | with_reducible apply State.Within.step ?_ (State.onOrder_within ..) (by simp)
    | split

theorem State.startPositioning_within (s : State) (i : SlitId) (g : Setup) : s.Within [.obk, .dec] (s.startPositioning i g) := by
  unfold State.startPositioning
  repeat' first
    | with_reducible apply State.Within.refl
    | with_reducible apply State.Within.step ?_ (State.onSlit_within ..) (by simp)
    | with_reducible apply State.Within.step ?_ (State.reportSetup_within ..) (by simp)

theorem State.cancelStation_within (s : State) (i : SlitId) : s.Within [.dec] (s.cancelStation i) := by
  unfold State.cancelStation
  repeat' first
    | with_reducible apply State.Within.refl
    | extract_lets 
    | with_reducible apply State.Within.step ?_ (State.onSlit_within ..) (by simp)
    | split

theorem State.engageStation_within (s : State) (i : SlitId) : s.Within [.dec] (s.engageStation i) := by
  unfold State.engageStation
  repeat' first
    | with_reducible apply State.Within.refl
    | with_reducible apply State.Within.step ?_ (State.onSlit_within ..) (by simp)

theorem State.swapStations_within (s : State) (i : SlitId) : s.Within [.dec] (s.swapStations i) := by
  unfold State.swapStations
  repeat' first
    | with_reducible apply State.Within.refl
    | with_reducible apply State.Within.step ?_ (State.onSlit_within ..) (by simp)
    | with_reducible apply State.Within.trans ?_ (State.forAll_within fun _ _ => ?_)

theorem State.handLane_within (s : State) (o : Order) (j : LaneId) : s.Within [.dec] (s.handLane o j) := by
  unfold State.handLane
  repeat' first
    | with_reducible apply State.Within.refl
    | extract_lets 
    | with_reducible apply State.Within.step ?_ (State.onLane_within ..) (by simp)
    | split

theorem State.handCuts_within (s : State) (o : Order) : s.Within [.dec] (s.handCuts o) := by
  unfold State.handCuts
  repeat' first
    | with_reducible apply State.Within.refl
    | with_reducible apply State.Within.step ?_ (State.handLane_within ..) (by simp)

theorem State.nameGrades_within (s : State) : s.Within [.lsv] (s.nameGrades) := by
  unfold State.nameGrades
  repeat' first
    | with_reducible apply State.Within.refl
    | extract_lets 
    | with_reducible apply State.Within.step ?_ (State.setEntry_within ..) (by simp)
    | split

theorem State.setEndStatus_within (s : State) (e : EndStatus) : s.Within [.obk] (s.setEndStatus e) := by
  unfold State.setEndStatus
  repeat' first
    | with_reducible apply State.Within.refl
    | with_reducible apply State.Within.step ?_ (State.obk_within ..) (by simp)

theorem State.insertEndMark_within (s : State) (o : Order) (incoming : Option Nat) :
    s.Within [.map, .obk] (s.insertEndMark o incoming) := by
  have h := (s.insertMark_within { start := o.endPos, finish := some (o.endPos + s.zc), body := .orderChange o.tag incoming false }
    fun e he => by
      simp only [Option.some.injEq] at he
      show o.endPos ≤ e
      omega).mono (cs := [.map, .obk]) (by simp)
  unfold State.insertEndMark
  dsimp only
  split
  · exact h.step (State.obk_within ..) (by simp)
  · exact h.step (State.obk_within ..) (by simp)


theorem State.moveEnd_within (s : State) (o : Order) (e : Nat) : s.Within [.map, .obk, .dec, .lsv] (s.moveEnd o e) := by
  unfold State.moveEnd
  extract_lets s1
  repeat' first
    | with_reducible apply State.Within.refl
    | (with_reducible apply State.Within.ite) <;> intro _
    | with_reducible apply State.Within.step ?_ (State.endMarkMoved_within ..) (by simp)
    | with_reducible apply State.Within.step ?_ (State.moveMark_within ..) (by simp)
    | with_reducible apply State.Within.step ?_ (State.onOrder_within ..) (by simp)

theorem State.setEndIncoming_within (s : State) (t : Option Nat) : s.Within [.map, .obk] (s.setEndIncoming t) := by
  unfold State.setEndIncoming
  repeat' first
    | with_reducible apply State.Within.refl
    | extract_lets 
    | with_reducible apply State.Within.step ?_ (State.setIncoming_within ..) (by simp)
    | split
    | with_reducible apply State.Within.step ?_ (State.obk_within ..) (by simp)

theorem State.retryPending_within (s : State) : s.Within [.map, .obk] (s.retryPending) := by
  unfold State.retryPending
  repeat' first
    | with_reducible apply State.Within.refl
    | extract_lets e
    | (with_reducible apply State.Within.ite) <;> intro _
    | with_reducible apply State.Within.step ?_ (State.insertEndMark_within ..) (by simp)
    | with_reducible apply State.Within.step ?_ (State.onOrder_within ..) (by simp)
    | split

theorem State.applyStaging_within (s : State) : s.Within [.map, .obk, .dec] (s.applyStaging) := by
  unfold State.applyStaging
  repeat' first
    | with_reducible apply State.Within.refl
    | extract_lets s1 s2
    | with_reducible apply State.Within.step ?_ (State.onOrder_within ..) (by simp)
    | with_reducible apply State.Within.step ?_ (State.raise_within ..) (by simp)
    | with_reducible apply State.Within.step ?_ (State.setEndIncoming_within ..) (by simp)
    | with_reducible apply State.Within.step ?_ (State.startPositioning_within ..) (by simp)
    | split

theorem State.lockEnd_within (s : State) (o t : Order) : s.Within [.lcu, .map, .obk, .spc, .bnd, .lsv, .lnk] (s.lockEnd o t) := by
  unfold State.lockEnd
  extract_lets s1 s2
  repeat' first
    | with_reducible apply State.Within.refl
    | with_reducible apply State.Within.step ?_ (State.lockMark_within ..) (by simp)
    | with_reducible apply State.Within.step ?_ (State.nameGrades_within ..) (by simp)
    | with_reducible apply State.Within.step ?_ (State.raise_within ..) (by simp)
    | with_reducible apply State.Within.step ?_ (State.removeHold_within ..) (by simp)
    | with_reducible apply State.Within.step ?_ (State.setEndStatus_within ..) (by simp)
    | with_reducible apply State.Within.step ?_ (State.setEntry_within ..) (by simp)
    | with_reducible apply State.Within.step ?_ (State.obk_within ..) (by simp)

theorem State.deferEnd_within (s : State) (o : Order) : s.Within [.lcu, .map, .obk, .spc, .bnd, .dec, .lsv, .lnk] (s.deferEnd o) := by
  unfold State.deferEnd
  extract_lets e d s1 s2 s3
  repeat' first
    | with_reducible apply State.Within.refl
    | (with_reducible apply State.Within.ite) <;> intro _
    | with_reducible apply State.Within.step ?_ (State.addHold_within ..) (by simp)
    | with_reducible apply State.Within.step ?_ (State.moveEnd_within ..) (by simp)
    | with_reducible apply State.Within.step ?_ (State.onOrder_within ..) (by simp)
    | with_reducible apply State.Within.step ?_ (State.raise_within ..) (by simp)
    | with_reducible apply State.Within.step ?_ (State.setEntry_within ..) (by simp)
    | with_reducible apply State.Within.step ?_ (State.obk_within ..) (by simp)

theorem State.lockLoop_within : ∀ (n : Nat) (s : State),
    s.Within [.lcu, .map, .obk, .spc, .bnd, .dec, .lsv, .lnk] (State.lockLoop n s)
  | 0, s => .refl s
  | n + 1, s => by
    unfold State.lockLoop
    repeat' first
      | with_reducible apply State.Within.refl
      | with_reducible apply State.Within.step ?_ (State.lockEnd_within ..) (by simp)
      | with_reducible apply State.Within.step ?_ (State.lockLoop_within n _) (by simp)
      | with_reducible apply State.Within.step ?_ (State.deferEnd_within ..) (by simp)
      | split


theorem State.lockTest_within (s : State) : s.Within [.lcu, .map, .obk, .spc, .bnd, .dec, .lsv, .lnk] (s.lockTest) := by
  unfold State.lockTest
  repeat' first
    | with_reducible apply State.Within.refl
    | with_reducible apply State.Within.step ?_ (State.lockLoop_within ..) (by simp)

theorem State.doneTest_within (s : State) (tag : Nat) : s.Within [.obk] (s.doneTest tag) := by
  unfold State.doneTest
  repeat' first
    | with_reducible apply State.Within.refl
    | extract_lets d s1 s2
    | (with_reducible apply State.Within.ite) <;> intro _
    | with_reducible apply State.Within.step ?_ (State.raise_within ..) (by simp)
    | split
    | with_reducible apply State.Within.step ?_ (State.obk_within ..) (by simp)

theorem State.completionReport_within (s : State) (tag : Nat) (j : LaneId) : s.Within [.obk] (s.completionReport tag j) := by
  unfold State.completionReport
  repeat' first
    | with_reducible apply State.Within.refl
    | with_reducible apply State.Within.step ?_ (State.doneTest_within ..) (by simp)
    | with_reducible apply State.Within.step ?_ (State.onRun_within ..) (by simp)

theorem State.startOrder_within (s : State) (o : Order) (start : Nat) : s.Within [.map, .obk, .dec, .lsv] (s.startOrder o start) := by
  unfold State.startOrder
  extract_lets r s1
  repeat' first
    | with_reducible apply State.Within.refl
    | with_reducible apply State.Within.step ?_ (State.applyStaging_within ..) (by simp)
    | with_reducible apply State.Within.step ?_ (State.handCuts_within ..) (by simp)
    | with_reducible apply State.Within.step ?_ (State.insertEndMark_within ..) (by simp)
    | with_reducible apply State.Within.step ?_ (State.nameGrades_within ..) (by simp)
    | with_reducible apply State.Within.step ?_ (State.onOrder_within ..) (by simp)
    | with_reducible apply State.Within.step ?_ (State.raise_within ..) (by simp)

theorem State.swapTest_within (s : State) : s.Within [.map, .obk, .dec, .lsv] (s.swapTest) := by
  unfold State.swapTest
  repeat' first
    | with_reducible apply State.Within.refl
    | extract_lets s1 s2
    | (with_reducible apply State.Within.ite) <;> intro _
    | with_reducible apply State.Within.step ?_ (State.doneTest_within ..) (by simp)
    | with_reducible apply State.Within.step ?_ (State.onOrder_within ..) (by simp)
    | with_reducible apply State.Within.step ?_ (State.startOrder_within ..) (by simp)
    | with_reducible apply State.Within.step ?_ (State.swapStations_within ..) (by simp)
    | split
    | dsimp only [s2]
    | dsimp only [s1]

theorem State.beginLane_within (s : State) (o : Order) (start : Nat) (j : LaneId) : s.Within [.dec, .lsv] (s.beginLane o start j) := by
  unfold State.beginLane
  extract_lets c s1 base
  repeat' first
    | with_reducible apply State.Within.refl
    | with_reducible apply State.Within.step ?_ (State.evalLaneClaim_within ..) (by simp)
    | with_reducible apply State.Within.step ?_ (State.onLane_within ..) (by simp)

theorem State.firstStart_within (s : State) : s.Within [.map, .obk, .dec, .lsv] (s.firstStart) := by
  unfold State.firstStart
  repeat' first
    | with_reducible apply State.Within.refl
    | extract_lets start s1 s2
    | with_reducible apply State.Within.step ?_ (State.beginLane_within ..) (by simp)
    | with_reducible apply State.Within.step ?_ (State.engageStation_within ..) (by simp)
    | with_reducible apply State.Within.step ?_ (State.startOrder_within ..) (by simp)
    | split
    | dsimp only [s2]
    | dsimp only [s1]
    | dsimp only [start]

theorem State.makeupRequest_within (s : State) (tag : Nat) (j : LaneId) : s.Within [.map, .obk, .dec, .lsv] (s.makeupRequest tag j) := by
  unfold State.makeupRequest
  repeat' first
    | with_reducible apply State.Within.refl
    | extract_lets r s1
    | (with_reducible apply State.Within.ite) <;> intro _
    | with_reducible apply State.Within.step ?_ (State.handLane_within ..) (by simp)
    | with_reducible apply State.Within.step ?_ (State.moveEnd_within ..) (by simp)
    | with_reducible apply State.Within.step ?_ (State.onOrder_within ..) (by simp)
    | with_reducible apply State.Within.step ?_ (State.onRun_within ..) (by simp)
    | split
    | with_reducible apply State.Within.step ?_ (State.obk_within ..) (by simp)

end Sys2Proof.Machine
end

