-- ==== Sys2Proof/Laws/WithinStack.lean ====
section
/-! SUPPORT. What the stacker unit's and the cut-off lanes' own operations can do. -/

namespace Sys2Proof.Machine

theorem State.evalStacker_within (s : State) : s.Within [.lsv] (s.evalStacker) := by
  unfold State.evalStacker
  repeat' first
    | with_reducible apply State.Within.refl
    | with_reducible apply State.Within.step ?_ (State.setEntry_within ..) (by simp)

theorem State.enterEjecting_within (s : State) (j : StackerId) : s.Within [.stk] (s.enterEjecting j) := by
  unfold State.enterEjecting
  repeat' first
    | with_reducible apply State.Within.refl
    | with_reducible apply State.Within.step ?_ (State.onStacker_within ..) (by simp)

theorem State.enterOffered_within (s : State) (j : StackerId) : s.Within [.stk] (s.enterOffered j) := by
  unfold State.enterOffered
  extract_lets s1
  repeat' first
    | with_reducible apply State.Within.refl
    | (with_reducible apply State.Within.ite) <;> intro _
    | with_reducible apply State.Within.step ?_ (State.enterEjecting_within ..) (by simp)
    | with_reducible apply State.Within.step ?_ (State.onStacker_within ..) (by simp)

theorem State.offerStep_within (s : State) (j : StackerId) (isPartial : Bool) : s.Within [.stk] (s.offerStep j isPartial) := by
  unfold State.offerStep
  extract_lets s1
  repeat' first
    | with_reducible apply State.Within.refl
    | (with_reducible apply State.Within.ite) <;> intro _
    | with_reducible apply State.Within.step ?_ (State.enterOffered_within ..) (by simp)
    | with_reducible apply State.Within.step ?_ (State.onStacker_within ..) (by simp)

theorem State.completionTest_within (s : State) (tag : Nat) (j : LaneId) : s.Within [.obk] (s.completionTest tag j) := by
  unfold State.completionTest
  repeat' first
    | with_reducible apply State.Within.refl
    | extract_lets 
    | (with_reducible apply State.Within.ite) <;> intro _
    | with_reducible apply State.Within.step ?_ (State.completionReport_within ..) (by simp)
    | with_reducible apply State.Within.step ?_ (State.onTally_within ..) (by simp)
    | split

theorem State.drainTest_within (s : State) (tag : Nat) (j : LaneId) : s.Within [.obk, .stk] (s.drainTest tag j) := by
  unfold State.drainTest
  repeat' first
    | with_reducible apply State.Within.refl
    | extract_lets s1 s2
    | (with_reducible apply State.Within.ite) <;> intro _
    | with_reducible apply State.Within.step ?_ (State.completionTest_within ..) (by simp)
    | with_reducible apply State.Within.step ?_ (State.offerStep_within ..) (by simp)
    | with_reducible apply State.Within.step ?_ (State.onTally_within ..) (by simp)
    | split

theorem State.laneEndReport_within (s : State) (tag : Nat) (j : LaneId) : s.Within [.obk, .stk] (s.laneEndReport tag j) := by
  unfold State.laneEndReport
  repeat' first
    | with_reducible apply State.Within.refl
    | with_reducible apply State.Within.step ?_ (State.drainTest_within ..) (by simp)
    | with_reducible apply State.Within.step ?_ (State.onTally_within ..) (by simp)

theorem State.raiseStacker_within (s : State) (j : StackerId) (r : StackerFaultReason) (tag : Option Nat) : s.Within [] (s.raiseStacker j r tag) := by
  unfold State.raiseStacker
  repeat' first
    | with_reducible apply State.Within.refl
    | with_reducible apply State.Within.step ?_ (State.raise_within ..) (by simp)

theorem State.countStacked_within (s : State) (tag : Nat) (j : StackerId) : s.Within [.obk] (s.countStacked tag j) := by
  unfold State.countStacked
  repeat' first
    | with_reducible apply State.Within.refl
    | with_reducible apply State.Within.step ?_ (State.onTally_within ..) (by simp)

theorem State.holdLayer_within (s : State) (tag : Nat) (j : StackerId) : s.Within [.stk, .lsv] (s.holdLayer tag j) := by
  unfold State.holdLayer
  repeat' first
    | with_reducible apply State.Within.refl
    | with_reducible apply State.Within.step ?_ (State.evalStacker_within ..) (by simp)
    | with_reducible apply State.Within.step ?_ (State.onStacker_within ..) (by simp)

theorem State.loseLayer_within (s : State) (tag : Nat) (j : StackerId) : s.Within [.lcu, .map, .obk, .spc, .bnd, .lsv, .lnk] (s.loseLayer tag j) := by
  unfold State.loseLayer
  extract_lets s1 s2
  repeat' first
    | with_reducible apply State.Within.refl
    | with_reducible apply State.Within.step ?_ (State.completionTest_within ..) (by simp)
    | with_reducible apply State.Within.step ?_ (State.onTally_within ..) (by simp)
    | with_reducible apply State.Within.step ?_ (State.raiseStacker_within ..) (by simp)
    | with_reducible apply State.Within.step ?_ (State.stopCause_within ..) (by simp)

theorem State.stackLayer_within (s : State) (tag count : Nat) (j : StackerId) : s.Within [.obk, .stk] (s.stackLayer tag count j) := by
  unfold State.stackLayer
  extract_lets s1
  repeat' first
    | with_reducible apply State.Within.refl
    | (with_reducible apply State.Within.ite) <;> intro _
    | with_reducible apply State.Within.step ?_ (State.countStacked_within ..) (by simp)
    | with_reducible apply State.Within.step ?_ (State.offerStep_within ..) (by simp)
    | with_reducible apply State.Within.step ?_ (State.onStacker_within ..) (by simp)

theorem State.takeLayer_within (s : State) (tag : Nat) (j : StackerId) : s.Within [.lcu, .map, .obk, .spc, .bnd, .stk, .lsv, .lnk] (s.takeLayer tag j) := by
  unfold State.takeLayer
  extract_lets t
  repeat' first
    | with_reducible apply State.Within.refl
    | (with_reducible apply State.Within.ite) <;> intro _
    | with_reducible apply State.Within.step ?_ (State.countStacked_within ..) (by simp)
    | with_reducible apply State.Within.step ?_ (State.holdLayer_within ..) (by simp)
    | with_reducible apply State.Within.step ?_ (State.loseLayer_within ..) (by simp)
    | with_reducible apply State.Within.step ?_ (State.offerStep_within ..) (by simp)
    | with_reducible apply State.Within.step ?_ (State.stackLayer_within ..) (by simp)
    | split

theorem State.refillStack_within (s : State) (j : StackerId) : s.Within [.stk] (s.refillStack j) := by
  unfold State.refillStack
  repeat' first
    | with_reducible apply State.Within.refl
    | extract_lets held run n s1 drained
    | (with_reducible apply State.Within.ite) <;> intro _
    | with_reducible apply State.Within.step ?_ (State.offerStep_within ..) (by simp)
    | with_reducible apply State.Within.step ?_ (State.onStacker_within ..) (by simp)
    | split

theorem State.completeEject_within (s : State) (j : StackerId) : s.Within [.lcu, .obk, .stk, .lsv] (s.completeEject j) := by
  unfold State.completeEject
  extract_lets t eye s1 s2 number mismatch s3 s4 s5
  repeat' first
    | with_reducible apply State.Within.refl
    | (with_reducible apply State.Within.ite) <;> intro _
    | with_reducible apply State.Within.step ?_ (State.completionTest_within ..) (by simp)
    | with_reducible apply State.Within.step ?_ (State.evalStacker_within ..) (by simp)
    | with_reducible apply State.Within.step ?_ (State.onEye_within ..) (by simp)
    | with_reducible apply State.Within.step ?_ (State.onStacker_within ..) (by simp)
    | with_reducible apply State.Within.step ?_ (State.onTally_within ..) (by simp)
    | with_reducible apply State.Within.step ?_ (State.raise_within ..) (by simp)
    | with_reducible apply State.Within.step ?_ (State.refillStack_within ..) (by simp)
    | split

theorem State.setGateHead_within (s : State) (j : LaneId) : s.Within [.stk] (s.setGateHead j) := by
  unfold State.setGateHead
  repeat' first
    | with_reducible apply State.Within.refl
    | extract_lets 
    | with_reducible apply State.Within.step ?_ (State.setGate_within ..) (by simp)
    | split

theorem State.leaveQueue_within (s : State) (tag : Nat) (j : LaneId) : s.Within [.obk] (s.leaveQueue tag j) := by
  unfold State.leaveQueue
  repeat' first
    | with_reducible apply State.Within.refl
    | with_reducible apply State.Within.step ?_ (State.onTally_within ..) (by simp)

theorem State.divert_within (s : State) (p : Piece) (j : LaneId) : s.Within [.obk, .stk] (s.divert p j) := by
  unfold State.divert
  repeat' first
    | with_reducible apply State.Within.refl
    | (with_reducible apply State.Within.ite) <;> intro _
    | with_reducible apply State.Within.step ?_ (State.drainTest_within ..) (by simp)
    | with_reducible apply State.Within.step ?_ (State.leaveQueue_within ..) (by simp)
    | with_reducible apply State.Within.step ?_ (State.onTally_within ..) (by simp)
    | with_reducible apply State.Within.step ?_ (State.stk_within ..) (by simp)

theorem State.judgeGate_within (j : LaneId) : ∀ (n : Nat) (s : State), s.Within [.obk, .dec, .stk] (State.judgeGate j n s)
  | 0, s => .refl s
  | n + 1, s => by
    unfold State.judgeGate
    repeat' first
      | with_reducible apply State.Within.refl
      | (with_reducible apply State.Within.ite) <;> intro _
      | with_reducible apply State.Within.step ?_ (State.judgeGate_within j n _) (by simp)
      | with_reducible apply State.Within.step ?_ (State.divert_within ..) (by simp)
      | with_reducible apply State.Within.step ?_ (State.setGateHead_within ..) (by simp)
      | with_reducible apply State.Within.step ?_ (State.onQueue_within ..) (by simp)
      | split
      | dsimp only


theorem State.deliver_within (j : LaneId) : ∀ (n : Nat) (s : State),
    s.Within [.lcu, .map, .obk, .spc, .bnd, .dec, .stk, .lsv, .lnk] (State.deliver j n s)
  | 0, s => .refl s
  | n + 1, s => by
    unfold State.deliver
    repeat' first
      | with_reducible apply State.Within.refl
      | (with_reducible apply State.Within.ite) <;> intro _
      | with_reducible apply State.Within.step ?_ (State.deliver_within j n _) (by simp)
      | with_reducible apply State.Within.step ?_ (State.drainTest_within ..) (by simp)
      | with_reducible apply State.Within.step ?_ (State.takeLayer_within ..) (by simp)
      | with_reducible apply State.Within.step ?_ (State.leaveQueue_within ..) (by simp)
      | with_reducible apply State.Within.step ?_ (State.onQueue_within ..) (by simp)
      | split
      | dsimp only


theorem State.stackAdvance_within (s : State) : s.Within [.lcu, .map, .obk, .spc, .bnd, .dec, .stk, .lsv, .lnk] (s.stackAdvance) := by
  unfold State.stackAdvance
  extract_lets s1
  repeat' first
    | with_reducible apply State.Within.refl
    | with_reducible apply State.Within.step ?_ (State.deliver_within ..) (by simp)
    | with_reducible apply State.Within.step ?_ (State.judgeGate_within ..) (by simp)
    | with_reducible apply State.Within.trans ?_ (State.forAll_within fun _ _ => ?_)

theorem State.appendPiece_within (s : State) (p : Piece) (j : LaneId) : s.Within [.obk, .dec, .stk] (s.appendPiece p j) := by
  unfold State.appendPiece
  extract_lets s1
  repeat' first
    | with_reducible apply State.Within.refl
    | (with_reducible apply State.Within.ite) <;> intro _
    | with_reducible apply State.Within.step ?_ (State.onQueue_within ..) (by simp)
    | with_reducible apply State.Within.step ?_ (State.onTally_within ..) (by simp)
    | with_reducible apply State.Within.step ?_ (State.setGateHead_within ..) (by simp)

theorem State.closePiece_within (s : State) (j : LaneId) (n : Nat) (kind : CutKind) : s.Within [.map, .obk, .dec, .stk, .lsv] (s.closePiece j n kind) := by
  unfold State.closePiece
  extract_lets l c s1 s2
  repeat' first
    | with_reducible apply State.Within.refl
    | (with_reducible apply State.Within.ite) <;> intro _
    | with_reducible apply State.Within.step ?_ (State.appendPiece_within ..) (by simp)
    | with_reducible apply State.Within.step ?_ (State.makeupRequest_within ..) (by simp)
    | with_reducible apply State.Within.step ?_ (State.onLane_within ..) (by simp)
    | split

theorem State.enterChange_within (s : State) (j : LaneId) (c : NextCut) (b : Nat) : s.Within [.obk, .dec, .stk] (s.enterChange j c b) := by
  unfold State.enterChange
  split
  · dsimp only
    repeat' first
      | with_reducible apply State.Within.refl
      | (with_reducible apply State.Within.ite) <;> intro _
      | with_reducible apply State.Within.step ?_ (State.laneEndReport_within ..) (by simp)
      | with_reducible apply State.Within.step ?_ (State.onLane_within ..) (by simp)
      | split
  · exact .refl s


theorem State.leaveZone_within (s : State) (j : LaneId) (b : Nat) : s.Within [.dec] (s.leaveZone j b) := by
  unfold State.leaveZone
  extract_lets l
  repeat' first
    | with_reducible apply State.Within.refl
    | (with_reducible apply State.Within.ite) <;> intro _
    | with_reducible apply State.Within.step ?_ (State.onLane_within ..) (by simp)
    | split

theorem State.modeChanges_within (s : State) (j : LaneId) (c : NextCut) : s.Within [.obk, .dec, .stk, .lsv] (s.modeChanges j c) := by
  unfold State.modeChanges
  repeat' first
    | with_reducible apply State.Within.refl
    | with_reducible apply State.Within.step ?_ (State.enterChange_within ..) (by simp)
    | with_reducible apply State.Within.step ?_ (State.evalLaneClaim_within ..) (by simp)
    | with_reducible apply State.Within.step ?_ (State.leaveZone_within ..) (by simp)

theorem State.fireKnife_within (s : State) (j : LaneId) (c : NextCut) : s.Within [.map, .obk, .dec, .stk, .lsv] (s.fireKnife j c) := by
  unfold State.fireKnife
  extract_lets s1 s2
  repeat' first
    | with_reducible apply State.Within.refl
    | with_reducible apply State.Within.step ?_ (State.closePiece_within ..) (by simp)
    | with_reducible apply State.Within.step ?_ (State.modeChanges_within ..) (by simp)
    | with_reducible apply State.Within.step ?_ (State.onLane_within ..) (by simp)

theorem State.skipCut_within (s : State) (j : LaneId) (c : NextCut) : s.Within [.lcu, .map, .obk, .spc, .bnd, .dec, .stk, .lsv, .lnk] (s.skipCut j c) := by
  unfold State.skipCut
  extract_lets s1 s2 s3
  repeat' first
    | with_reducible apply State.Within.refl
    | (with_reducible apply State.Within.ite) <;> intro _
    | with_reducible apply State.Within.step ?_ (State.modeChanges_within ..) (by simp)
    | with_reducible apply State.Within.step ?_ (State.onLane_within ..) (by simp)
    | with_reducible apply State.Within.step ?_ (State.raise_within ..) (by simp)
    | with_reducible apply State.Within.step ?_ (State.stopCause_within ..) (by simp)

theorem State.resumeLane_within (s : State) (j : LaneId) (r : Nat) : s.Within [.dec, .lsv] (s.resumeLane j r) := by
  unfold State.resumeLane
  repeat' first
    | with_reducible apply State.Within.refl
    | extract_lets a
    | (with_reducible apply State.Within.ite) <;> intro _
    | with_reducible apply State.Within.step ?_ (State.evalLaneClaim_within ..) (by simp)
    | with_reducible apply State.Within.step ?_ (State.onLane_within ..) (by simp)
    | split

theorem State.laneAdvance_within (s : State) (j : LaneId) : s.Within [.lcu, .map, .obk, .spc, .bnd, .dec, .stk, .lsv, .lnk] (s.laneAdvance j) := by
  unfold State.laneAdvance
  repeat' first
    | with_reducible apply State.Within.refl
    | extract_lets 
    | (with_reducible apply State.Within.ite) <;> intro _
    | with_reducible apply State.Within.step ?_ (State.fireKnife_within ..) (by simp)
    | with_reducible apply State.Within.step ?_ (State.resumeLane_within ..) (by simp)
    | with_reducible apply State.Within.step ?_ (State.skipCut_within ..) (by simp)
    | split

theorem State.dryEndAdvance_within (s : State) : s.Within [.lcu, .map, .obk, .spc, .bnd, .dec, .stk, .lsv, .lnk] (s.dryEndAdvance) := by
  unfold State.dryEndAdvance
  repeat' first
    | with_reducible apply State.Within.refl
    | with_reducible apply State.Within.step ?_ (State.laneAdvance_within ..) (by simp)

end Sys2Proof.Machine
end

