-- ==== Sys2Proof/Laws/WithinAdvance.lean ====
section
/-! SUPPORT. What the splice stations' tests and a position advance can do. -/

namespace Sys2Proof.Machine

theorem State.reelOutTest_within (s : State) (i : SpliceId) : s.Within [.lcu, .map, .spc, .bnd, .lsv, .lnk] (s.reelOutTest i) := by
  unfold State.reelOutTest
  repeat' first
    | with_reducible apply State.Within.refl
    | extract_lets s1
    | (with_reducible apply State.Within.ite) <;> intro _
    | with_reducible apply State.Within.step ?_ (State.onSplice_within ..) (by simp)
    | with_reducible apply State.Within.step ?_ (State.raise_within ..) (by simp)
    | with_reducible apply State.Within.step ?_ (State.stopCause_within ..) (by simp)
    | split

theorem State.reelLowTest_within (s : State) (i : SpliceId) : s.Within [.spc] (s.reelLowTest i) := by
  unfold State.reelLowTest
  repeat' first
    | with_reducible apply State.Within.refl
    | extract_lets 
    | (with_reducible apply State.Within.ite) <;> intro _
    | with_reducible apply State.Within.step ?_ (State.onSplice_within ..) (by simp)
    | with_reducible apply State.Within.step ?_ (State.raise_within ..) (by simp)
    | split

theorem State.entryTests_within (s : State) (i : SpliceId) : s.Within [.lcu, .map, .spc, .bnd, .lsv, .lnk] (s.entryTests i) := by
  unfold State.entryTests
  repeat' first
    | with_reducible apply State.Within.refl
    | with_reducible apply State.Within.step ?_ (State.reelLowTest_within ..) (by simp)
    | with_reducible apply State.Within.step ?_ (State.reelOutTest_within ..) (by simp)

theorem State.handJoint_within (s : State) (i : SpliceId) (r : JointRecord) : s.Within [.map] (s.handJoint i r) := by
  unfold State.handJoint
  repeat' first
    | with_reducible apply State.Within.refl
    | with_reducible apply State.Within.step ?_ (State.placeJoint_within ..) (by simp)

theorem State.windowEnds_within (s : State) (i : SpliceId) : s.Within [.lcu, .map, .spc, .bnd, .lsv, .lnk] (s.windowEnds i) := by
  unfold State.windowEnds
  extract_lets r s1
  repeat' first
    | with_reducible apply State.Within.refl
    | with_reducible apply State.Within.step ?_ (State.addHold_within ..) (by simp)
    | with_reducible apply State.Within.step ?_ (State.disarmChannel_within ..) (by simp)
    | with_reducible apply State.Within.step ?_ (State.enterSplice_within ..) (by simp)
    | with_reducible apply State.Within.step ?_ (State.handJoint_within ..) (by simp)
    | with_reducible apply State.Within.step ?_ (State.raise_within ..) (by simp)

theorem State.windowTest_within (s : State) (i : SpliceId) : s.Within [.lcu, .map, .spc, .bnd, .lsv, .lnk] (s.windowTest i) := by
  unfold State.windowTest
  repeat' first
    | with_reducible apply State.Within.refl
    | extract_lets 
    | (with_reducible apply State.Within.ite) <;> intro _
    | with_reducible apply State.Within.step ?_ (State.windowEnds_within ..) (by simp)
    | split

theorem State.takePaper_within (s : State) (i : SpliceId) (d : Nat) : s.Within [.spc] (s.takePaper i d) := by
  unfold State.takePaper
  repeat' first
    | with_reducible apply State.Within.refl
    | with_reducible apply State.Within.step ?_ (State.onSplice_within ..) (by simp)

theorem State.spliceAdvance_within (s : State) (i : SpliceId) (d : Nat) : s.Within [.lcu, .map, .spc, .bnd, .lsv, .lnk] (s.spliceAdvance i d) := by
  unfold State.spliceAdvance
  repeat' first
    | with_reducible apply State.Within.refl
    | (with_reducible apply State.Within.ite) <;> intro _
    | with_reducible apply State.Within.step ?_ (State.armTest_within ..) (by simp)
    | with_reducible apply State.Within.step ?_ (State.fireTest_within ..) (by simp)
    | with_reducible apply State.Within.step ?_ (State.reelLowTest_within ..) (by simp)
    | with_reducible apply State.Within.step ?_ (State.reelOutTest_within ..) (by simp)
    | with_reducible apply State.Within.step ?_ (State.takePaper_within ..) (by simp)
    | with_reducible apply State.Within.step ?_ (State.windowTest_within ..) (by simp)

theorem State.swapArms_within (s : State) (i : SpliceId) (c : Nat) : s.Within [.spc] (s.swapArms i c) := by
  unfold State.swapArms
  extract_lets ran
  repeat' first
    | with_reducible apply State.Within.refl
    | with_reducible apply State.Within.step ?_ (State.onSplice_within ..) (by simp)

theorem State.writeSplice_within (s : State) (i : SpliceId) (r : LastSplice) : s.Within [.spc] (s.writeSplice i r) := by
  unfold State.writeSplice
  repeat' first
    | with_reducible apply State.Within.refl
    | with_reducible apply State.Within.step ?_ (State.onSplice_within ..) (by simp)

theorem State.raiseSpliceDone_within (s : State) (i : SpliceId) (r : LastSplice) (j : JointRecord) : s.Within [] (s.raiseSpliceDone i r j) := by
  unfold State.raiseSpliceDone
  repeat' first
    | with_reducible apply State.Within.refl
    | with_reducible apply State.Within.step ?_ (State.raise_within ..) (by simp)

theorem State.confirmSplice_within (s : State) (i : SpliceId) (c : Nat) : s.Within [.lcu, .map, .spc, .bnd, .lsv, .lnk] (s.confirmSplice i c) := by
  unfold State.confirmSplice
  extract_lets j r s1
  repeat' first
    | with_reducible apply State.Within.refl
    | (with_reducible apply State.Within.ite) <;> intro _
    | with_reducible apply State.Within.step ?_ (State.enterSplice_within ..) (by simp)
    | with_reducible apply State.Within.step ?_ (State.entryTests_within ..) (by simp)
    | with_reducible apply State.Within.step ?_ (State.handJoint_within ..) (by simp)
    | with_reducible apply State.Within.step ?_ (State.onSplice_within ..) (by simp)
    | with_reducible apply State.Within.step ?_ (State.raiseSpliceDone_within ..) (by simp)
    | with_reducible apply State.Within.step ?_ (State.swapArms_within ..) (by simp)
    | with_reducible apply State.Within.step ?_ (State.writeSplice_within ..) (by simp)

theorem State.raiseBlocked_within (s : State) (i : SpliceId) (r : BlockedReason) : s.Within [] (s.raiseBlocked i r) := by
  unfold State.raiseBlocked
  repeat' first
    | with_reducible apply State.Within.refl
    | with_reducible apply State.Within.step ?_ (State.raise_within ..) (by simp)

theorem State.matchLimit_within (s : State) (i : SpliceId) : s.Within [.lcu, .map, .spc, .bnd, .lsv, .lnk] (s.matchLimit i) := by
  unfold State.matchLimit
  extract_lets r s1
  repeat' first
    | with_reducible apply State.Within.refl
    | with_reducible apply State.Within.step ?_ (State.enterSplice_within ..) (by simp)
    | with_reducible apply State.Within.step ?_ (State.entryTests_within ..) (by simp)
    | with_reducible apply State.Within.step ?_ (State.onSplice_within ..) (by simp)
    | with_reducible apply State.Within.step ?_ (State.raiseBlocked_within ..) (by simp)
    | with_reducible apply State.Within.step ?_ (State.writeSplice_within ..) (by simp)

theorem State.takeMatch_within (s : State) (i : SpliceId) : s.Within [.lcu, .map, .spc, .bnd, .lsv, .lnk] (s.takeMatch i) := by
  unfold State.takeMatch
  repeat' first
    | with_reducible apply State.Within.refl
    | (with_reducible apply State.Within.ite) <;> intro _
    | with_reducible apply State.Within.step ?_ (State.enterMatched_within ..) (by simp)
    | with_reducible apply State.Within.step ?_ (State.entryTests_within ..) (by simp)

theorem State.settleSuspect_within (s : State) : s.Within [.lcu, .map, .spc, .bnd, .lsv, .lnk] (s.settleSuspect) := by
  unfold State.settleSuspect
  repeat' first
    | with_reducible apply State.Within.refl
    | (with_reducible apply State.Within.ite) <;> intro _
    | with_reducible apply State.Within.step ?_ (State.removeHold_within ..) (by simp)

theorem State.verdictTook_within (s : State) (i : SpliceId) : s.Within [.lcu, .map, .spc, .bnd, .lsv, .lnk] (s.verdictTook i) := by
  unfold State.verdictTook
  extract_lets j r s1
  repeat' first
    | with_reducible apply State.Within.refl
    | with_reducible apply State.Within.step ?_ (State.enterSplice_within ..) (by simp)
    | with_reducible apply State.Within.step ?_ (State.entryTests_within ..) (by simp)
    | with_reducible apply State.Within.step ?_ (State.onSplice_within ..) (by simp)
    | with_reducible apply State.Within.step ?_ (State.raiseSpliceDone_within ..) (by simp)
    | with_reducible apply State.Within.step ?_ (State.settleSuspect_within ..) (by simp)
    | with_reducible apply State.Within.step ?_ (State.swapArms_within ..) (by simp)
    | with_reducible apply State.Within.step ?_ (State.writeSplice_within ..) (by simp)

theorem State.verdictFailed_within (s : State) (i : SpliceId) : s.Within [.lcu, .map, .spc, .bnd, .lsv, .lnk] (s.verdictFailed i) := by
  unfold State.verdictFailed
  extract_lets j r s1
  repeat' first
    | with_reducible apply State.Within.refl
    | with_reducible apply State.Within.step ?_ (State.enterSplice_within ..) (by simp)
    | with_reducible apply State.Within.step ?_ (State.entryTests_within ..) (by simp)
    | with_reducible apply State.Within.step ?_ (State.onSplice_within ..) (by simp)
    | with_reducible apply State.Within.step ?_ (State.raiseBlocked_within ..) (by simp)
    | with_reducible apply State.Within.step ?_ (State.settleSuspect_within ..) (by simp)
    | with_reducible apply State.Within.step ?_ (State.writeSplice_within ..) (by simp)

theorem State.counterFault_kept (s : State) (i : CounterId) (k : FaultKind) : s.Kept (s.counterFault i k) := by
  unfold State.counterFault
  repeat' first
    | with_reducible apply State.Kept.refl
    | (with_reducible apply State.Kept.ite) <;> intro _
    | with_reducible apply State.Kept.step ?_ (State.addHold_within ..)
    | with_reducible apply State.Kept.trans ?_ (State.onCounter_kept ..)
    | with_reducible apply State.Kept.step ?_ (State.raise_within ..)
    | with_reducible apply State.Kept.step ?_ (State.stopCause_within ..)


theorem State.removeMarks_within : ∀ (n : Nat) (s : State), s.Within [.map, .obk] (State.removeMarks n s)
  | 0, s => .refl s
  | n + 1, s => by
    unfold State.removeMarks
    split
    · next m rest h =>
      obtain ⟨-, hl, hs, -⟩ := takeFirst_spec h
      have w := (s.setMarks_within rest fun i => ⟨by have := i.marks; omega, i.sorted.sublist hs, fun x hx => i.ends x (hs.subset hx)⟩).mono
        (cs := [.map, .obk]) (by simp)
      exact (w.step (State.retryPending_within _) (by simp)).trans (State.removeMarks_within n _)
    · exact .refl s


theorem State.consumeBridge_kept (s : State) (d : Nat) (k : WebId) : s.Kept (s.consumeBridge d k) := by
  unfold State.consumeBridge
  dsimp only
  repeat' first
    | with_reducible apply State.Kept.refl
    | (with_reducible apply State.Kept.ite) <;> intro _
    | with_reducible apply State.Kept.step ?_ (State.stopCause_within ..)
    | with_reducible apply State.Kept.trans ?_ (State.setContent_kept ..)
    | exact s.onBridge_kept k _ fun _ => rfl


theorem State.transferWeb_within (s : State) (k : WebId) : s.Within [.map] (s.transferWeb k) := by
  unfold State.transferWeb
  repeat' first
    | with_reducible apply State.Within.refl
    | (with_reducible apply State.Within.ite) <;> intro _
    | with_reducible apply State.Within.step ?_ (State.transferDue_within ..) (by simp)

/-- Work done at every index that keeps what a body keeps. -/
theorem State.forAll_kept {s : State} {n : Nat} {f : State → Fin n → State} (hf : ∀ (t : State) (i : Fin n), t.Kept (f t i)) :
    s.Kept (s.forAll n f) := by
  unfold State.forAll
  generalize allIds n = l
  induction l generalizing s with
  | nil => exact .refl s
  | cons i l ih => exact (hf s i).trans ih

theorem State.mapAdvance_kept (s : State) (d : Nat) : s.Kept (s.mapAdvance d) :=
  ((s.removeMarks_within _).kept.trans (State.forAll_kept fun t k => t.consumeBridge_kept d k)).step
    (State.forAll_within (bs := [.map]) fun t k => t.transferWeb_within k)


theorem State.lineAdvance_kept (s : State) (d : Nat) : s.Kept (s.lineAdvance d) := by
  unfold State.lineAdvance
  repeat' first
    | with_reducible apply State.Kept.refl
    | with_reducible apply State.Kept.step ?_ (State.bondLineAdvance_within ..)
    | with_reducible apply State.Kept.step ?_ (State.dryEndAdvance_within ..)
    | with_reducible apply State.Kept.step ?_ (State.lockTest_within ..)
    | with_reducible apply State.Kept.trans ?_ (State.mapAdvance_kept ..)
    | with_reducible apply State.Kept.trans ?_ (State.onCounter_kept ..)
    | with_reducible apply State.Kept.step ?_ (State.spliceAdvance_within ..)
    | with_reducible apply State.Kept.step ?_ (State.stackAdvance_within ..)
    | with_reducible apply State.Kept.step ?_ (State.swapTest_within ..)


theorem State.webAdvance_kept (s : State) (k : WebId) (d : Nat) : s.Kept (s.webAdvance k d) :=
  ((((s.onCounter_kept _ _).trans (State.setContent_kept _ _ _)).step (State.spliceAdvance_within ..)).step
    (State.spliceAdvance_within ..)).step (State.bondWebAdvance_within ..)


theorem State.deliverAdvance_kept (s : State) (i : CounterId) (d : Nat) : s.Kept (s.deliverAdvance i d) := by
  unfold State.deliverAdvance
  split
  · exact s.lineAdvance_kept d
  · exact s.webAdvance_kept _ d


theorem State.forwardCount_kept (s : State) (i : CounterId) : s.Kept (s.forwardCount i) := by
  unfold State.forwardCount
  repeat' first
    | with_reducible apply State.Kept.refl
    | (with_reducible apply State.Kept.ite) <;> intro _
    | with_reducible apply State.Kept.trans ?_ (State.counterFault_kept ..)
    | with_reducible apply State.Kept.trans ?_ (State.deliverAdvance_kept ..)
    | with_reducible apply State.Kept.trans ?_ (State.onCounter_kept ..)


theorem State.reverseCount_kept (s : State) (i : CounterId) : s.Kept (s.reverseCount i) := by
  unfold State.reverseCount
  repeat' first
    | with_reducible apply State.Kept.refl
    | (with_reducible apply State.Kept.ite) <;> intro _
    | with_reducible apply State.Kept.trans ?_ (State.counterFault_kept ..)
    | with_reducible apply State.Kept.trans ?_ (State.onCounter_kept ..)


theorem State.illegalCount_kept (s : State) (i : CounterId) : s.Kept (s.illegalCount i) := by
  unfold State.illegalCount
  repeat' first
    | with_reducible apply State.Kept.refl
    | (with_reducible apply State.Kept.ite) <;> intro _
    | with_reducible apply State.Kept.trans ?_ (State.counterFault_kept ..)
    | with_reducible apply State.Kept.trans ?_ (State.onCounter_kept ..)


theorem State.takeTransition_kept (s : State) (i : CounterId) (old new : Phase) : s.Kept (s.takeTransition i old new) := by
  unfold State.takeTransition
  repeat' first
    | with_reducible apply State.Kept.refl
    | (with_reducible apply State.Kept.ite) <;> intro _
    | with_reducible apply State.Kept.trans ?_ (State.forwardCount_kept ..)
    | with_reducible apply State.Kept.trans ?_ (State.illegalCount_kept ..)
    | with_reducible apply State.Kept.trans ?_ (State.reverseCount_kept ..)
    | split


end Sys2Proof.Machine
end

