-- ==== Sys2Proof/Laws/Kept.lean ====
section
/-! SUPPORT. What a command's body keeps: the queues, the RESET terminal, and the invariants of the line state and of the web map. -/

namespace Sys2Proof.Machine


theorem State.rebuildGlue_within (s old : State) (k : GlueId) : s.Within [.map, .bnd] (old.rebuildGlue s k) := by
  unfold State.rebuildGlue
  repeat' first
    | with_reducible apply State.Within.refl
    | (with_reducible apply State.Within.ite) <;> intro _
    | with_reducible apply State.Within.step ?_ (State.glueTakenOut_within ..) (by simp)
    | with_reducible apply State.Within.step ?_ (State.glueTakesUp_within ..) (by simp)

theorem State.recoverGlue_within (s : State) (k : GlueId) : s.Within [.map, .bnd] (s.recoverGlue k) := by
  unfold State.recoverGlue
  repeat' first
    | with_reducible apply State.Within.refl
    | extract_lets s1 s2
    | (with_reducible apply State.Within.ite) <;> intro _
    | with_reducible apply State.Within.step ?_ (State.judgeGap_within ..) (by simp)
    | with_reducible apply State.Within.step ?_ (State.onGlue_within ..) (by simp)
    | with_reducible apply State.Within.step ?_ (State.setGlueState_within ..) (by simp)
    | split

theorem State.raiseSupply_within (s : State) : s.Within [] (s.raiseSupply) := by
  unfold State.raiseSupply
  repeat' first
    | with_reducible apply State.Within.refl
    | extract_lets 
    | with_reducible apply State.Within.step ?_ (State.raiseStage_within ..) (by simp)
    | split

theorem State.flagOpen_within (s : State) (o : OutputId) (k : DriveFaultKind) : s.Within [.map, .bnd, .dst, .lsv] (s.flagOpen o k) := by
  unfold State.flagOpen
  extract_lets s1
  repeat' first
    | with_reducible apply State.Within.refl
    | with_reducible apply State.Within.step ?_ (State.onOutput_within ..) (by simp)
    | with_reducible apply State.Within.step ?_ (State.raiseDrive_within ..) (by simp)
    | with_reducible apply State.Within.step ?_ (State.sendReports_within ..) (by simp)

theorem State.tripOutput_within (s : State) (o : OutputId) : s.Within [.map, .bnd, .dst, .lsv] (s.tripOutput o) := by
  unfold State.tripOutput
  extract_lets s1
  repeat' first
    | with_reducible apply State.Within.refl
    | (with_reducible apply State.Within.ite) <;> intro _
    | with_reducible apply State.Within.step ?_ (State.onOutput_within ..) (by simp)
    | with_reducible apply State.Within.step ?_ (State.raiseDrive_within ..) (by simp)
    | with_reducible apply State.Within.step ?_ (State.sendReports_within ..) (by simp)

theorem State.inputChanged_within (s : State) (i : InputId) : s.Within [.lcu, .map, .spc, .bnd, .dst, .lsv, .lnk] (s.inputChanged i) := by
  unfold State.inputChanged
  repeat' first
    | with_reducible apply State.Within.refl
    | (with_reducible apply State.Within.ite) <;> intro _
    | with_reducible apply State.Within.step ?_ (State.latchInput_within ..) (by simp)
    | with_reducible apply State.Within.step ?_ (State.onInput_within ..) (by simp)

theorem State.clearLatches_within (s : State) : s.Within [.dst] (s.clearLatches) := by
  unfold State.clearLatches
  repeat' first
    | with_reducible apply State.Within.refl
    | with_reducible apply State.Within.step ?_ (State.dst_within ..) (by simp)

theorem State.restartMark_within (s : State) : s.Within [.map] s.restartMark := by
  unfold State.restartMark
  split
  · exact s.insertMark_within _ fun e h => by
      simp only [Option.some.injEq] at h
      show s.linePos - _ ≤ e
      omega
  · exact .refl s

theorem State.loadRunning_within (s : State) (i : SpliceId) (arm : Arm) (r : Reel) : s.Within [.spc] (s.loadRunning i arm r) := by
  unfold State.loadRunning
  repeat' first
    | with_reducible apply State.Within.refl
    | with_reducible apply State.Within.step ?_ (State.onSplice_within ..) (by simp)
    | with_reducible apply State.Within.step ?_ (State.raise_within ..) (by simp)

theorem State.loadStandby_within (s : State) (i : SpliceId) (r : Reel) : s.Within [.lcu, .map, .spc, .bnd, .lsv, .lnk] (s.loadStandby i r) := by
  unfold State.loadStandby
  extract_lets s1 s2
  repeat' first
    | with_reducible apply State.Within.refl
    | (with_reducible apply State.Within.ite) <;> intro _
    | with_reducible apply State.Within.step ?_ (State.armTest_within ..) (by simp)
    | with_reducible apply State.Within.step ?_ (State.enterSplice_within ..) (by simp)
    | with_reducible apply State.Within.step ?_ (State.entryTests_within ..) (by simp)
    | with_reducible apply State.Within.step ?_ (State.onSplice_within ..) (by simp)

theorem State.force_within (s : State) (i : SpliceId) : s.Within [.lcu, .spc, .lsv] (s.force i) := by
  unfold State.force
  repeat' first
    | with_reducible apply State.Within.refl
    | (with_reducible apply State.Within.ite) <;> intro _
    | with_reducible apply State.Within.step ?_ (State.enterMatching_within ..) (by simp)
    | with_reducible apply State.Within.step ?_ (State.fire_within ..) (by simp)

theorem State.reachPosition_within (s : State) (i : SlitId) : s.Within [.obk, .dec] (s.reachPosition i) := by
  unfold State.reachPosition
  repeat' first
    | with_reducible apply State.Within.refl
    | (with_reducible apply State.Within.ite) <;> intro _
    | with_reducible apply State.Within.step ?_ (State.onSlit_within ..) (by simp)
    | with_reducible apply State.Within.step ?_ (State.reportSetup_within ..) (by simp)

theorem State.losePosition_within (s : State) (i : SlitId) : s.Within [] (s.losePosition i) := by
  unfold State.losePosition
  repeat' first
    | with_reducible apply State.Within.refl
    | extract_lets 
    | with_reducible apply State.Within.step ?_ (State.raise_within ..) (by simp)
    | split

theorem State.positioningLimit_within (s : State) (i : SlitId) : s.Within [.obk, .dec] (s.positioningLimit i) := by
  unfold State.positioningLimit
  extract_lets tag s1
  repeat' first
    | with_reducible apply State.Within.refl
    | with_reducible apply State.Within.step ?_ (State.onSlit_within ..) (by simp)
    | with_reducible apply State.Within.step ?_ (State.raise_within ..) (by simp)
    | with_reducible apply State.Within.step ?_ (State.reportSetup_within ..) (by simp)

theorem State.ejectLimit_within (s : State) (j : StackerId) : s.Within [.lcu, .map, .spc, .bnd, .stk, .lsv, .lnk] (s.ejectLimit j) := by
  unfold State.ejectLimit
  extract_lets s1
  repeat' first
    | with_reducible apply State.Within.refl
    | with_reducible apply State.Within.step ?_ (State.onStacker_within ..) (by simp)
    | with_reducible apply State.Within.step ?_ (State.raiseStacker_within ..) (by simp)
    | with_reducible apply State.Within.step ?_ (State.stopCause_within ..) (by simp)

theorem State.takeRecords_within (s : State) (j : StackerId) (count : Nat) : s.Within [.stk] (s.takeRecords j count) := by
  unfold State.takeRecords
  extract_lets s1
  repeat' first
    | with_reducible apply State.Within.refl
    | (with_reducible apply State.Within.ite) <;> intro _
    | with_reducible apply State.Within.step ?_ (State.enterOffered_within ..) (by simp)
    | with_reducible apply State.Within.step ?_ (State.onStacker_within ..) (by simp)

theorem State.takeLimits_within (s : State) (margin step maximum crawl : Nat) : s.Within [.lcu, .map, .obk, .spc, .bnd, .lsv, .lnk] (s.takeLimits margin step maximum crawl) := by
  unfold State.takeLimits
  extract_lets s1 s2
  repeat' first
    | with_reducible apply State.Within.refl
    | (with_reducible apply State.Within.ite) <;> intro _
    | with_reducible apply State.Within.step ?_ (State.addHold_within ..) (by simp)
    | with_reducible apply State.Within.step ?_ (State.removeHold_within ..) (by simp)
    | with_reducible apply State.Within.step ?_ (State.setEntry_within ..) (by simp)
    | split
    | with_reducible apply State.Within.step ?_ (State.obk_within ..) (by simp)

theorem State.enterOrder_within (s : State) (o : Order) : s.Within [.map, .obk, .dec] (s.enterOrder o) := by
  unfold State.enterOrder
  repeat' first
    | with_reducible apply State.Within.refl
    | with_reducible apply State.Within.step ?_ (State.applyStaging_within ..) (by simp)
    | with_reducible apply State.Within.step ?_ (State.obk_within ..) (by simp)

theorem State.cancelStaged_within (s : State) (o : Order) : s.Within [.map, .obk, .dec] (s.cancelStaged o) := by
  unfold State.cancelStaged
  extract_lets s1
  repeat' first
    | with_reducible apply State.Within.refl
    | with_reducible apply State.Within.step ?_ (State.applyStaging_within ..) (by simp)
    | with_reducible apply State.Within.step ?_ (State.cancelStation_within ..) (by simp)
    | with_reducible apply State.Within.step ?_ (State.dropOrder_within ..) (by simp)
    | with_reducible apply State.Within.step ?_ (State.setEndIncoming_within ..) (by simp)
    | split
    | dsimp only [s1]

theorem State.putEnable_within (s : State) (n : ZoneId) (enable : Bool) : s.Within [.map, .bnd, .lsv] (s.putEnable n enable) := by
  unfold State.putEnable
  repeat' first
    | with_reducible apply State.Within.refl
    | (with_reducible apply State.Within.ite) <;> intro _
    | with_reducible apply State.Within.step ?_ (State.enterZone_within ..) (by simp)
    | with_reducible apply State.Within.step ?_ (State.onZone_within ..) (by simp)

theorem State.takeGlue_within (s : State) (k : GlueId) (c : GlueSettings) : s.Within [.map, .bnd, .lsv] (s.takeGlue k c) := by
  unfold State.takeGlue
  extract_lets s1
  repeat' first
    | with_reducible apply State.Within.refl
    | (with_reducible apply State.Within.ite) <;> intro _
    | with_reducible apply State.Within.step ?_ (State.glueTakesUp_within ..) (by simp)
    | with_reducible apply State.Within.step ?_ (State.onGlue_within ..) (by simp)
    | with_reducible apply State.Within.step ?_ (State.sendReports_within ..) (by simp)

theorem State.disarmUnused_within (s : State) : s.Within [.lcu] (s.disarmUnused) := by
  unfold State.disarmUnused
  repeat' first
    | with_reducible apply State.Within.refl
    | (with_reducible apply State.Within.ite) <;> intro _
    | with_reducible apply State.Within.step ?_ (State.disarmChannel_within ..) (by simp)
    | with_reducible apply State.Within.trans ?_ (State.forAll_within fun _ _ => ?_)

theorem State.jointEdge_within (s : State) (i : SpliceId) : s.Within [.lcu, .map, .spc, .bnd, .lsv, .lnk] (s.jointEdge i) := by
  unfold State.jointEdge
  extract_lets c
  repeat' first
    | with_reducible apply State.Within.refl
    | (with_reducible apply State.Within.ite) <;> intro _
    | with_reducible apply State.Within.step ?_ (State.confirmSplice_within ..) (by simp)
    | with_reducible apply State.Within.step ?_ (State.onJoint_within ..) (by simp)

theorem State.rejudgeGlue_within (s : State) (k : GlueId) : s.Within [.map, .bnd] (s.rejudgeGlue k) := by
  unfold State.rejudgeGlue
  repeat' first
    | with_reducible apply State.Within.refl
    | extract_lets 
    | (with_reducible apply State.Within.ite) <;> intro _
    | with_reducible apply State.Within.step ?_ (State.glueFault_within ..) (by simp)
    | with_reducible apply State.Within.step ?_ (State.onGlue_within ..) (by simp)
    | split

theorem State.reportKept_within (s : State) (o : OutputId) : s.Within [.map, .bnd, .lsv] (s.reportKept o) := by
  unfold State.reportKept
  repeat' first
    | with_reducible apply State.Within.refl
    | extract_lets 
    | (with_reducible apply State.Within.ite) <;> intro _
    | with_reducible apply State.Within.step ?_ (State.ownerReport_within ..) (by simp)
    | split

theorem State.clearRecords_within (s : State) : s.Within [.lcu, .map, .spc, .bnd, .dst, .lsv, .lnk] (s.clearRecords) := by
  unfold State.clearRecords
  extract_lets s1
  repeat' first
    | with_reducible apply State.Within.refl
    | (with_reducible apply State.Within.ite) <;> intro _
    | with_reducible apply State.Within.step ?_ (State.removeHold_within ..) (by simp)
    | with_reducible apply State.Within.step ?_ (State.dst_within ..) (by simp)

theorem State.setScale_kept (s : State) (counter scale : Nat) : s.Kept (s.setScale counter scale).1 := by
  unfold State.setScale
  repeat' first
    | with_reducible apply State.Kept.refl
    | with_reducible apply State.Kept.trans ?_ (State.onCounter_kept ..)
    | split
    | dsimp only [State.refuse]

theorem State.setGeometry_kept (s : State) (g : Geometry) : s.Kept (s.setGeometry g).1 := by
  unfold State.setGeometry
  repeat' first
    | with_reducible apply State.Kept.refl
    | split
    | dsimp only [State.refuse]
    | with_reducible apply State.Kept.trans ?_ (State.lcu_kept ..)

theorem State.setLineBuild_kept (s : State) (walls width : Nat) : s.Kept (s.setLineBuild walls width).1 := by
  unfold State.setLineBuild
  split
  · exact .refl s
  · split
    · exact .refl s
    · dsimp only
      exact ((((s.lcu_kept _).step (State.forAll_within (bs := [.map, .bnd]) fun t k => t.rebuildGlue_within s k)).step
        (State.disarmUnused_within _)).step (State.evalBridgeEntry_within _)).step (State.sendReports_within ..)

theorem State.setSheetEyes_kept (s : State) (edge1 edge2 : Nat) : s.Kept (s.setSheetEyes edge1 edge2).1 := by
  unfold State.setSheetEyes
  repeat' first
    | with_reducible apply State.Kept.refl
    | with_reducible apply State.Kept.step ?_ (State.onEye_within ..)
    | split
    | dsimp only [State.refuse]

theorem State.setBridge_kept (s : State) (web slow high crawl : Nat) : s.Kept (s.setBridge web slow high crawl).1 := by
  unfold State.setBridge
  repeat' first
    | with_reducible apply State.Kept.refl
    | split
    | dsimp only [State.refuse]
    | with_reducible apply State.Kept.step ?_ (State.evalBridgeEntry_within ..)
    | exact s.onBridge_kept _ _ fun _ => rfl

theorem State.thread_kept (s : State) (k : WebId) (v : Nat) : s.Kept (s.thread k v).1 := by
  have h := ((s.onBridge_kept k (fun b => { b with content := v, shortfall := 0 }) fun _ => rfl).step (State.transferDue_within _ k)).step
    (State.evalBridgeEntry_within _)
  unfold State.thread
  dsimp only
  split
  · exact h.step (State.raise_within ..)
  · exact h

theorem State.threadBridge_kept (s : State) (web content : Nat) : s.Kept (s.threadBridge web content).1 := by
  unfold State.threadBridge
  repeat' first
    | with_reducible apply State.Kept.refl
    | with_reducible apply State.Kept.trans ?_ (State.thread_kept ..)
    | split
    | dsimp only [State.refuse]

theorem State.addHostMark_kept (s : State) (start finish reason : Nat) : s.Kept (s.addHostMark start finish reason).1 := by
  unfold State.addHostMark
  split
  · exact .refl s
  · split
    · exact .refl s
    · split
      · exact .refl s
      · split
        · exact .refl s
        · exact (s.insertMark_within { start := start, finish := some finish, body := .hostMark reason } fun e h => by
            simp only [Option.some.injEq] at h
            show start ≤ e
            omega).kept

theorem State.resumeSorting_kept (s : State) : s.Kept s.resumeSorting.1 := by
  unfold State.resumeSorting
  repeat' first
    | with_reducible apply State.Kept.refl
    | split
    | dsimp only [State.refuse]
  all_goals exact (s.map_within { s.map with ra := none, changeCount := (s.map.changeCount + 1) % 65536 } rfl rfl).kept

theorem State.setChangeLimits_kept (s : State) (margin step maximum crawl : Nat) : s.Kept (s.setChangeLimits margin step maximum crawl).1 := by
  unfold State.setChangeLimits
  repeat' first
    | with_reducible apply State.Kept.refl
    | with_reducible apply State.Kept.step ?_ (State.takeLimits_within ..)
    | split
    | dsimp only [State.refuse]

theorem State.admitOrder_kept (s : State) (o : OrderSpec) (a : LaneSpec) (b : Option LaneSpec) : s.Kept (s.admitOrder o a b).1 := by
  unfold State.admitOrder
  repeat' first
    | with_reducible apply State.Kept.refl
    | with_reducible apply State.Kept.step ?_ (State.enterOrder_within ..)
    | split
    | dsimp only [State.refuse]

theorem State.addOrder_kept (s : State) (o : OrderSpec) : s.Kept (s.addOrder o).1 := by
  unfold State.addOrder
  repeat' first
    | with_reducible apply State.Kept.refl
    | with_reducible apply State.Kept.trans ?_ (State.admitOrder_kept ..)
    | split
    | dsimp only [State.refuse]

theorem State.amendRunning_kept (s : State) (o : Order) (j : LaneId) (target : Nat) : s.Kept (s.amendRunning o j target).1 := by
  unfold State.amendRunning
  repeat' first
    | with_reducible apply State.Kept.refl
    | with_reducible apply State.Kept.step ?_ (State.handCuts_within ..)
    | with_reducible apply State.Kept.step ?_ (State.moveEnd_within ..)
    | with_reducible apply State.Kept.step ?_ (State.onOrder_within ..)

theorem State.amendOrder_kept (s : State) (o : Order) (j : LaneId) (target : Nat) : s.Kept (s.amendOrder o j target).1 := by
  unfold State.amendOrder
  repeat' first
    | with_reducible apply State.Kept.refl
    | with_reducible apply State.Kept.trans ?_ (State.amendRunning_kept ..)
    | with_reducible apply State.Kept.step ?_ (State.onOrder_within ..)
    | split
    | dsimp only [State.refuse]

theorem State.amendTarget_kept (s : State) (order lane target : Nat) : s.Kept (s.amendTarget order lane target).1 := by
  unfold State.amendTarget
  repeat' first
    | with_reducible apply State.Kept.refl
    | with_reducible apply State.Kept.trans ?_ (State.amendOrder_kept ..)
    | split
    | dsimp only [State.refuse]

theorem State.cancelRunning_kept (s : State) (o : Order) : s.Kept (s.cancelRunning o).1 := by
  unfold State.cancelRunning
  repeat' first
    | with_reducible apply State.Kept.refl
    | with_reducible apply State.Kept.step ?_ (State.moveEnd_within ..)
    | with_reducible apply State.Kept.step ?_ (State.onOrder_within ..)

theorem State.cancelOrder_kept (s : State) (order : Nat) : s.Kept (s.cancelOrder order).1 := by
  unfold State.cancelOrder
  repeat' first
    | with_reducible apply State.Kept.refl
    | with_reducible apply State.Kept.trans ?_ (State.cancelRunning_kept ..)
    | with_reducible apply State.Kept.step ?_ (State.cancelStaged_within ..)
    | with_reducible apply State.Kept.step ?_ (State.dropOrder_within ..)
    | split
    | dsimp only [State.refuse]

theorem State.collectOrder_kept (s : State) (order : Nat) : s.Kept (s.collectOrder order).1 := by
  unfold State.collectOrder
  repeat' first
    | with_reducible apply State.Kept.refl
    | with_reducible apply State.Kept.step ?_ (State.dropOrder_within ..)
    | split
    | dsimp only [State.refuse]

theorem State.setStation_kept (s : State) (a : StationArgs) : s.Kept (s.setStation a).1 := by
  unfold State.setStation
  repeat' first
    | with_reducible apply State.Kept.refl
    | with_reducible apply State.Kept.step ?_ (State.onSplice_within ..)
    | split
    | dsimp only [State.refuse]
    | with_reducible apply State.Kept.step ?_ (State.spc_within ..)

theorem State.loadByRole_kept (s : State) (i : SpliceId) (arm : Arm) (r : Reel) : s.Kept (s.loadByRole i arm r).1 := by
  unfold State.loadByRole
  repeat' first
    | with_reducible apply State.Kept.refl
    | (with_reducible apply State.Kept.ite) <;> intro _
    | with_reducible apply State.Kept.step ?_ (State.loadRunning_within ..)
    | with_reducible apply State.Kept.step ?_ (State.loadStandby_within ..)
    | split
    | dsimp only [State.refuse]

theorem State.loadReel_kept (s : State) (station arm reel paper length : Nat) : s.Kept (s.loadReel station arm reel paper length).1 := by
  unfold State.loadReel
  repeat' first
    | with_reducible apply State.Kept.refl
    | with_reducible apply State.Kept.trans ?_ (State.loadByRole_kept ..)
    | split
    | dsimp only [State.refuse]

theorem State.unloadReel_kept (s : State) (station : Nat) : s.Kept (s.unloadReel station).1 := by
  unfold State.unloadReel
  repeat' first
    | with_reducible apply State.Kept.refl
    | with_reducible apply State.Kept.step ?_ (State.enterSplice_within ..)
    | with_reducible apply State.Kept.step ?_ (State.entryTests_within ..)
    | with_reducible apply State.Kept.step ?_ (State.onSplice_within ..)
    | split
    | dsimp only [State.refuse]

theorem State.forceSplice_kept (s : State) (station : Nat) : s.Kept (s.forceSplice station).1 := by
  unfold State.forceSplice
  repeat' first
    | with_reducible apply State.Kept.refl
    | with_reducible apply State.Kept.step ?_ (State.entryTests_within ..)
    | with_reducible apply State.Kept.step ?_ (State.force_within ..)
    | split
    | dsimp only [State.refuse]

theorem State.spliceVerdict_kept (s : State) (station verdict : Nat) : s.Kept (s.spliceVerdict station verdict).1 := by
  unfold State.spliceVerdict
  repeat' first
    | with_reducible apply State.Kept.refl
    | (with_reducible apply State.Kept.ite) <;> intro _
    | with_reducible apply State.Kept.step ?_ (State.verdictFailed_within ..)
    | with_reducible apply State.Kept.step ?_ (State.verdictTook_within ..)
    | split
    | dsimp only [State.refuse]

theorem State.readStation_kept (s : State) (station : Nat) : s.Kept (s.readStation station).1 := by
  unfold State.readStation
  repeat' first
    | with_reducible apply State.Kept.refl
    | (with_reducible apply State.Kept.ite) <;> intro _
    | with_reducible apply State.Kept.trans ?_ (State.takeFresh_kept ..)
    | split
    | dsimp only [State.refuse]

theorem State.putGrade_kept (s : State) (i : Fin 32) (g : Option Grade) : s.Kept (s.putGrade i g).1 := by
  unfold State.putGrade
  repeat' first
    | with_reducible apply State.Kept.refl
    | split
    | dsimp only [State.refuse]
    | with_reducible apply State.Kept.step ?_ (State.bnd_within ..)

theorem State.setGrade_kept (s : State) (a : GradeArgs) : s.Kept (s.setGrade a).1 := by
  unfold State.setGrade
  repeat' first
    | with_reducible apply State.Kept.refl
    | with_reducible apply State.Kept.trans ?_ (State.putGrade_kept ..)
    | split
    | dsimp only [State.refuse]

theorem State.setZone_kept (s : State) (a : ZoneArgs) : s.Kept (s.setZone a).1 := by
  unfold State.setZone
  repeat' first
    | with_reducible apply State.Kept.refl
    | with_reducible apply State.Kept.step ?_ (State.onZone_within ..)
    | with_reducible apply State.Kept.step ?_ (State.sendReports_within ..)
    | split
    | dsimp only [State.refuse]

theorem State.setZoneEnable_kept (s : State) (zone enable : Nat) : s.Kept (s.setZoneEnable zone enable).1 := by
  unfold State.setZoneEnable
  repeat' first
    | with_reducible apply State.Kept.refl
    | with_reducible apply State.Kept.step ?_ (State.putEnable_within ..)
    | split
    | dsimp only [State.refuse]

theorem State.setBondCommon_kept (s : State) (heatLead glueLead standby : Nat) : s.Kept (s.setBondCommon heatLead glueLead standby).1 := by
  unfold State.setBondCommon
  repeat' first
    | with_reducible apply State.Kept.refl
    | split
    | dsimp only [State.refuse]
    | with_reducible apply State.Kept.step ?_ (State.bnd_within ..)

theorem State.setGlue_kept (s : State) (a : GlueArgs) : s.Kept (s.setGlue a).1 := by
  unfold State.setGlue
  repeat' first
    | with_reducible apply State.Kept.refl
    | with_reducible apply State.Kept.step ?_ (State.takeGlue_within ..)
    | split
    | dsimp only [State.refuse]

theorem State.readGlue_kept (s : State) (station : Nat) : s.Kept (s.readGlue station).1 := by
  unfold State.readGlue
  repeat' first
    | with_reducible apply State.Kept.refl
    | (with_reducible apply State.Kept.ite) <;> intro _
    | with_reducible apply State.Kept.trans ?_ (State.takeFresh_kept ..)
    | split
    | dsimp only [State.refuse]

theorem State.takeOutput_kept (s : State) (o : OutputId) (m : OutputMode) (g : Option GenId) (passive : Bool) : s.Kept (s.takeOutput o m g passive).1 := by
  unfold State.takeOutput
  repeat' first
    | with_reducible apply State.Kept.refl
    | with_reducible apply State.Kept.step ?_ (State.onOutput_within ..)
    | with_reducible apply State.Kept.step ?_ (State.sendReports_within ..)

theorem State.setOutput_kept (s : State) (output mode generator passive : Nat) : s.Kept (s.setOutput output mode generator passive).1 := by
  unfold State.setOutput
  repeat' first
    | with_reducible apply State.Kept.refl
    | with_reducible apply State.Kept.trans ?_ (State.takeOutput_kept ..)
    | split
    | dsimp only [State.refuse]

theorem State.setGenerator_kept (s : State) (generator frequency : Nat) : s.Kept (s.setGenerator generator frequency).1 := by
  unfold State.setGenerator
  repeat' first
    | with_reducible apply State.Kept.refl
    | split
    | dsimp only [State.refuse]
    | with_reducible apply State.Kept.step ?_ (State.dst_within ..)

theorem State.setFaultInput_kept (s : State) (input level mask action : Nat) : s.Kept (s.setFaultInput input level mask action).1 := by
  unfold State.setFaultInput
  repeat' first
    | with_reducible apply State.Kept.refl
    | with_reducible apply State.Kept.step ?_ (State.judgeInput_within ..)
    | with_reducible apply State.Kept.step ?_ (State.onInput_within ..)
    | split
    | dsimp only [State.refuse]

theorem State.clearDriveFaults_kept (s : State) : s.Kept s.clearDriveFaults.1 := by
  have h := (s.clearLatches_within.kept.step (State.clearRecords_within _)).step (State.sendReports_within _ s)
  unfold State.clearDriveFaults
  dsimp only
  exact h.step (State.forAll_within (bs := [.map, .bnd]) fun t k => t.recoverGlue_within k)

theorem State.setCutoff_kept (s : State) (a : CutoffArgs) : s.Kept (s.setCutoff a).1 := by
  unfold State.setCutoff
  repeat' first
    | with_reducible apply State.Kept.refl
    | split
    | dsimp only [State.refuse]
    | with_reducible apply State.Kept.step ?_ (State.dec_within ..)

theorem State.retrySetup_kept (s : State) (station : Nat) : s.Kept (s.retrySetup station).1 := by
  unfold State.retrySetup
  repeat' first
    | with_reducible apply State.Kept.refl
    | with_reducible apply State.Kept.step ?_ (State.startPositioning_within ..)
    | split
    | dsimp only [State.refuse]

theorem State.readSlitter_kept (s : State) : s.Kept (s.readSlitter).1 := by
  unfold State.readSlitter
  repeat' first
    | with_reducible apply State.Kept.refl
    | (with_reducible apply State.Kept.ite) <;> intro _
    | with_reducible apply State.Kept.trans ?_ (State.takeFresh_kept ..)

theorem State.setStacker_kept (s : State) (stacker warn crawl limit tolerance : Nat) : s.Kept (s.setStacker stacker warn crawl limit tolerance).1 := by
  unfold State.setStacker
  repeat' first
    | with_reducible apply State.Kept.refl
    | with_reducible apply State.Kept.step ?_ (State.evalStacker_within ..)
    | with_reducible apply State.Kept.step ?_ (State.onStacker_within ..)
    | split
    | dsimp only [State.refuse]

theorem State.forceEject_kept (s : State) (stacker : Nat) : s.Kept (s.forceEject stacker).1 := by
  unfold State.forceEject
  repeat' first
    | with_reducible apply State.Kept.refl
    | with_reducible apply State.Kept.step ?_ (State.enterOffered_within ..)
    | with_reducible apply State.Kept.step ?_ (State.offerStep_within ..)
    | split
    | dsimp only [State.refuse]

theorem State.collectStacks_kept (s : State) (stacker count : Nat) : s.Kept (s.collectStacks stacker count).1 := by
  unfold State.collectStacks
  repeat' first
    | with_reducible apply State.Kept.refl
    | with_reducible apply State.Kept.step ?_ (State.takeRecords_within ..)
    | split
    | dsimp only [State.refuse]

theorem State.readStackers_kept (s : State) : s.Kept (s.readStackers).1 := by
  unfold State.readStackers
  repeat' first
    | with_reducible apply State.Kept.refl
    | (with_reducible apply State.Kept.ite) <;> intro _
    | with_reducible apply State.Kept.trans ?_ (State.takeFresh_kept ..)

theorem State.commit_kept (s : State) : s.Kept s.commit.1 := by
  unfold State.commit
  repeat' first
    | with_reducible apply State.Kept.refl
    | split
    | dsimp only [State.refuse]
  all_goals exact (s.changeLine_within _).kept

/-- A StartLine that passes enters RUN or HOLD by the hold-cause set, the start flag being clear (R151). -/
theorem State.start_kept (s : State) (speed : Nat) (hf : s.lsv.startFlag = false) : s.Kept (s.start speed).1 := by
  have w : ∀ b : Bool, s.Within [.map, .obk, .dec, .lsv]
      (if b = true then s.setEntry .request (some speed) else (s.setEntry .request (some speed)).firstStart).restartMark := fun b => by
    refine State.Within.step ?_ (State.restartMark_within _) (by simp)
    have h := (s.setEntry_within .request (some speed)).mono (cs := [.map, .obk, .dec, .lsv]) (by simp)
    split
    · exact h
    · exact h.step (State.firstStart_within _) (by simp)
  unfold State.start
  dsimp only
  have t := w s.runningOrder.isSome
  generalize State.restartMark _ = u at t ⊢
  have v := u.changeLine_touches (if u.lsv.holds.isEmpty = true then .run else .hold)
  exact
    { held := v.held.trans t.held
      pending := v.pending.trans t.pending
      cmdQueue := by rw [v.link, t.link]
      replyQueue := by rw [v.link, t.link]
      reply := fun f => (v.reply f).trans (t.reply f)
      line := fun _ => u.changeLine_lineOk _ (fun e => by
          by_contra hn
          rw [if_neg hn] at e
          cases e) (fun e => by
          by_contra hn
          rw [if_pos (by simpa using hn)] at e
          cases e) fun _ => t.flag.trans hf
      map := fun i => v.map (t.map i) }

theorem State.startLine_kept (s : State) (speed : Nat) : s.Kept (s.startLine speed).1 := by
  unfold State.startLine
  split
  · exact .refl s
  · split
    · exact .refl s
    · split
      · next h =>
        refine s.start_kept speed ?_
        by_contra hf
        simp [State.startItems, hf] at h
      · exact .refl s

theorem State.stopLine_kept (s : State) : s.Kept (s.stopLine).1 := by
  unfold State.stopLine
  repeat' first
    | with_reducible apply State.Kept.refl
    | with_reducible apply State.Kept.step ?_ (State.stopCause_within ..)
    | split
    | dsimp only [State.refuse]

theorem State.setSpeed_kept (s : State) (speed : Nat) : s.Kept (s.setSpeed speed).1 := by
  unfold State.setSpeed
  split
  · exact .refl s
  · exact (s.setEntry_within .request _).kept

/-- SetRamp keeps the HOLD entry at the thread speed (R159). -/
theorem State.takeRamp_kept (s : State) (accel decel thread : Nat) : s.Kept (s.takeRamp accel decel thread) := by
  have q (c : Ceiling) (hs : c.stop = s.lsv.ceiling.stop)
      (hc : s.LineOk → c.hold = s.lsv.line.holdEntry thread) :
      s.Kept { s with lsv := { s.lsv with accel := accel, decel := decel, thread := thread, ceiling := c } } :=
    { held := rfl
      pending := rfl
      cmdQueue := rfl
      replyQueue := rfl
      reply := fun _ => Iff.rfl
      line := fun i =>
        { stopEntry := hs.trans i.stopEntry
          holdEntry := hc i
          standing := i.standing
          running := i.running
          holding := i.holding
          started := i.started }
      map := fun i => i.congr rfl fun _ => rfl }
  unfold State.takeRamp
  dsimp only
  split
  · next h =>
    unfold State.setEntry State.setCeiling
    dsimp only
    split
    · exact q _ rfl fun _ => by rw [h]; rfl
    · exact (q (s.lsv.ceiling.put .hold (some thread)) rfl fun _ => by rw [h]; rfl).step (State.raise_within ..)
  · next h =>
    refine q _ rfl fun i => ?_
    rw [i.holdEntry]
    revert h
    cases s.lsv.line <;> first | (intro _; rfl) | (intro h; exact absurd rfl h)

theorem State.setRamp_kept (s : State) (accel decel thread : Nat) : s.Kept (s.setRamp accel decel thread).1 := by
  unfold State.setRamp
  split
  · exact .refl s
  · exact s.takeRamp_kept accel decel thread

theorem State.ackHalt_kept (s : State) : s.Kept s.ackHalt.1 := by
  unfold State.ackHalt
  repeat' first
    | with_reducible apply State.Kept.refl
    | split
    | dsimp only [State.refuse]
  all_goals exact (s.changeLine_within _).kept

theorem State.park_kept (s : State) : s.Kept s.park.1 := by
  unfold State.park
  repeat' first
    | with_reducible apply State.Kept.refl
    | split
    | dsimp only [State.refuse]
  all_goals exact (s.changeLine_within _).kept

theorem State.unpark_kept (s : State) : s.Kept s.unpark.1 := by
  unfold State.unpark
  repeat' first
    | with_reducible apply State.Kept.refl
    | split
    | dsimp only [State.refuse]
  all_goals exact (s.changeLine_within _).kept

theorem State.ackStart_kept (s : State) : s.Kept s.ackStart.1 where
  held := rfl
  pending := rfl
  cmdQueue := rfl
  replyQueue := rfl
  reply _ := Iff.rfl
  line i := { i with started := fun _ => rfl }
  map i := i.congr rfl fun _ => rfl

/-- The LSV's part of Restart, in a line state in which the line does not run (R161). -/
theorem State.restartLsv_kept (s : State) (h : s.lsv.line.runs = false) : s.Kept s.restartLsv := by
  have q : s.Kept { s with lsv := { s.lsv with
      holds := .empty, stopRec := none, startFlag := true, resetCause := .restart, speedRef := 0, stopped := 0 } } :=
    { held := rfl
      pending := rfl
      cmdQueue := rfl
      replyQueue := rfl
      reply := fun _ => Iff.rfl
      line := fun i =>
        { stopEntry := i.stopEntry
          holdEntry := i.holdEntry
          standing := fun _ => rfl
          running := fun _ => rfl
          holding := fun e => by
            change s.lsv.line = .hold at e
            rw [e] at h
            cases h
          started := fun e => by
            change s.lsv.line.runs = true at e
            rw [h] at e
            cases e }
      map := fun i => i.congr rfl fun _ => rfl }
  have e := q.trans (State.setEntry_within _ .request (some 0)).kept
  unfold State.restartLsv
  dsimp only
  split
  · exact e.step (State.raise_within ..)
  · exact (e.step (State.changeLine_within ..)).step (State.raise_within ..)

theorem State.restartLcu_kept (s : State) : s.Kept s.restartLcu := s.lcu_kept _

theorem State.restartMap_kept (s : State) : s.Kept s.restartMap := by
  unfold State.restartMap
  refine State.Kept.step ?_ (State.evalBridgeEntry_within _)
  exact
    { held := rfl
      pending := rfl
      cmdQueue := rfl
      replyQueue := rfl
      reply := fun _ => Iff.rfl
      line := fun i => i.congr rfl rfl rfl rfl rfl rfl rfl
      map := fun _ =>
        { marks := Nat.zero_le _
          sorted := List.Pairwise.nil
          ends := fun m hm => absurd hm (by simp [WebMap.initial])
          entries := fun k => by simp [State.bridge]
          joints := fun k => by simp [State.bridge] } }

theorem State.restartObk_kept (s : State) : s.Kept s.restartObk :=
  (((s.obk_within _).kept).step (State.setEntry_within _ .setup none)).step (State.setEntry_within _ .grade none)

theorem State.restartSpc_kept (s : State) : s.Kept s.restartSpc := (s.spc_within _).kept.step (State.setEntry_within _ .splice none)

theorem State.restartDec_kept (s : State) : s.Kept s.restartDec := (s.dec_within _).kept.step (State.setEntry_within _ .knife none)

theorem State.restartStk_kept (s : State) : s.Kept s.restartStk := (s.stk_within _).kept.step (State.setEntry_within _ .stacker none)

theorem State.restartBnd_kept (s : State) : s.Kept s.restartBnd :=
  ((s.bnd_within _).kept.step (State.setEntry_within _ .bond none)).step
    (State.forAll_within (bs := [.map, .bnd]) fun t k => t.rejudgeGlue_within k)

theorem State.restartDst_kept (s : State) : s.Kept s.restartDst := by
  unfold State.restartDst
  refine State.Kept.step ?_ (State.forAll_within (bs := [.map, .bnd, .lsv]) fun t o => t.reportKept_within o)
  split
  · exact (s.addHold_within .faultInput).kept
  · exact .refl s

theorem State.restartPart_kept (s : State) (h : s.lsv.line.runs = false) : s.Kept s.restartPart :=
  ((((((((s.restartLsv_kept h).trans (State.restartLcu_kept _)).trans (State.restartMap_kept _)).trans (State.restartObk_kept _)).trans
    (State.restartSpc_kept _)).trans (State.restartDec_kept _)).trans (State.restartStk_kept _)).trans (State.restartBnd_kept _)).trans
    (State.restartDst_kept _)

theorem State.restart_kept (s : State) : s.Kept s.restart.1 := by
  unfold State.restart
  split
  · exact .refl s
  · next h =>
    have hr : s.lsv.line.runs = false := by
      revert h
      unfold State.lineIn
      generalize s.lsv.line = l
      intro h
      cases l <;> first | rfl | exact absurd rfl h
    have k := s.restartPart_kept hr
    dsimp only
    exact k

end Sys2Proof.Machine
end

