-- ==== Sys2Proof/Laws/Commands.lean ====
section
/-! SUPPORT. The two shapes of a meaning, the transmitter, and what a host command's body keeps. -/

namespace Sys2Proof.Machine

/-! ### Shapes -/

/-- An event answers a next state: the terminals' levels alone while the part is held in reset, else the part's act and a frame begun. -/
theorem event_eq (terminals act : State → State) (s : State) :
    event terminals act s = .next (if s.held then terminals s else (act (terminals s)).beginFrame) := by
  unfold event
  split <;> rfl

/-- A host command served. -/
theorem hostCommand_serves (tag code : Nat) (cmd : State → State × List Byte) {s : State} (h : s.serves) :
    hostCommand tag code cmd s = .next ((cmd s).1.replied tag code (cmd s).2) := by
  unfold hostCommand
  rw [if_neg (by simp [h.1]), if_pos h.2]
  rfl

/-- A host command that waits: the part is held in reset or the reply queue is full. -/
theorem hostCommand_waits (tag code : Nat) (cmd : State → State × List Byte) {s : State} (h : ¬s.serves) :
    hostCommand tag code cmd s = .next s := by
  unfold hostCommand
  split
  · rfl
  · next hh =>
    split
    · next hr => exact absurd ⟨by simpa using hh, hr⟩ h
    · rfl

/-- The step takes the command at the front. -/
theorem step_cons {s : State} {c : Instr} {rest : List Instr} (h : s.pending = c :: rest) :
    step s = exec c { s with pending := rest } := by
  unfold step
  rw [h]

theorem step_nil {s : State} (h : s.pending = []) : step s = .next s := by
  unfold step
  rw [h]

/-! ### The transmitter -/

/-- Beginning a frame changes the frame being sent alone. -/
theorem State.beginFrame_eq (s : State) :
    s.beginFrame = { s with lnk := { s.lnk with sending := s.beginFrame.lnk.sending } } := by
  unfold State.beginFrame
  split
  · rfl
  · split
    · rfl
    · split <;> rfl

@[simp] theorem State.beginFrame_lcu (s : State) : s.beginFrame.lcu = s.lcu := by rw [s.beginFrame_eq]
@[simp] theorem State.beginFrame_map (s : State) : s.beginFrame.map = s.map := by rw [s.beginFrame_eq]
@[simp] theorem State.beginFrame_obk (s : State) : s.beginFrame.obk = s.obk := by rw [s.beginFrame_eq]
@[simp] theorem State.beginFrame_spc (s : State) : s.beginFrame.spc = s.spc := by rw [s.beginFrame_eq]
@[simp] theorem State.beginFrame_bnd (s : State) : s.beginFrame.bnd = s.bnd := by rw [s.beginFrame_eq]
@[simp] theorem State.beginFrame_dst (s : State) : s.beginFrame.dst = s.dst := by rw [s.beginFrame_eq]
@[simp] theorem State.beginFrame_dec (s : State) : s.beginFrame.dec = s.dec := by rw [s.beginFrame_eq]
@[simp] theorem State.beginFrame_stk (s : State) : s.beginFrame.stk = s.stk := by rw [s.beginFrame_eq]
@[simp] theorem State.beginFrame_lsv (s : State) : s.beginFrame.lsv = s.lsv := by rw [s.beginFrame_eq]
@[simp] theorem State.beginFrame_held (s : State) : s.beginFrame.held = s.held := by rw [s.beginFrame_eq]
@[simp] theorem State.beginFrame_fresh (s : State) : s.beginFrame.fresh = s.fresh := by rw [s.beginFrame_eq]
@[simp] theorem State.beginFrame_pending (s : State) : s.beginFrame.pending = s.pending := by rw [s.beginFrame_eq]
@[simp] theorem State.beginFrame_cmdQueue (s : State) : s.beginFrame.lnk.cmdQueue = s.lnk.cmdQueue := by rw [s.beginFrame_eq]
@[simp] theorem State.beginFrame_replyQueue (s : State) : s.beginFrame.lnk.replyQueue = s.lnk.replyQueue := by rw [s.beginFrame_eq]
@[simp] theorem State.beginFrame_notices (s : State) : s.beginFrame.lnk.notices = s.lnk.notices := by rw [s.beginFrame_eq]

theorem State.beginFrame_lineOk {s : State} (h : s.LineOk) : s.beginFrame.LineOk := by
  apply h.congr <;> simp

theorem State.beginFrame_mapOk {s : State} (h : s.MapOk) : s.beginFrame.MapOk := by
  apply h.congr <;> simp [State.bridge]

/-- A reply begun is the head of the reply queue. -/
theorem State.beginFrame_reply {s : State} (h : ∀ f, s.lnk.sending = some (.reply f) → s.lnk.replyQueue.head? = some f) (f : Frame)
    (hf : s.beginFrame.lnk.sending = some (.reply f)) : s.lnk.replyQueue.head? = some f := by
  unfold State.beginFrame at hf
  split at hf
  · exact h f hf
  · split at hf
    · next g rest hq =>
      simp only [Option.some.injEq, Sending.reply.injEq] at hf
      rw [hq, ← hf]
      rfl
    · split at hf
      · simp at hf
      · exact h f hf

theorem State.beginFrame_queueOk {s : State} (h : s.QueueOk) : s.beginFrame.QueueOk where
  commands := by simpa using h.commands
  replies := by simpa using h.replies
  sending f hf := by
    rw [State.beginFrame_replyQueue]
    exact State.beginFrame_reply h.sending f hf

/-! ### Bodies -/

theorem State.setLinkTimeout_kept (s : State) (tenths : Nat) : s.Kept (s.setLinkTimeout tenths).1 := by
  unfold State.setLinkTimeout
  split
  · exact
      { held := rfl
        pending := rfl
        cmdQueue := rfl
        replyQueue := rfl
        reply := fun _ => Iff.rfl
        line := fun i => i.congr rfl rfl rfl rfl rfl rfl rfl
        map := fun i => i.congr rfl fun _ => rfl }
  · exact .refl s

theorem State.readLink_kept (s : State) : s.Kept s.readLink.1 := by
  unfold State.readLink
  dsimp only
  split
  · exact s.takeFresh_kept
  · exact .refl s

/-- What every host command's body keeps. -/
theorem commandBody_kept (i : Instr) (s : State) : s.Kept (commandBody i s).1 := by
  cases i <;> dsimp only [commandBody]
  all_goals first
    | with_reducible exact State.Kept.refl s
    | with_reducible exact State.commit_kept s
    | with_reducible exact State.startLine_kept ..
    | with_reducible exact State.stopLine_kept s
    | with_reducible exact State.setSpeed_kept ..
    | with_reducible exact State.setRamp_kept ..
    | with_reducible exact State.ackHalt_kept s
    | with_reducible exact State.park_kept s
    | with_reducible exact State.unpark_kept s
    | with_reducible exact State.ackStart_kept s
    | with_reducible exact State.restart_kept s
    | with_reducible exact State.setScale_kept ..
    | with_reducible exact State.setGeometry_kept ..
    | with_reducible exact State.setLineBuild_kept ..
    | with_reducible exact State.setSheetEyes_kept ..
    | with_reducible exact State.setBridge_kept ..
    | with_reducible exact State.threadBridge_kept ..
    | with_reducible exact State.addHostMark_kept ..
    | with_reducible exact State.resumeSorting_kept s
    | with_reducible exact State.setChangeLimits_kept ..
    | with_reducible exact State.addOrder_kept ..
    | with_reducible exact State.amendTarget_kept ..
    | with_reducible exact State.cancelOrder_kept ..
    | with_reducible exact State.collectOrder_kept ..
    | with_reducible exact State.setStation_kept ..
    | with_reducible exact State.loadReel_kept ..
    | with_reducible exact State.unloadReel_kept ..
    | with_reducible exact State.forceSplice_kept ..
    | with_reducible exact State.spliceVerdict_kept ..
    | with_reducible exact State.readStation_kept ..
    | with_reducible exact State.setGrade_kept ..
    | with_reducible exact State.setZone_kept ..
    | with_reducible exact State.setZoneEnable_kept ..
    | with_reducible exact State.setBondCommon_kept ..
    | with_reducible exact State.setGlue_kept ..
    | with_reducible exact State.readGlue_kept ..
    | with_reducible exact State.setOutput_kept ..
    | with_reducible exact State.setGenerator_kept ..
    | with_reducible exact State.setFaultInput_kept ..
    | with_reducible exact State.clearDriveFaults_kept s
    | with_reducible exact State.setCutoff_kept ..
    | with_reducible exact State.retrySetup_kept ..
    | with_reducible exact State.readSlitter_kept s
    | with_reducible exact State.setStacker_kept ..
    | with_reducible exact State.forceEject_kept ..
    | with_reducible exact State.collectStacks_kept ..
    | with_reducible exact State.readStackers_kept s
    | with_reducible exact State.setLinkTimeout_kept ..
    | with_reducible exact State.readLink_kept s
    | exact State.Kept.refl s

theorem frameCommand_kept (f : Frame) (s : State) : s.Kept (frameCommand f s).1 := by
  unfold frameCommand
  rcases decodeCommand f.tag f.code f.payload with (_ | _) | i
  · exact .refl s
  · exact .refl s
  · exact commandBody_kept i s

end Sys2Proof.Machine
end

