-- ==== Sys2Proof/Laws/Events.lean ====
section
/-! SUPPORT. What the events' acts keep: the invariants of the line state and of the web map, and the queues where the link port is not
their own. -/

namespace Sys2Proof.Machine

theorem State.ramp_line {s : State} (h : s.LineOk) : s.ramp.LineOk where
  stopEntry := h.stopEntry
  holdEntry := h.holdEntry
  running := h.running
  holding := h.holding
  started := h.started
  standing hs := by
    have hl : s.lsv.line.stands = true := hs
    have h0 : s.lsv.speedRef = 0 := h.standing hl
    have hstop : s.lsv.ceiling.stop = some 0 := by
      rw [h.stopEntry]
      revert hl
      cases s.lsv.line <;> simp [LineState.stands, LineState.stopEntry]
    have fold : ∀ (l : List (Entry × Nat)) (a : Nat), l.foldl (fun acc p => min acc p.2) a ≤ a := fun l => by
      induction l with
      | nil => exact fun a => le_rfl
      | cons x xs ih => exact fun a => (ih _).trans (min_le_left _ _)
    have mem : ∀ (l : List (Entry × Nat)) (a : Nat) (p : Entry × Nat), p ∈ l → l.foldl (fun acc p => min acc p.2) a ≤ p.2 := fun l => by
      induction l with
      | nil => exact fun _ _ hp => absurd hp (by simp)
      | cons x xs ih =>
        intro a p hp
        rcases List.mem_cons.mp hp with rfl | hp
        · exact (fold xs (min a p.2)).trans (min_le_right _ _)
        · exact ih _ p hp
    have target : s.lsv.ceiling.target = 0 := Nat.le_zero.mp (mem _ _ (.stop, 0) (by
      unfold Ceiling.present
      exact List.mem_filterMap.mpr ⟨.stop, by decide, by simp [Ceiling.get, hstop]⟩))
    show rampStep s.lsv.speedRef (10 * s.lsv.ceiling.target) s.lsv.accel s.lsv.decel = 0
    simp [rampStep, h0, target]

theorem State.measure_kept (s : State) : s.Kept s.measure := s.lcu_kept _

theorem State.ramp_kept (s : State) : s.Kept s.ramp where
  held := rfl
  pending := rfl
  cmdQueue := rfl
  replyQueue := rfl
  reply _ := Iff.rfl
  line := State.ramp_line
  map i := i.congr rfl fun _ => rfl

theorem State.countStopped_kept (s : State) : s.Kept s.countStopped := by
  have put (n : Nat) : s.Kept { s with lsv := { s.lsv with stopped := n } } :=
    { held := rfl
      pending := rfl
      cmdQueue := rfl
      replyQueue := rfl
      reply := fun _ => Iff.rfl
      line := fun i => i.congr rfl rfl rfl rfl rfl rfl rfl
      map := fun i => i.congr rfl fun _ => rfl }
  have ends (u : State) : u.Kept (u.changeLine (if u.ruling = some .hostStop then .ready else .halted)) :=
    (u.changeLine_within _ (by split <;> rfl)).kept
  unfold State.countStopped
  split
  · dsimp only
    generalize (if s.lcu.measured = 0 then countUp Config.stoppedSamples s.lsv.stopped else 0) = n
    split
    · exact (put n).trans (ends _)
    · exact put n
  · exact .refl s

/-- Work of the link port that leaves the queues and the frame being sent. -/
theorem State.lnk_kept (s : State) (x : Lnk) (hc : x.cmdQueue = s.lnk.cmdQueue) (hr : x.replyQueue = s.lnk.replyQueue)
    (hs : x.sending = s.lnk.sending) : s.Kept { s with lnk := x } where
  held := rfl
  pending := rfl
  cmdQueue := hc
  replyQueue := hr
  reply f := by rw [← hs]
  line i := i.congr rfl rfl rfl rfl rfl rfl rfl
  map i := i.congr rfl fun _ => rfl

theorem State.setReceiver_kept (s : State) (r : Receiver) : s.Kept (s.setReceiver r) := s.lnk_kept _ rfl rfl rfl

theorem State.setRx_kept (s : State) (r : RxLine) : s.Kept (s.setRx r) := s.lnk_kept _ rfl rfl rfl

theorem State.countError_kept (s : State) (r : LinkError) : s.Kept (s.countError r) := s.lnk_kept _ rfl rfl rfl

theorem State.linkError_kept (s : State) (r : LinkError) : s.Kept (s.linkError r) :=
  ((s.countError_kept r).step (State.raise_within ..)).trans (State.setReceiver_kept _ _)

theorem State.hearHost_kept (s : State) : s.Kept s.hearHost :=
  (s.lnk_kept { s.lnk with expiries := 0 } rfl rfl rfl).step (State.removeHold_within ..)

theorem State.hostSilent_kept (s : State) : s.Kept s.hostSilent := by
  unfold State.hostSilent
  split
  · exact ((s.lnk_kept { s.lnk with expiries := 1 } rfl rfl rfl).step (State.addHold_within ..)).step (State.raise_within ..)
  · exact (s.lnk_kept { s.lnk with expiries := 2 } rfl rfl rfl).step (State.stopCause_within ..)

/-- What keeps the three invariants at once. -/
structure State.Sound (s t : State) : Prop where
  line : s.LineOk → t.LineOk
  map : s.MapOk → t.MapOk
  queue : s.QueueOk → t.QueueOk

theorem State.Sound.refl (s : State) : s.Sound s where
  line h := h
  map h := h
  queue h := h

theorem State.Sound.trans {s t u : State} (h : s.Sound t) (h' : t.Sound u) : s.Sound u where
  line i := h'.line (h.line i)
  map i := h'.map (h.map i)
  queue i := h'.queue (h.queue i)

theorem State.Kept.sound {s t : State} (h : s.Kept t) : s.Sound t where
  line := h.line
  map := h.map
  queue i :=
    { commands := by rw [h.cmdQueue]; exact i.commands
      replies := by rw [h.replyQueue]; exact i.replies
      sending := fun f hf => by
        rw [h.replyQueue]
        exact i.sending f ((h.reply f).mp hf) }

theorem State.beginFrame_sound (s : State) : s.Sound s.beginFrame where
  line := State.beginFrame_lineOk
  map := State.beginFrame_mapOk
  queue := State.beginFrame_queueOk

/-- Work of the link port on its queues that leaves the line supervisor and the web map. -/
theorem State.lnk_sound (s : State) (x : Lnk) (h : s.QueueOk → State.QueueOk { s with lnk := x }) : s.Sound { s with lnk := x } where
  line i := i.congr rfl rfl rfl rfl rfl rfl rfl
  map i := i.congr rfl fun _ => rfl
  queue := h

theorem State.pushReply_sound (s : State) (f : Frame) (room : s.lnk.replyQueue.length < Config.linkCapacity) :
    s.Sound (s.pushReply f) :=
  s.lnk_sound _ fun i =>
    { commands := i.commands
      replies := by
        simp only [List.length_append, List.length_cons, List.length_nil]
        omega
      sending := fun g hg => by
        have h := i.sending g hg
        show (s.lnk.replyQueue ++ [f]).head? = some g
        rw [List.head?_append, h]
        rfl }

theorem State.queueFrame_sound (s : State) (f : Frame) : s.Sound (s.queueFrame f) := by
  unfold State.queueFrame
  split
  · next room =>
    exact s.lnk_sound _ fun i =>
      { commands := by
          simp only [List.length_append, List.length_cons, List.length_nil]
          omega
        replies := i.replies
        sending := i.sending }
  · exact ((s.lnk_kept { s.lnk with overflow := countUp 65535 s.lnk.overflow } rfl rfl rfl).step (State.raise_within ..)).sound

theorem State.judgeFrame_sound (s : State) (got : List Byte) (n : Nat) : s.Sound (s.judgeFrame got n) := by
  unfold State.judgeFrame
  dsimp only
  split
  · exact ((s.setReceiver_kept _).sound.trans (State.queueFrame_sound _ _)).trans (State.hearHost_kept _).sound
  · exact (s.linkError_kept _).sound

theorem State.collect_sound (s : State) (got : List Byte) : s.Sound (s.collect got) := by
  unfold State.collect
  dsimp only
  split
  · exact (s.setReceiver_kept _).sound
  · split
    · exact (s.linkError_kept _).sound
    · split
      · exact (s.setReceiver_kept _).sound
      · exact s.judgeFrame_sound got _

theorem State.takeCharacter_sound (s : State) (mark : Bool) (b : Byte) (stop : Bool) : s.Sound (s.takeCharacter mark b stop) := by
  unfold State.takeCharacter
  split
  · repeat' split
    · exact (s.countError_kept _).sound
    · exact .refl s
    · exact (s.setReceiver_kept _).sound
    · exact (s.linkError_kept _).sound
  · repeat' split
    · exact (s.linkError_kept _).sound
    · exact s.collect_sound _
    · exact ((s.linkError_kept _).trans (State.setReceiver_kept _ _)).sound
    · exact (s.linkError_kept _).sound

theorem State.resetLink_sound (s : State) : s.Sound s.resetLink :=
  s.lnk_sound _ fun _ => { commands := Nat.zero_le _, replies := Nat.zero_le _, sending := fun f hf => absurd hf (by simp) }

theorem State.frameSent_sound (s : State) : s.Sound s.frameSent := by
  unfold State.frameSent
  split
  · exact .refl s
  · exact s.lnk_sound _ fun i =>
      { commands := i.commands
        replies := by
          have := i.replies
          simp only [List.length_tail]
          omega
        sending := fun f hf => absurd hf (by simp) }
  · exact s.lnk_sound _ fun i => { commands := i.commands, replies := i.replies, sending := fun f hf => absurd hf (by simp) }

theorem State.serve_sound (s : State) (tag code : Nat) (cmd : State → State × List Byte) (h : s.Kept (cmd s).1)
    (room : s.lnk.replyQueue.length < Config.linkCapacity) : s.Sound (s.serve tag code cmd) :=
  h.sound.trans (State.pushReply_sound _ _ (by rw [h.replyQueue]; exact room))

theorem State.takeCommand_sound (s : State) : s.Sound s.takeCommand := by
  unfold State.takeCommand
  split
  · exact .refl s
  · next f rest hq =>
    split
    · next room =>
      refine State.Sound.trans ?_ (State.serve_sound { s with lnk := { s.lnk with cmdQueue := rest } } _ _ _ (frameCommand_kept f _) room)
      exact s.lnk_sound _ fun i =>
        { commands := by
            have := i.commands
            rw [hq, List.length_cons] at this
            show rest.length ≤ _
            omega
          replies := i.replies
          sending := i.sending }
    · exact .refl s

theorem State.judgeInput_kept (s : State) (i : InputId) : s.Kept (s.judgeInput i) := (s.judgeInput_within i).kept

/-- The part at its reset values meets the three invariants. -/
theorem State.resetPart_ok (s : State) (c : ResetCause) : (s.resetPart c).LineOk ∧ (s.resetPart c).MapOk ∧ (s.resetPart c).QueueOk :=
  ⟨{ stopEntry := rfl
     holdEntry := rfl
     standing := fun _ => rfl
     running := fun _ => rfl
     holding := fun h => by cases h
     started := fun h => by cases h },
   { marks := Nat.zero_le _
     sorted := List.Pairwise.nil
     ends := fun m hm => absurd hm (by simp [State.resetPart, WebMap.initial])
     entries := fun k => by simp [State.bridge, State.resetPart, WebMap.initial, Bridge.initial]
     joints := fun k => by simp [State.bridge, State.resetPart, WebMap.initial, Bridge.initial] },
   { commands := Nat.zero_le _
     replies := Nat.zero_le _
     sending := fun f hf => absurd hf (by simp [State.resetPart, Lnk.initial]) }⟩

theorem State.startPart_ok (s : State) (c : ResetCause) : (s.startPart c).LineOk ∧ (s.startPart c).MapOk ∧ (s.startPart c).QueueOk := by
  have h : (s.resetPart c).Sound (s.startPart c) :=
    ((State.forAll_within fun t i => t.judgeInput_within i).kept.sound).trans (State.beginFrame_sound _)
  have r := s.resetPart_ok c
  exact ⟨h.line r.1, h.map r.2.1, h.queue r.2.2⟩

/-! ### The two shapes -/

/-- An event whose terminals and act keep the invariants. -/
theorem event_sound {terminals act : State → State} {s t : State} (h : event terminals act s = .next t)
    (ht : ∀ u : State, u.Sound (terminals u)) (ha : ∀ u : State, u.Sound (act u)) : s.Sound t := by
  rw [event_eq] at h
  cases h
  split
  · exact ht s
  · exact ((ht s).trans (ha _)).trans (State.beginFrame_sound _)

/-- A host command whose body keeps what `State.Kept` lists. -/
theorem hostCommand_sound {tag code : Nat} {cmd : State → State × List Byte} {s t : State} (h : hostCommand tag code cmd s = .next t)
    (hc : ∀ u : State, u.Kept (cmd u).1) : s.Sound t := by
  unfold hostCommand at h
  split at h
  · cases h
    exact .refl _
  · split at h
    · next room =>
      cases h
      exact (State.serve_sound s tag code cmd (hc s) room).trans (State.beginFrame_sound _)
    · cases h
      exact .refl _

theorem State.Sound.ite {c : Prop} [Decidable c] {s t u : State} (h : s.Sound t) (h' : s.Sound u) : s.Sound (if c then t else u) := by
  split <;> assumption

end Sys2Proof.Machine
end

