-- ==== Sys2Proof/Tests/Slice0.lean ====
section
/-! SUPPORT. Tests: the ill-formed terms that `Instr.wf` refuses, and, for each statement with hypotheses, states and operands that meet
them, clause by clause, at the boundary values of their ranges. -/

open Sys2Proof Sys2Proof.Machine

namespace Sys2Proof.Tests

/- One theorem at a time: each waits for the kernel, and a thread for each would take the memory of a stack. -/
set_option Elab.async false

/-! ### Well-formedness -/

theorem test_wf_tag_too_big : (Instr.commit 65535).wf = true ∧ (Instr.commit 65536).wf = false := by decide

theorem test_wf_field_too_big : (Instr.setRamp 1 255 1 5).wf = true ∧ (Instr.setRamp 1 256 1 5).wf = false := by decide

theorem test_wf_list_too_long :
    (Instr.addOrder 1 ⟨1, 0, [0, 100], List.replicate 256 5, [⟨500, 1, 1, 10⟩], 0⟩).wf = false := by decide +kernel

theorem test_wf_payload_too_long :
    (Instr.ping 1 (List.replicate 240 0#8)).wf = true ∧ (Instr.ping 1 (List.replicate 241 0#8)).wf = false := by decide +kernel

theorem test_wf_unknown_command :
    (Instr.unknownCommand 65535 0x00).wf = true ∧ (Instr.unknownCommand 65536 0x00).wf = false ∧
      (Instr.unknownCommand 1 256).wf = false ∧ (Instr.unknownCommand 1 0x0B).wf = false := by decide

/-! ### States -/

def atLine (l : LineState) (s : State) : State := { s with lsv := { s.lsv with line := l } }

def built (w : Nat) (s : State) : State := { s with lcu := { s.lcu with walls := some w, width := 2500 } }

def laidOut (s : State) : State := { s with lcu := { s.lcu with geometry := ⟨50000, 70000, 80000, 90000, 100000⟩ } }

def counted (i : CounterId) (f : Counter → Counter) (s : State) : State := s.onCounter i f

def spliced (i : SpliceId) (f : SpliceStation → SpliceStation) (s : State) : State :=
  { s with spc := { s.spc with stations := modifyAt s.spc.stations i f } }

def zoned (n : ZoneId) (f : Zone → Zone) (s : State) : State := { s with bnd := { s.bnd with zones := modifyAt s.bnd.zones n f } }

def glued (k : GlueId) (f : GlueStation → GlueStation) (s : State) : State :=
  { s with bnd := { s.bnd with glues := modifyAt s.bnd.glues k f } }

def driven (o : OutputId) (f : Output → Output) (s : State) : State :=
  { s with dst := { s.dst with outputs := modifyAt s.dst.outputs o f } }

def wired (i : InputId) (f : FaultInput → FaultInput) (s : State) : State :=
  { s with dst := { s.dst with inputs := modifyAt s.dst.inputs i f } }

def slitted (i : SlitId) (f : SlitStation → SlitStation) (s : State) : State :=
  { s with dec := { s.dec with stations := modifyAt s.dec.stations i f } }

def laned (j : LaneId) (f : CutLane → CutLane) (s : State) : State := { s with dec := { s.dec with lanes := modifyAt s.dec.lanes j f } }

def stacked (j : StackerId) (f : Stacker → Stacker) (s : State) : State :=
  { s with stk := { s.stk with stackers := modifyAt s.stk.stackers j f } }

def booked (os : List Order) (s : State) : State := { s with obk := { s.obk with orders := os } }

def marked (ms : List Mark) (s : State) : State := { s with map := { s.map with marks := ms } }

def linked (f : Lnk → Lnk) (s : State) : State := { s with lnk := f s.lnk }

def theReel : Reel := { tag := 7, paper := 1, loadLength := 100, remaining := 1000000, lowReported := false }

def theSplice : SpliceSettings :=
  { path := 100000, arm := 1000000, reserve := 200000, matchLimit := 10, window := 50000, speed := 100, edge := .rising, reelLow := 0 }

def theZone : ZoneSettings := { dIn := 0, dOut := 10000, output := 4, channel := 1, band := 50, gain := 10 }

def theGlue : GlueSettings :=
  { outA := 0, outB := 1, channel := 1, rollRun := 1, tolerance := 10, moveLimit := 20, stopMode := .brake, interval := 60, turn := 5
    parkGap := 1000 }

def theOrder (p : OrderPhase) : Order :=
  { enteredOrder ⟨5, 0, [0, 1000], [], [], 3⟩ ⟨1000, 1, 10, 10⟩ none with phase := p, setup := .ready, station := some 0 }

def theSpec : OrderSpec := ⟨9, 3, [0, 1000], [], [⟨1000, 1, 10, 10⟩], 3⟩

def theGrade : Grade :=
  { walls := 1, flute := 0, setpoint := 1700, feedForward := 50, lowHeat := 50, limit := 200, gaps := #v[100, 0, 0, 120] }

def graded (s : State) : State := { s with bnd := { s.bnd with grades := modifyAt s.bnd.grades 3 fun _ => some theGrade } }

def replies (n : Nat) : List Frame := List.replicate n { tag := 1, code := 1, payload := [] }

/-! ### The machine as a whole -/

theorem test_met_StepNeverStops : State.reset.pending = [] := rfl

/-- PowerOnStarts, LengthInputs, KeepWet and the other statements that ask only a part not held in reset, or one that serves. -/
theorem test_met_serving : State.reset.held = false ∧ State.reset.serves := by unfold State.serves; decide

theorem test_met_CommandsWait :
    let s := { State.reset with held := true }
    let t := linked (fun l => { l with replyQueue := replies 4 }) State.reset
    (s.held = true ∧ (Instr.commit 1).layout.isSome = true ∧ Instr.speedSample ≠ .powerOn ∧ Instr.speedSample ≠ .resetLineAssert ∧
      Instr.speedSample ≠ .resetLine) ∧ t.held = false ∧ Config.linkCapacity ≤ t.lnk.replyQueue.length := by decide +kernel

/-! ### The Length Counting Unit -/

theorem test_met_EncoderTransitions :
    let s := State.reset
    let k (t : State) : Counter := t.counter 0
    let debt := counted 0 (fun c => { c with debt := 1 }) s
    let fine := counted 0 (fun c => { c with scale := 20000 }) s
    ¬s.counts 1 ∧ s.counts 0 ∧ debt.counts 0 ∧ fine.counts 0 ∧ (k s).refPhase = ⟨false, false⟩ ∧
      ((k s).refPhase, (⟨true, false⟩ : Phase)) ∈ forwardPairs ∧ 0 < (k debt).debt ∧
      (k fine).debt = 0 ∧ ((k fine).c + 1) * 10000 / (k fine).scale = (k fine).pos ∧ (k fine).pos < 2 ^ 44 ∧
      ((⟨false, true⟩ : Phase), (k s).refPhase) ∈ forwardPairs ∧ ¬(2 * (k s).debt ≤ (k s).scale ∧ (k s).scale < 2 * ((k s).debt + 1)) ∧
      (⟨true, true⟩ : Phase).a ≠ (k s).refPhase.a ∧ (⟨true, true⟩ : Phase).b ≠ (k s).refPhase.b ∧ (k s).tally ≠ 3 := by
  unfold State.counts; decide +kernel

theorem test_met_EncoderFaults :
    let s := State.reset
    let k (t : State) : Counter := t.counter 0
    let debt := counted 0 (fun c => { c with debt := 5000 }) s
    let noise := counted 0 (fun c => { c with tally := 3 }) s
    let far := counted 0 (fun c => { c with c := 2 ^ 44 - 1 }) s
    debt.counts 0 ∧ noise.counts 0 ∧ far.counts 0 ∧
      (2 * (k debt).debt ≤ (k debt).scale ∧ (k debt).scale < 2 * ((k debt).debt + 1)) ∧ (k noise).tally = 3 ∧
      ((k far).refPhase, (⟨true, false⟩ : Phase)) ∈ forwardPairs ∧ (k far).debt = 0 ∧
      2 ^ 44 ≤ ((k far).c + 1) * 10000 / (k far).scale := by
  unfold State.counts; decide +kernel

theorem test_met_WebAdvance :
    let s := { built 1 State.reset with lcu := { (built 1 State.reset).lcu with webPresent := Vector.replicate 3 true } }
    let k := s.counter 1
    s.held = false ∧ s.counts 1 ∧ (k.refPhase, (⟨true, false⟩ : Phase)) ∈ forwardPairs ∧ k.debt = 0 ∧
      k.pos < (k.c + 1) * 10000 / k.scale ∧ (k.c + 1) * 10000 / k.scale < 2 ^ 44 ∧ (s.bridge 0).content ≤ k.pos := by
  unfold State.counts; decide +kernel

theorem test_met_LineAdvance :
    let s := built 1 State.reset
    let full := { s with map := { s.map with bridges := modifyAt s.map.bridges 0 fun b => { b with content := 1 } } }
    let k := s.counter 0
    let d := (k.c + 1) * 10000 / k.scale - k.pos
    s.counts 0 ∧ (k.refPhase, (⟨true, false⟩ : Phase)) ∈ forwardPairs ∧ k.debt = 0 ∧ k.pos < (k.c + 1) * 10000 / k.scale ∧
      (k.c + 1) * 10000 / k.scale < 2 ^ 44 ∧ (0 : WebId).val + 1 ≤ s.walls ∧ s.walls < (1 : WebId).val + 1 ∧
      (s.bridge 0).content < d ∧ d ≤ (full.bridge 0).content := by
  unfold State.counts; decide +kernel

theorem test_met_JointCapture :
    let s := spliced 0 (fun x => { x with settings := some theSplice }) (built 1 State.reset)
    let armed := { s with lcu := { s.lcu with joints := Vector.replicate 7 { armed := true, record := none } } }
    let late := spliced 0 (fun x => { x with phase := .confirming }) armed
    s.lcu.joints[0].armed = false ∧ armed.lcu.joints[0].armed = true ∧ armed.spliceInUse 0 = true ∧
      theSplice.edge = (if true then EdgeSelect.rising else .falling) ∧ theSplice.edge ≠ .falling ∧
      (armed.splice 0).phase ≠ .confirming ∧ (late.splice 0).phase = .confirming := by decide +kernel

/-- Station 1 with its settings, in a state, with a running reel and a standby reel of the remaining lengths given. -/
def splicing (p : SplicePhase) (active standby : Option Nat) : State :=
  let reel (n : Nat) : Reel := { theReel with remaining := n }
  spliced 0 (fun x => { x with
    settings := some { theSplice with reelLow := 300000 }, phase := p, activeReel := active.map reel, standbyReel := standby.map reel
    windowEnd := some 0 }) (built 1 (atLine .run State.reset))

theorem test_met_JointCapture_confirm :
    let s := splicing .confirming (some 5) (some 1000000)
    let far := counted 1 (fun c => { c with c := 1000000 }) s
    (s.splice 0).phase = .confirming ∧ (s.splice 0).settings = some { theSplice with reelLow := 300000 } ∧
      (s.splice 0).standbyReel = some theReel ∧ 0 < theReel.loadLength * 10000 - ((s.counter (spliceCounter 0)).pos - 0) ∧
      theReel.loadLength * 10000 - ((far.counter (spliceCounter 0)).pos - 0) = 0 ∧
      ((splicing .confirming none none).splice 0).standbyReel = none := by decide +kernel

theorem test_met_JointCapture_place :
    let s := built 1 State.reset
    let full := { s with map := { s.map with bridges := modifyAt s.map.bridges 0 fun b => { b with entries := List.replicate 32 ⟨1, 0, 0, 0, false⟩ } } }
    let x := s.webPos 0 - (s.bridge 0).content
    (0 : SpliceId).val = 2 * (0 : WebId).val ∧ (1 : SpliceId).val = 2 * (0 : WebId).val + 1 ∧ 0 ≤ x ∧ x < 1 ∧
      (s.bridge 0).entries.length < 32 ∧ 32 ≤ (full.bridge 0).entries.length := by decide +kernel

theorem test_met_JointCapture_advance :
    let p (x : SplicePhase) (n : Nat) : State := splicing x (some n) none
    let pos := ((p .idle 5).counter (spliceCounter 0)).pos
    (∀ x ∈ [SplicePhase.idle, .standby, .matching, .matched, .confirming, .suspect, .blocked],
      (p x 5).spliceInUse 0 = true ∧ ((p x 5).splice 0).settings = some { theSplice with reelLow := 300000 } ∧
        ((p x 5).splice 0).activeReel = some { theReel with remaining := 5 }) ∧
    0 < theSplice.window ∧ 5 - 5 = 0 ∧ 0 < 5 - 4 ∧ (200001 - 1 ≤ theSplice.reserve ∧ theSplice.reserve < 200002 - 1) ∧
    (1000001 - 1 ≤ theSplice.arm ∧ theSplice.arm < 1000002 - 1) ∧ ((p .standby 5).splice 0).speedMatch = false ∧
    ((p .matched 5).splice 0).force = false ∧ (0 : Nat) ≤ pos ∧ ((p .confirming 5).splice 0).windowEnd = some 0 ∧
    ((splicing .idle none none).splice 0).activeReel = none ∧ State.reset.spliceInUse 2 = false ∧ (p .standby 5).lsv.line = .run ∧
    0 < { (p .standby 5) with lcu := { (p .standby 5).lcu with measured := 1 } }.lcu.measured := by decide +kernel

theorem test_met_SpeedSample :
    let s := atLine .stopping State.reset
    let last := { s with lsv := { s.lsv with stopped := 9 } }
    (match exec .speedSample last with
      | .next t => t.lcu.measured
      | _ => 1) = 0 ∧ last.lsv.line = .stopping ∧ min (last.lsv.stopped + 1) 10 = 10 ∧ min (s.lsv.stopped + 1) 10 ≠ 10 ∧
      State.reset.lsv.line ≠ .stopping ∧ last.lsv.stopRec.bind (·.ruling) ≠ some .hostStop ∧
      ({ last with lsv := { last.lsv with
        stopRec := some { active := true, ruling := some .hostStop, detail := none, position := none, latest := .hostStop
                          latestDetail := none, count := 1 } } } : State).lsv.stopRec.bind (·.ruling) = some .hostStop := by decide +kernel

/-- Station 1 in STANDBY on a line that runs, its reel at the arm length; and the tenth sample at zero speed of a glue station at rest. -/
theorem test_met_SpeedSample_takers :
    let s (n : Nat) (same : Bool) : State :=
      counted 0 (fun c => { c with c := 1 }) (spliced 0 (fun x => { x with speedMatch := same }) (splicing .standby (some n) none))
    let wet (n : Nat) : State :=
      let t := glued 0 (fun g => { g with settings := some theGlue, state := .inPosition }) (built 1 State.reset)
      { t with bnd := { t.bnd with zeroSpeed := n } }
    (∀ n ∈ [200000, 200001, 1000000], ∀ b ∈ [false, true],
      (s n b).spliceInUse 0 = true ∧ ((s n b).splice 0).phase = .standby ∧ ((s n b).splice 0).speedMatch = b ∧ (s n b).lsv.line = .run ∧
        0 < min 400 ((((s n b).linePos - (s n b).lcu.sampleBase) * 6 + 99) / 100) ∧ n ≤ theSplice.arm ∧
        ((s n b).splice 0).settings = some { theSplice with reelLow := 300000 } ∧
        ((s n b).splice 0).activeReel = some { theReel with remaining := n }) ∧
      200000 ≤ theSplice.reserve ∧ theSplice.reserve < 200001 ∧ ¬1000001 ≤ theSplice.arm ∧ (State.reset.splice 0).phase ≠ .standby ∧
      ((splicing .matching (some 5) none).splice 0).phase = .matching ∧
      (∀ n ∈ [8, 9, 10],
        (match exec .speedSample (wet n) with
          | .next t => (t.bnd.zeroSpeed, (t.glue 0).keepWet)
          | _ => (0, none)) = (min (n + 1) 10, if n = 9 then some theGlue.interval else none)) ∧
      ((wet 9).glue 0).state = .inPosition ∧ ((wet 9).glue 1).state ≠ .inPosition ∧ ((wet 9).glue 1).state ≠ .lifted := by
  decide +kernel

theorem test_met_SetScale :
    let s := State.reset
    s.serves ∧ (atLine .ready s).lsv.line ≠ .setup ∧ s.walls < (1 : CounterId).val ∧ (0 : CounterId).val ≤ s.walls ∧ (s.counter 0).pos = 0 ∧
      0 < ((counted 0 (fun c => { c with c := 1 }) s).counter 0).pos ∧ ¬(1000 ≤ 999) ∧ 200000 < 200001 := by
  unfold State.serves; decide +kernel

theorem test_met_LengthSettings :
    let s := State.reset
    let fits (slit cut rej stk1 stk2 : Nat) : Prop := 5000 ≤ slit ∧ slit ≤ 120000 ∧ slit + 2000 ≤ cut ∧ cut ≤ 150000 ∧ cut + 1000 ≤ rej ∧
      rej < stk1 ∧ stk1 ≤ cut + 27000 ∧ rej < stk2 ∧ stk2 ≤ cut + 27000
    s.serves ∧ s.lsv.line = .setup ∧ fits 5000 7000 8000 8001 34000 ∧ ¬fits 5000 7000 8000 8001 34001 ∧ (1 ≤ 3 ∧ 1000 ≤ 2800) ∧
      (glued 0 id (built 1 s)).glueInUse 0 = true ∧ EdgeSelect.both.ctorIdx = 2 := by
  unfold State.serves; decide +kernel

/-- Two webs in use with GS2 set: a new build of one web takes it out, and of two webs back in; zone 1 shares output 5 with GS2. -/
def rebuilt (w : Nat) : State :=
  let on (x : Output) : Output := { x with mode := .continuous, trip := true }
  zoned 0 (fun z => { z with settings := some { theZone with output := 6 } })
    (glued 1 (fun g => { g with settings := some { theGlue with outA := 4, outB := 5 }, state := if w = 1 then .off else .lifted })
      (driven 4 on (driven 6 (fun x => { x with mode := .pwm, generator := some 0, trip := true }) (built w State.reset))))

theorem test_met_LengthSettings_build :
    let after (s : State) (n : Nat) : State :=
      match exec (.setLineBuild 1 n 2500) s with
      | .next t => t
      | _ => s
    let clash (w : Nat) : State := glued 1 (fun g => { g with settings := some { theGlue with outA := 6, outB := 5 } }) (rebuilt w)
    let two : State :=
      glued 0 (fun g => { g with settings := some { theGlue with outA := 8, outB := 4 }, state := .lifted, output := true })
        (glued 1 (fun g => { g with settings := some { theGlue with outA := 4, outB := 5 } }) (rebuilt 1))
    let plain := built 1 (glued 1 (fun g => { g with settings := some theGlue }) State.reset)
    ((rebuilt 2).glueInUse 1 = true ∧ (after (rebuilt 2) 1).glueInUse 1 = false ∧ ((rebuilt 2).glue 1).state ≠ .off) ∧
    ((rebuilt 1).glueInUse 1 = false ∧ (after (rebuilt 1) 2).glueInUse 1 = true ∧ ((rebuilt 1).glue 1).state = .off ∧
      ((rebuilt 1).glue 1).settings ≠ none ∧ (rebuilt 1).faulted 4 = true ∧ (rebuilt 1).ownedBy 4 ≠ some (.sideA 1) ∧
      (after (rebuilt 1) 2).ownedBy 4 = some (.sideA 1)) ∧
    ((∀ o : OutputId, plain.faulted o = false) ∧ plain.glueInUse 1 = false ∧ (after plain 2).glueInUse 1 = true) ∧
    ((clash 1).faulted 6 = true ∧ (clash 1).ownedBy 6 = some (.zone 0) ∧ (after (clash 1) 2).ownedBy 6 ≠ some (.zone 0) ∧
      (clash 2).ownedBy 6 ≠ some (.zone 0) ∧ (after (clash 2) 1).ownedBy 6 = some (.zone 0)) ∧
    (two.faulted 4 = true ∧ two.ownedBy 4 = some (.sideB 0) ∧ (after two 2).ownedBy 4 ≠ some (.sideB 0) ∧ (after two 2).glueInUse 0 = true ∧
      ∀ p : OutputId, two.faulted p = true → (after two 2).ownedBy p ≠ some (.sideA 0) ∧ (after two 2).ownedBy p ≠ some (.sideB 0)) := by
  decide +kernel

/-- GS2 is taken out of use with its span open in the map. -/
theorem test_met_LengthSettings_span :
    let s := marked [{ start := 3, finish := none, body := .bondRisk (.glue 1) }] (glued 1 (fun g => { g with span := some 3 }) (rebuilt 2))
    let u : State :=
      match exec (.setLineBuild 1 1 2500) s with
      | .next t => t
      | _ => s
    s.serves ∧ s.glueInUse 1 = true ∧ u.glueInUse 1 = false ∧ (s.glue 1).state ≠ .off ∧ (s.glue 1).span ≠ none ∧
      s.map.marks = [] ++ { start := 3, finish := none, body := .bondRisk (.glue 1) } :: [] := by
  unfold State.serves; decide +kernel

/-! ### The web map, the bridges and the order book -/

def hostMark (a b : Nat) : Mark := { start := a, finish := some b, body := .hostMark 1 }

def endMark (a : Nat) : Mark := { start := a, finish := some (a + 10000), body := .orderChange 5 none false }

theorem test_met_InsertionRequest :
    let s := laidOut State.reset
    let far := counted 0 (fun c => { c with c := 100007 }) s
    let full := marked (List.replicate 128 (hostMark 0 1)) s
    (∃ e, (hostMark 0 7).finish = some e ∧ e + far.dLast ≤ far.linePos) ∧ ¬(8 + far.dLast ≤ far.linePos) ∧
      s.map.marks.length < 128 ∧ 128 ≤ full.map.marks.length ∧ (endMark 0).isChange = true ∧ (hostMark 0 1).isChange = false := by
  refine ⟨⟨7, by decide +kernel⟩, ?_⟩; decide +kernel

/-- The map with a closed and an open span of zone 1, without one, and without one but with its lost-span flag. -/
theorem test_met_InsertionRequest_spans :
    let x : BondSource := .zone 0
    let m (e : Option Nat) : Mark := { start := 7, finish := e, body := .bondRisk x }
    let s := marked [m (some 9), m none] State.reset
    let lost := { State.reset with map := { State.reset.map with lostZone := modifyAt State.reset.map.lostZone 0 fun _ => true } }
    (s.map.marks = [m (some 9)] ++ m none :: [] ∧ (m (some 9)).isOpenSpan x = false ∧ (m none).isOpenSpan x = true ∧
      (m none).isOpenSpan (.zone 1) = false ∧ (m none).isOpenSpan (.glue 0) = false) ∧
      (∀ y ∈ State.reset.map.marks, y.isOpenSpan x = false) ∧ State.reset.lostSpan x = false ∧ lost.lostSpan x = true ∧
      max 7 6 = 7 ∧ max 7 8 = 8 := by decide +kernel

/-- The RUNNING order of the tests with its end position at `e`, and its STAGED, QUEUED and other orders. -/
def runningTo (e : Nat) (done : Bool) : Order :=
  { theOrder .running with
    tag := 4, station := some 1, endPos := e
    runs := (theOrder .running).runs.map fun r => { r with complete := done } }

/-- The web at LINE 100000 with the slitter at 50000, the orders given in the book, and the end mark of order 4 at `e`. -/
def changing (os : List Order) (st : EndStatus) (ms : List Mark) : State :=
  let s := graded (marked ms (booked os (counted 0 (fun c => { c with c := 100000 }) (laidOut (built 1 (atLine .run State.reset))))))
  { s with obk := { s.obk with endStatus := st }
           dec := { s.dec with stations := #v[{ s.slit 0 with state := .ready }, { s.slit 1 with state := .engaged }] } }

def changeMark (e : Nat) : Mark := { start := e, finish := some (e + 10000), body := .orderChange 4 (some 5) false }

theorem test_met_LineAdvance_map :
    let s := marked [hostMark 0 1, hostMark 0 7, hostMark 0 8] (counted 0 (fun c => { c with c := 100007 }) (laidOut (built 1 State.reset)))
    let gone (m : Mark) : Bool := (m.finish.map fun e => decide (e + s.dLast ≤ s.linePos)).getD false
    let p := changing [runningTo 60000 false] .pending []
    s.map.marks = [] ++ hostMark 0 1 :: [hostMark 0 7, hostMark 0 8] ∧ s.map.marks.map gone = [true, true, false] ∧
      s.obk.endStatus ≠ .pending ∧ (State.reset.map.marks = []) ∧ p.obk.endStatus = .pending ∧
      p.runningOrder = some (runningTo 60000 false) ∧ State.reset.runningOrder = none ∧
      ((0 : WebId).val + 1 ≤ p.walls ∧ (p.bridge 0).content < 1 ∧ p.lsv.line = .run) := by decide +kernel

theorem test_met_LineAdvance_lock :
    let e := 100000 + State.reset.obk.lockMargin - 50000
    let fits (o t : Order) (st : EndStatus) : State := changing [o, { t with grade := 3 }] st [changeMark o.endPos]
    let ready := fits { runningTo e false with grade := 3 } (theOrder .staged) .unlocked
    let slow := fits (runningTo e false) { theOrder .staged with setup := .positioning } .unlocked
    (ready.runningOrder = some { runningTo e false with grade := 3 } ∧ ready.obk.endStatus = .unlocked ∧
      e + ready.dSlit ≤ ready.linePos + ready.obk.lockMargin ∧ ¬(e + 1 + ready.dSlit ≤ ready.linePos + ready.obk.lockMargin) ∧
      ready.stagedOrder = some { theOrder .staged with grade := 3 } ∧ (theOrder .staged).setup = .ready ∧
      ready.gradeEntry 3 = some theGrade ∧
      ready.map.marks = [] ++ ⟨e, some (e + 10000), .orderChange 4 (some 5) false⟩ :: []) ∧
    (slow.runningOrder = some (runningTo e false) ∧ (slow.stagedOrder.map (·.setup)) = some .positioning ∧ 0 < slow.obk.deferStep ∧
      slow.map.marks = [] ++ changeMark e :: [] ∧ (changeMark e).isUnlockedChange = true ∧
      (95 * 10000 < slow.obk.maxDeferral ∧ slow.obk.maxDeferral ≤ 95 * 10000 + slow.obk.deferStep)) := by decide +kernel

theorem test_met_LineAdvance_swap :
    let lock (done : Bool) (more : List Order) : State := changing ([runningTo 50000 done, theOrder .staged] ++ more) .locked []
    let q : Order := { theOrder .queued with tag := 6, station := none }
    (∀ done ∈ [true, false], ∀ more ∈ [[], [q]],
      let s := lock done more
      s.BookOk ∧ s.runningOrder = some (runningTo 50000 done) ∧ s.stagedOrder = some (theOrder .staged) ∧ s.obk.endStatus = .locked ∧
        50000 + s.dSlit ≤ s.linePos) ∧
    ((runningTo 50000 false).lane 0).isSome = true ∧ (runningTo 50000 false).runs[0].complete = false ∧
      (∀ j : LaneId, ((runningTo 50000 true).lane j).isSome = true → (runningTo 50000 true).runs[j].complete = true) ∧
      (theOrder .staged).station = some 0 ∧ (lock true []).obk.orders.all (fun x => x.phase ≠ .queued) = true ∧
      ((lock true [q]).slit 1).state = .engaged ∧ (lock true [q]).obk.orders.find? (fun x => x.phase = .queued) = some q ∧
      ¬(50001 + (lock true []).dSlit ≤ (lock true []).linePos) := by
  have ok (s : State) (h : s.map.marks = []) (a : s.obk.orders.length ≤ 16) (b : (s.obk.orders.map (·.tag)).Nodup)
      (c : (s.obk.orders.filter fun o => o.phase = .running).length ≤ 1)
      (d : (s.obk.orders.filter fun o => o.phase = .staged).length ≤ 1) : s.BookOk :=
    ⟨a, b, c, d, by simp [h], by simp [h]⟩
  refine ⟨?_, by decide +kernel⟩
  intro done hd more hm
  simp only [List.mem_cons, List.not_mem_nil, or_false] at hd hm
  rcases hd with rfl | rfl <;> rcases hm with rfl | rfl <;>
    exact ⟨ok _ rfl (by decide +kernel) (by decide +kernel) (by decide +kernel) (by decide +kernel), by decide +kernel⟩

theorem test_met_MapLookups :
    let s := booked [theOrder .running] (marked [hostMark 0 9, endMark 100] State.reset)
    s.map.marks = [hostMark 0 9] ++ endMark 100 :: [] ∧ (endMark 100).body = .orderChange 5 none false ∧ (endMark 100).start ≤ 100 ∧
      100 < (endMark 100).start + s.zc ∧ (endMark 100).start + s.zc ≤ 10100 ∧ s.findOrder 5 = some (theOrder .running) ∧
      (∀ x ∈ s.map.marks, x.isChange = true → 99 < x.start) ∧ s.runningOrder = some (theOrder .running) ∧
      State.reset.runningOrder = none ∧ State.reset.findOrder 5 = none := by decide +kernel

theorem test_met_BridgeCommands :
    let s := built 1 State.reset
    let t := atLine .ready s
    s.serves ∧ t.serves ∧ s.lsv.line = .setup ∧ (0 : WebId).val + 1 ≤ s.walls ∧ s.walls < (1 : WebId).val + 1 ∧
      (1 ≤ 1 ∧ 1 < 2 ∧ 5 ≤ 5) ∧ ¬(1 ≤ 0) ∧ t.lsv.line = .ready ∧ 0 * 10000 ≤ t.webPos 0 ∧ t.webPos 0 < 1 * 10000 := by
  unfold State.serves; decide +kernel

theorem test_met_BridgeCommands_transfer :
    let at' (e : Nat) : BridgeEntry := { e := e, before := 10, after := 10, station := 0, suspect := false }
    let s := built 1 State.reset
    let t := { s with map := { s.map with bridges := modifyAt s.map.bridges 0 fun b => { b with entries := [at' 0, at' 1] } } }
    let x := t.webPos 0 - (t.bridge 0).content
    (t.bridge 0).entries = [at' 0] ++ [at' 1] ∧ (∀ b ∈ [at' 0], b.e ≤ x) ∧ (∀ b ∈ [at' 1].head?, x < b.e) ∧
      ((t.bridge 0).content ≤ (t.bridge 0).high ∧ (t.bridge 0).high < (t.bridge 0).high + 1) := by decide +kernel

theorem test_met_MapCommands :
    let s := atLine .ready State.reset
    let far := counted 0 (fun c => { c with c := 11 }) s
    let full := marked (List.replicate 128 (hostMark 0 1)) s
    let all := { s with map := { s.map with ra := some 5 } }
    s.serves ∧ s.lsv.line ≠ .setup ∧ ¬(1 ≤ 0) ∧ (10 + far.dCut < far.linePos ∧ far.linePos ≤ 11 + far.dCut) ∧ 1000000 < 1000012 - 11 ∧
      ¬(1000000 < 1000011 - 11) ∧ 128 ≤ full.map.marks.length ∧ ¬(128 ≤ all.map.marks.length) ∧
      (∀ k : WebId, k.val + 1 ≤ all.walls → (all.bridge k).entries.length < 32) ∧ (∀ n : ZoneId, all.lostSpan (.zone n) = false) ∧
      (∀ k : GlueId, all.lostSpan (.glue k) = false) ∧ all.map.ra = some 5 ∧ s.map.ra = none := by
  unfold State.serves; decide +kernel

theorem test_met_OrderEntry :
    let s := graded (built 1 (atLine .ready State.reset))
    let e := enteredOrder theSpec ⟨1000, 1, 10, 10⟩ none
    let busy := slitted 0 (fun g => { g with state := .ready }) s
    s.serves ∧ s.lsv.line ≠ .setup ∧ (1 ≤ theSpec.tag ∧ theSpec.tag ≤ 65535) ∧ firstFailing (orderChecks theSpec s.lcu.width) = none ∧
      firstFailing (orderChecks { theSpec with makeupLimit := 1001 } s.lcu.width) ≠ none ∧ s.gradeFits theSpec.grade = true ∧
      (built 1 State.reset).gradeFits 3 = false ∧ theSpec.knives.length < 2 + 1 ∧ 1 + 1 ≤ theSpec.knives.length ∧
      16 ≤ (booked (List.replicate 16 (theOrder .done)) s).obk.orders.length ∧ s.obk.orders.length < 16 ∧ s.stagedOrder = none ∧
      (booked [theOrder .staged] s).stagedOrder.isSome = true ∧ (s.slit 0).state = .idle ∧ (∀ j < (0 : SlitId), (s.slit j).state ≠ .idle) ∧
      (busy.slit 1).state = .idle ∧ (∀ j < (1 : SlitId), (busy.slit j).state ≠ .idle) ∧
      (s.obk.orders ++ [e]).find? (fun x => x.phase = .queued) = some e := by
  unfold State.serves; decide +kernel

theorem test_met_OrderEntry_lanes :
    let l : LaneSpec := ⟨1000, 1, 10, 10⟩
    theSpec.lanes = l :: Option.toList none ∧ { theSpec with lanes := [l, l] }.lanes = l :: (some l).toList ∧
      firstFailing (orderChecks { theSpec with lanes := [l, l] } 1000) = none := by decide +kernel

/-- Lane counts of none and of three; and a lone queued order that is staged beside a RUNNING one whose end mark is placed or pending. -/
theorem test_met_OrderEntry_staging :
    let l : LaneSpec := ⟨1000, 1, 10, 10⟩
    let e := enteredOrder { theSpec with tag := 7 } l none
    let s (st : EndStatus) : State :=
      let t := marked [endMark 20000] (booked [theOrder .running] (graded (built 1 (atLine .run State.reset))))
      { t with obk := { t.obk with endStatus := st } }
    (∀ n ∈ [0, 3], (List.replicate n l).length ≠ 1 ∧ (List.replicate n l).length ≠ 2) ∧
      ¬(∃ x ∈ (s .unlocked).obk.orders, x.tag = 7) ∧ (∃ x ∈ (s .unlocked).obk.orders, x.tag = 5) ∧
      (∀ st ∈ [EndStatus.unlocked, .pending], (s st).serves ∧ (s st).stagedOrder = none ∧ ((s st).slit 0).state = .idle ∧
        (s st).obk.endStatus = st ∧ (s st).gradeFits e.grade = true ∧
        ((s st).obk.orders ++ [e]).find? (fun x => x.phase = .queued) = some e) ∧
      (s .unlocked).map.marks = [] ++ ⟨20000, (endMark 20000).finish, .orderChange 5 none false⟩ :: [] := by
  unfold State.serves; decide +kernel

theorem test_met_OrderChanges :
    let s (p : OrderPhase) (e : EndStatus) : State :=
      let t := booked [theOrder p] (atLine .run State.reset)
      { t with obk := { t.obk with endStatus := e } }
    (s .queued .none).serves ∧ (s .queued .none).lsv.line ≠ .setup ∧ (s .queued .none).findOrder 4 = none ∧
      (∀ p, (s p .unlocked).findOrder 5 = some (theOrder p)) ∧ (theOrder .queued).lane 1 = none ∧ (theOrder .queued).lane 0 ≠ none ∧
      (∀ p, (theOrder p).phase = p) ∧ (s .running .pending).obk.endStatus = .pending ∧ (s .staged .locked).obk.endStatus = .locked ∧
      (theOrder .running).cancelled = false := by
  refine ⟨by unfold State.serves; decide +kernel, by decide +kernel, by decide +kernel, ?_, by decide, by decide, fun _ => rfl, rfl, rfl, rfl⟩
  intro p; cases p <;> decide +kernel

/-- The RUNNING order with its end mark placed, its new end its old one, below it and above it; and with the end pending. -/
theorem test_met_OrderChanges_moves :
    let s (e : Nat) (st : EndStatus) : State :=
      let t := marked [endMark e] (booked [{ theOrder .running with endPos := e }] (atLine .run (laidOut State.reset)))
      { t with obk := { t.obk with endStatus := st } }
    let limit (t : State) : Nat := t.linePos + t.obk.lockMargin + 1 - t.dSlit
    let o (e : Nat) : Order := { theOrder .running with endPos := e }
    (s 0 .unlocked).findOrder 5 = some (o 0) ∧ max (o 0).start (limit (s 0 .unlocked)) = limit (s 0 .unlocked) ∧
      limit (s 0 .unlocked) = (o 50001).endPos ∧ (s 50001 .unlocked).findOrder 5 = some (o 50001) ∧ limit (s 0 .unlocked) ≠ (o 0).endPos ∧
      (s 50001 .pending).obk.endStatus = .pending ∧ (s 0 .unlocked).map.marks = [] ++ endMark 0 :: [] ∧
      (endMark 0).isUnlockedChange = true ∧ endMark 0 = ⟨0, some 10000, .orderChange 5 none false⟩ := by decide +kernel

/-- A STAGED order on station 1: nothing queued, a queued order that takes the freed station, and no station that becomes IDLE. -/
theorem test_met_OrderChanges_staged :
    let next : Order := { theOrder .queued with tag := 6 }
    let s (os : List Order) (st : SlitState) (e : EndStatus) : State :=
      let t := slitted 0 (fun g => { g with state := st }) (slitted 1 (fun g => { g with state := .engaged })
        (marked [endMark 9] (booked (theOrder .staged :: os) (atLine .run State.reset))))
      { t with obk := { t.obk with endStatus := e } }
    let rest (t : State) : List Order := t.obk.orders.filter fun x => x.tag ≠ 5
    (s [next] .ready .unlocked).serves ∧ (s [next] .ready .pending).findOrder 5 = some (theOrder .staged) ∧
      (theOrder .staged).station = some 0 ∧ rest (s [] .ready .unlocked) = [] ∧ rest (s [next] .ready .unlocked) = [next] ∧
      (∀ x ∈ [next], x.phase ≠ .staged) ∧ [next].find? (fun x => x.phase = .queued) = some next ∧
      (((s [next] .ready .unlocked).slit 0).state ≠ .idle ∧ ((s [next] .ready .unlocked).slit 0).state ≠ .engaged) ∧
      (∀ k : SlitId, ((s [next] .engaged .unlocked).slit k).state = .engaged) ∧ EndStatus.unlocked ≠ .locked ∧ EndStatus.pending ≠ .locked ∧
      (s [next] .ready .unlocked).map.marks = [] ++ ⟨9, some 10009, .orderChange 5 none false⟩ :: [] := by
  unfold State.serves; decide +kernel

theorem test_met_OrderSettings :
    let s := booked [theOrder .running] State.reset
    let def' := { s with obk := { s.obk with deferral := true } }
    s.serves ∧ s.lsv.line = .setup ∧ (atLine .run s).lsv.line ≠ .setup ∧ (2 ≤ 30 ∧ 1 ≤ 20 ∧ 20 ≤ 20 ∧ 5 ≤ 400) ∧ ¬(31 ≤ 30) ∧
      s.obk.deferral = false ∧ def'.obk.deferral = true ∧ def'.runningOrder = some (theOrder .running) ∧ s.findOrder 6 = none ∧
      s.findOrder 5 = some (theOrder .running) ∧ (booked [theOrder .done] s).findOrder 5 = some (theOrder .done) := by
  unfold State.serves; decide +kernel

/-! ### The splice stations -/

theorem test_met_SpliceEvents :
    let s := spliced 0 (fun x => { x with settings := some theSplice, activeReel := some theReel, phase := .matching })
      (built 1 (atLine .run State.reset))
    let low := spliced 0 (fun x => { x with activeReel := some { theReel with remaining := 200000 } }) s
    (s.splice 0).speedMatch = false ∧ s.spliceInUse 0 = true ∧ (s.splice 0).phase = .matching ∧ (s.splice 0).settings = some theSplice ∧
      (s.splice 0).activeReel = some theReel ∧ 0 < theReel.remaining ∧ theSplice.reserve < theReel.remaining ∧
      (s.splice 0).force = false ∧ (low.splice 0).activeReel = some { theReel with remaining := 200000 } ∧
      (200000 : Nat) ≤ theSplice.reserve ∧ (State.reset.splice 0).phase ≠ .matching := by decide +kernel

theorem test_met_SetStation :
    let s := built 1 State.reset
    s.serves ∧ s.lsv.line = .setup ∧ (atLine .ready s).lsv.line ≠ .setup ∧ s.spliceInUse 2 = false ∧ s.spliceInUse 6 = true ∧
      (1 ≤ 1 ∧ 50 ≤ 2000 ∧ 10 ≤ 200 ∧ 200 < 2000 ∧ 5 ≤ 60 ∧ 1 ≤ 20 ∧ 20 ≤ 200 ∧ 30 ≤ 400 ∧ 2 ≤ 2 ∧ 5000 ≤ 5000 ∧ 500 ≤ 5000) ∧
      ¬(61 ≤ 60) ∧ EdgeSelect.both.ctorIdx = 2 := by
  unfold State.serves; decide +kernel

theorem test_met_ReelCommands :
    let s := built 1 (atLine .ready State.reset)
    let x := s.splice 0
    let run := spliced 0 (fun x => { x with activeReel := some theReel }) s
    let two := spliced 0 (fun x => { x with standbyReel := some theReel, phase := .standby }) s
    s.serves ∧ s.spliceInUse 0 = true ∧ (100 ≤ 100 ∧ 100 ≤ 20000 ∧ 99 < 100 ∧ 20000 < 20001) ∧
      ((run.splice 0).activeReel = some theReel ∧ theReel.tag = 7) ∧ x.activeReel = none ∧ s.lsv.line = .ready ∧ Arm.a = x.activeArm ∧
      (Arm.b ≠ (run.splice 0).activeArm ∧ (run.splice 0).standbyReel = none ∧ (run.splice 0).activeReel.isSome = true) ∧
      0 < theReel.remaining ∧ (s.lsv.line ≠ .run ∧ s.lsv.line ≠ .hold) ∧ (two.splice 0).standbyReel.isSome = true ∧
      (two.splice 0).phase = .standby ∧ (s.splice 0).phase ≠ .standby ∧ (s.splice 0).phase ≠ .blocked ∧
      ∀ j : SpliceId, (s.splice j).activeReel = none ∧ (s.splice j).standbyReel = none := by
  unfold State.serves; decide +kernel

/-- A reel loaded on a line that runs, its running reel at the arm length and above it; and the running reel of a station unloaded. -/
theorem test_met_ReelCommands_reels :
    let wait (n : Nat) : State :=
      let s := splicing .idle (some n) none
      { s with lcu := { s.lcu with measured := 1 } }
    let loaded (n : Nat) : State := spliced 0 (fun x => { x with standbyReel := some theReel, phase := .standby }) (wait n)
    let low (r : Reel) : Bool :=
      decide (0 < 300000) && decide (r.remaining ≤ 300000) && !r.lowReported
    let old (n : Option Nat) : Option Reel := ((splicing .blocked n (some 5)).splice 0).activeReel
    ((wait 1000000).serves ∧ (wait 1000000).lsv.line = .run ∧ ((wait 1000000).splice 0).standbyReel = none ∧ ((wait 1000000).splice 0).phase = .idle) ∧
      (∀ n ∈ [1, 200000, 1000000, 1000001], ((loaded n).spliceInUse 0 = true ∧ ((loaded n).splice 0).phase = .standby ∧
        ((loaded n).splice 0).settings = some { theSplice with reelLow := 300000 } ∧ 0 < (loaded n).lcu.measured ∧
        ((loaded n).splice 0).activeReel = some { theReel with remaining := n }) ∧ (n ≤ theSplice.arm ↔ n ≠ 1000001)) ∧
      (old none = none ∧ old (some 0) = some { theReel with remaining := 0 } ∧ old (some 300000) = some { theReel with remaining := 300000 } ∧
        low { theReel with remaining := 300000 } = true ∧ low { theReel with remaining := 300001 } = false ∧
        low { theReel with remaining := 300000, lowReported := true } = false) := by
  unfold State.serves; decide +kernel

theorem test_met_ForceAndVerdict :
    let s := spliced 0 (fun x => { x with settings := some theSplice, activeReel := some theReel, phase := .standby })
      (built 1 (atLine .hold State.reset))
    let hot := spliced 0 (fun x => { x with phase := .matched }) s
    let sus := spliced 0 (fun x => { x with phase := .suspect }) s
    s.serves ∧ sus.serves ∧ s.lsv.line = .hold ∧ s.spliceInUse 0 = true ∧ (s.splice 0).activeReel = some theReel ∧
      (s.splice 0).settings = some theSplice ∧ (s.splice 0).phase = .standby ∧ (s.splice 0).speedMatch = false ∧
      (hot.splice 0).phase = .matched ∧ (sus.splice 0).phase = .suspect ∧ (∀ j : SpliceId, j ≠ 0 → (sus.splice j).phase ≠ .suspect) ∧
      (atLine .ready s).lsv.line ≠ .run ∧ (atLine .ready s).lsv.line ≠ .hold := by
  unfold State.serves; decide +kernel

theorem test_met_ForceAndVerdict_reels :
    let s := splicing .suspect (some 0) (some 1000000)
    let far := counted 1 (fun c => { c with c := 1000000 }) s
    let both := spliced 6 (fun x => { x with phase := .suspect }) s
    s.serves ∧ (s.splice 0).phase = .suspect ∧ (s.splice 0).standbyReel = some theReel ∧
      (s.splice 0).activeReel = some { theReel with remaining := 0 } ∧
      0 < theReel.loadLength * 10000 - ((s.counter (spliceCounter 0)).pos - (s.splice 0).firePos.getD 0) ∧
      theReel.loadLength * 10000 - ((far.counter (spliceCounter 0)).pos - (far.splice 0).firePos.getD 0) = 0 ∧
      ((splicing .suspect none none).splice 0).activeReel = none ∧ ((splicing .suspect none none).splice 0).standbyReel = none ∧
      ¬(∀ j : SpliceId, j ≠ 0 → (both.splice j).phase ≠ .suspect) := by
  unfold State.serves; decide +kernel

/-- The last SUSPECT station with its hold cause, the line in HOLD, so that the verdict lets it run; and one of two SUSPECT stations. -/
theorem test_met_ForceAndVerdict_settled :
    let held (t : State) : State := { t with lsv := { t.lsv with holds := { t.lsv.holds with spliceSuspect := true } } }
    let s := held (atLine .hold (splicing .suspect (some 0) (some 1000000)))
    let two := spliced 6 (fun x => { x with phase := .suspect }) s
    s.serves ∧ (∀ j : SpliceId, j ≠ 0 → (s.splice j).phase ≠ .suspect) ∧ s.lsv.holds.has .spliceSuspect = true ∧
      (s.removeHold .spliceSuspect).lsv.line = .run ∧ ¬(∀ j : SpliceId, j ≠ 0 → (two.splice j).phase ≠ .suspect) ∧
      (s.splice 0).standbyReel.map (fun q => q.loadLength * 10000 - ((s.counter (spliceCounter 0)).pos - (s.splice 0).firePos.getD 0)) ≠ some 0 ∧
      (s.splice 0).activeReel.map (·.remaining) = some 0 := by
  unfold State.serves; decide +kernel

/-! ### Hot plates, glue and the grade table -/

def heated (st : ZoneState) : State :=
  zoned 0 (fun z => { z with settings := some theZone, enabled := true, state := st, stale := 9 }) (built 1 State.reset)

theorem test_met_ZoneReadings :
    (State.reset.zone 0).enabled = false ∧
      (∀ st ∈ [ZoneState.off, .low, .inBand, .fault], ((heated st).zone 0).enabled = true ∧ ((heated st).zone 0).settings = some theZone) ∧
      ∀ st ∈ [ZoneState.off, .low, .inBand, .fault], ∀ r ∈ [Reading.valid 1369, .valid 1370, .valid 3500, .valid 3501, .invalid, .absent],
        (match exec (.temperatureReading 0 r) (heated st) with
          | .next t => (t.zone 0).stale
          | _ => 0) = if r = .absent then 10 else 0 := by decide +kernel

/-- Zone 1 opens a span, keeps it, and closes it. -/
theorem test_met_ZoneReadings_spans :
    let s (st : ZoneState) (span : Option Nat) : State := zoned 0 (fun z => { z with span := span }) (heated st)
    let after (st : ZoneState) (span : Option Nat) (r : Reading) : Option Nat :=
      match exec (.temperatureReading 0 r) (s st span) with
      | .next t => (t.zone 0).span
      | _ => none
    (s .inBand none).held = false ∧ ((s .inBand none).zone 0).enabled = true ∧ ((s .inBand none).zone 0).settings = some theZone ∧
      after .inBand none (.valid 1349) = some 0 ∧ after .inBand none (.valid 1350) = none ∧ after .low (some 3) (.valid 1369) = some 3 ∧
      after .low (some 3) (.valid 1370) = none ∧ after .fault (some 3) .invalid = some 3 := by decide +kernel

theorem test_met_ZoneReadings_setpoint :
    let s := heated .low
    let g := graded (booked [{ theOrder .running with grade := 3 }] s)
    (s.zone 0).settings = some theZone ∧ (atLine .park s).lsv.line = .park ∧ s.lsv.line ≠ .park ∧
      s.gradeLookup (s.linePos + s.bnd.heatLead - theZone.dIn) = .none ∧ ((s.zone 0).enabled = true ∧ (s.zone 0).state = .low) ∧
      (g.gradeLookup (g.linePos + g.bnd.heatLead - theZone.dIn) = .grade (3 : Fin 32).val ∧ g.bnd.grades[(3 : Fin 32)] = some theGrade) ∧
      ((heated .inBand).zone 0).state ≠ .low ∧ ((heated .inBand).zone 0).state ≠ .fault := by decide +kernel

def pasted (st : GlueState) (target : Nat) : State :=
  glued 0 (fun g => { g with settings := some theGlue, rules := theGlue.moveRules, state := st, target := target, stale := 9 })
    (built 1 State.reset)

/-- The same, with the rules of a move begun before the settings were made. -/
def ruledBefore (s : State) : State := glued 0 (fun g => { g with rules := ⟨1, 5, .coast⟩ }) s

theorem test_met_GapReadings :
    (State.reset.glue 0).state = .off ∧ ((pasted .moving 120).glue 0).state = .moving ∧
      (∀ st ∈ [GlueState.moving, .inPosition, .lifted, .fault], ∀ g ∈ [120, 1000], ((pasted st g).glue 0).settings = some theGlue ∧
        (let x := ((pasted st g).evalGlue 0).glue 0
         (x.state, x.target, x.stale) = (st, g, 9)) ∧
        (match exec (.gapReading 0 (.valid g)) (ruledBefore (pasted st g)) with
          | .next t => some (t.glue 0).rules
          | _ => none) = some theGlue.moveRules) ∧
      (5000 ≤ 5000 ∧ 5000 < 5001) ∧ (110 ≤ 120 + theGlue.tolerance ∧ 120 ≤ 110 + theGlue.tolerance) ∧ ¬(120 ≤ 109 + theGlue.tolerance) ∧ min (9 + 1) 10 = 10 ∧
      min (8 + 1) 10 < 10 := by decide +kernel

theorem test_met_GapReadings_target :
    let s (st : GlueState) (v : Option Nat) : State := glued 0 (fun g => { g with lastValid := v }) (pasted st 120)
    let run (st : GlueState) (v : Option Nat) : State := graded (booked [{ theOrder .running with grade := 3 }] (s st v))
    let staged := graded (booked [{ theOrder .staged with grade := 3 }] (s .moving none))
    let p (t : State) : Nat := t.gluePoint 0 + t.bnd.glueLead
    (atLine .park (s .moving none)).lsv.line = .park ∧ (s .moving none).lsv.line ≠ .park ∧
      (s .moving none).gradeLookup (p (s .moving none)) = .none ∧ (s .moving none).stagedOrder = none ∧
      ((run .moving none).gradeLookup (p (run .moving none)) = .grade (3 : Fin 32).val ∧ (run .moving none).bnd.grades[(3 : Fin 32)] = some theGrade) ∧
      (staged.gradeLookup (p staged) = .none ∧ (staged.stagedOrder.map (·.grade)) = some (3 : Fin 32).val) ∧
      (∀ st ∈ [GlueState.moving, .inPosition, .lifted, .fault], ∀ v ∈ [none, some 90, some 89, some 110, some 111],
        ((run st v).glue 0).settings = some theGlue ∧ ((run st v).glue 0).state = st ∧ ((run st v).glue 0).lastValid = v ∧
          (run st v).chooseTarget 0 theGlue = 100 ∧ ((run st v).glue 0).target ≠ 100) ∧
      (90 ≤ 100 + theGlue.tolerance ∧ 100 ≤ 90 + theGlue.tolerance) ∧ ¬(100 ≤ 89 + theGlue.tolerance) := by decide +kernel

/-- GS1 keeps its span, opens one at a fault, and closes one where it arrives, by a reading and by a new target. -/
theorem test_met_GapReadings_spans :
    let s (st : GlueState) (span : Option Nat) : State := glued 0 (fun g => { g with span := span }) (pasted st 120)
    let after (t : State) (c : Instr) : Option Nat :=
      match exec c t with
      | .next u => (u.glue 0).span
      | _ => none
    let moved : State := graded (booked [{ theOrder .running with grade := 3 }] (glued 0 (fun g => { g with lastValid := some 100 }) (s .moving (some 3))))
    after (s .moving none) (.moveTimerExpiry 0) = some 0 ∧ after (s .moving (some 3)) (.moveTimerExpiry 0) = some 3 ∧
      after (s .moving (some 3)) (.gapReading 0 (.valid 109)) = some 3 ∧ after (s .moving (some 3)) (.gapReading 0 (.valid 110)) = none ∧
      after (s .inPosition none) (.gapReading 0 .absent) = some 0 ∧ (moved.glue 0).span = some 3 ∧
      ((moved.evalGlue 0).glue 0).span = none := by decide +kernel

theorem test_met_KeepWet :
    let k (m : Option Nat) : GlueStation := (glued 0 (fun g => { g with settings := some theGlue, keepWet := m }) State.reset).glue 0
    (k none).keepWet = none ∧ (k (some 2)).keepWet = some 2 ∧ (k (some 1)).keepWet = some 1 ∧ (k (some 0)).settings = some theGlue := by
  decide +kernel

/-- Zone 1 and GS1 set, the line at a stop of ten samples whose keep-wet counter runs; in PARK and out of it. -/
theorem test_met_KeepWet_advance :
    let s : State :=
      let t := zoned 0 (fun z => { z with settings := some theZone }) (glued 0 (fun g => { g with keepWet := some 5 }) (pasted .inPosition 120))
      { t with bnd := { t.bnd with zeroSpeed := 10 } }
    ((s.zone 0).settings ≠ none ∧ (s.zone 1).settings = none ∧ s.lsv.line ≠ .park ∧ (atLine .park s).lsv.line = .park) ∧
      (s.bnd.zeroSpeed = 10 ∧ State.reset.bnd.zeroSpeed ≠ 10 ∧ (s.bondLineAdvance.glue 0).keepWet = none) ∧
      ((s.glue 0).settings = some theGlue ∧ (s.glue 0).state ≠ .off ∧ (s.glue 1).settings = none ∧ (s.glue 1).state = .off ∧
        ((atLine .park s).bondLineAdvance.glue 0).target = theGlue.parkGap) := by decide +kernel

theorem test_met_SetGrade :
    let s := built 1 State.reset
    s.serves ∧ (∃ o ∈ (booked [theOrder .done] s).obk.orders, o.grade = 0) ∧ ¬(∃ o ∈ s.obk.orders, o.grade = 31) ∧
      s.glueInUse 0 = true ∧ s.glueInUse 1 = false ∧ (1200 ≤ 2000 ∧ 5 ≤ 5 ∧ 5 ≤ 400 ∧ 50 ≤ 600) ∧ ¬(50 ≤ 49) := by
  unfold State.serves; decide +kernel

theorem test_met_BondSettings :
    let s := State.reset
    s.serves ∧ s.lsv.line = .setup ∧ (atLine .run s).lsv.line ≠ .setup ∧ (s.zone 0).enabled = false ∧ ((heated .low).zone 0).enabled = true ∧
      (heated .low).lsv.line = .setup ∧ (0 < 119999 ∧ 1 ≤ 12 ∧ 10 ≤ 300 ∧ 20 ≤ 20 ∧ 16 = (15 : OutputId).val + 1) ∧ ¬(120000 ≤ 119999) ∧
      (s.zone 0).settings = none ∧
      ((zoned 0 (fun z => { z with settings := some theZone }) s).zone 0).settings ≠ none ∧ ((heated .off).zone 0).state = .off ∧
      ((heated .low).zone 0).state ≠ .off ∧ (50 ≤ 50 ∧ 20 ≤ 20 ∧ 600 ≤ 2000) ∧ ¬(600 ≤ 599) := by
  unfold State.serves; decide +kernel

theorem test_met_SetGlue :
    let s := built 1 State.reset
    s.serves ∧ s.lsv.line = .setup ∧ s.glueInUse 0 = true ∧ s.glueInUse 1 = false ∧ (∀ o : OutputId, s.faulted o = false) ∧
      (s.glue 0).state = .off ∧ ((pasted .lifted 1000).glue 0).state ≠ .off ∧ (700 ≤ 3000 ∧ 30 < 31 ∧ 1 ≠ 16) ∧ ¬(2 ≤ 1) ∧
      (1 = (0 : OutputId).val + 1 ∧ 16 = (15 : OutputId).val + 1) := by
  unfold State.serves; decide +kernel

/-! ### Drive outputs and fault inputs -/

/-- Zone 1 in LOW with a demand on output 5, which drives. -/
def heating : State :=
  driven 4 (fun o => { o with mode := .pwm, generator := some 0 }) (zoned 0 (fun z => { z with demand := 1000 }) (heated .low))

theorem test_met_OutputConditions :
    heating.condition 4 = .driving ∧ heating.condition 5 = .idle ∧ (driven 4 (fun o => { o with trip := true }) heating).condition 4 = .tripped ∧
      { heating with dst := { heating.dst with thermal := true } }.condition 4 = .forced := by decide +kernel

theorem test_met_DriveFaultEvents :
    let watched := driven 4 (fun o => { o with passive := true }) (zoned 0 (fun z => { z with demand := 0 }) heating)
    heating.held = false ∧ heating.condition 4 = .driving ∧ (heating.output 4).openLoad = false ∧ heating.condition 5 ≠ .driving ∧
      heating.faulted 4 = false ∧ heating.ownedBy 4 = some (.zone 0) ∧ (heating.zone 0).enabled = true ∧ (heating.zone 0).state ≠ .fault ∧
      watched.condition 4 = .idle ∧ (watched.output 4).mode ≠ .off ∧ (watched.output 4).passive = true ∧
      (watched.output 4).openLoad = false ∧ (0x10#16).getLsbD 4 = true := by decide +kernel

/-- GS1 owns outputs 1 and 2 and drives them. -/
def gluing (st : GlueState) : State :=
  let on (x : Output) : Output := { x with mode := .continuous }
  driven 0 on (driven 1 on (glued 0 (fun g => { g with levelA := .high, levelB := .low }) (pasted st 120)))

theorem test_met_DriveFaultEvents_glue :
    (∀ st ∈ [GlueState.moving, .inPosition, .fault], (gluing st).condition 0 = .driving ∧ (gluing st).faulted 0 = false ∧
      (gluing st).ownedBy 0 = some (.sideA 0) ∧ (gluing st).ownedBy 1 = some (.sideB 0) ∧ ((gluing st).glue 0).state = st) ∧
      ((gluing .off).glue 0).state = .off ∧ (gluing .off).ownedBy 0 = some (.sideA 0) := by decide +kernel

/-- Zone 1 and GS1 in the states given, their outputs their own. -/
def owning (z : ZoneState) (on : Bool) (g : GlueState) : State :=
  zoned 0 (fun x => { x with settings := some theZone, enabled := on, state := z })
    (driven 4 (fun o => { o with mode := .pwm, generator := some 0 }) (gluing g))

/-- Outputs tripped. -/
def tripping (os : List OutputId) (s : State) : State := os.foldl (fun t o => driven o (fun x => { x with trip := true }) t) s

/-- `FaultReported` as a Bool. -/
def reported (old new : State) (w : Owner) : Bool :=
  (allIds 16).any fun o => decide (new.ownedBy o = some w) && new.faulted o && !(decide (old.ownedBy o = some w) && old.faulted o)

theorem reported_iff (old new : State) (w : Owner) : reported old new w = true ↔ FaultReported old new w := by
  simp [reported, FaultReported, allIds, and_assoc, imp_iff_not_or]

/-- A zone told while it heats, in FAULT and disabled, a glue station told while it moves, in FAULT and OFF, each told clear, and neither. -/
theorem test_met_OwnersTold :
    ∀ z ∈ [ZoneState.low, .fault], ∀ on ∈ [true, false], ∀ g ∈ [GlueState.moving, .fault, .off],
      let s := owning z on g
      let t := tripping [0, 4] s
      FaultReported s t (.zone 0) ∧ FaultReported s t (.sideA 0) ∧ ¬FaultReported s t (.sideB 0) ∧ ¬FaultReported t s (.zone 0) ∧
        ¬FaultReported s (tripping [0] s) (.zone 0) ∧ ¬FaultReported s s (.sideA 0) ∧ (s.zone 0).state = z ∧ (s.glue 0).state = g := by
  simp only [← reported_iff]; decide +kernel

/-- No span opened, one, and two. -/
theorem test_met_OwnersTold_spans :
    let s := owning .low true .moving
    OpensSpan s (tripping [0, 4] s) (.zone 0) ∧ OpensSpan s (tripping [0, 4] s) (.glue 0) ∧ OpensSpan s (tripping [0] s) (.glue 0) ∧
      ¬OpensSpan s (tripping [0] s) (.zone 0) ∧ OpensSpan s (tripping [4] s) (.zone 0) ∧ ¬OpensSpan s (tripping [4] s) (.glue 0) ∧
      ¬OpensSpan s (tripping [9] s) (.zone 0) ∧ ¬OpensSpan s (tripping [9] s) (.glue 0) := by
  simp only [OpensSpan, GlueFaultReported, ← reported_iff]; decide +kernel

theorem test_met_StageEvents :
    Supply.underRange ≠ heating.dst.supply ∧ heating.dst.thermal = false ∧ heating.dst.warning = false ∧
      { heating with dst := { heating.dst with thermal := true } }.dst.thermal = true := by decide

theorem test_met_FaultInputEvents :
    let s (a : LineAction) : State := wired 1 (fun f => { f with action := a, mask := 1#16 }) (atLine .run State.reset)
    let f (a : LineAction) : FaultInput := (s a).input 1
    (∀ a ∈ [LineAction.none, .hold, .stop, .trip], (true ≠ (f a).level ∧ true = (f a).activeHigh ∧ (f a).latched = false) ∧ (f a).action = a) ∧
      (s .hold).lsv.line = .run ∧ (s .hold).lsv.holds.isEmpty = true ∧ (f .trip).mask.getLsbD 0 = true ∧
      false = (f .none).level ∧ ((wired 1 (fun f => { f with latched := true }) State.reset).input 1).latched = true ∧
      false ≠ ((wired 1 (fun f => { f with level := true }) State.reset).input 1).level := by decide +kernel

theorem test_met_DriveSettings :
    let s := State.reset
    s.serves ∧ s.lsv.line = .setup ∧ (8 = (7 : GenId).val + 1) ∧ (50 ≤ 50 ∧ 50 ≤ 2000 ∧ 49 < 50 ∧ 2000 < 2001) ∧
      (s.input 1).latched = false ∧ ((wired 1 (fun f => { f with latched := true }) s).input 1).latched = true ∧ 65535 < 65536 ∧
      LineAction.trip.ctorIdx = 3 ∧ (s.input 1).level ≠ decide (0 = 0) ∧ (s.input 1).level = decide (1 = 0) := by
  unfold State.serves; decide +kernel

theorem test_met_ClearDriveFaults :
    let s := glued 0 (fun g => { g with settings := some theGlue, state := .fault, timeout := true }) State.reset
    let hold := wired 0 (fun f => { f with latched := true, action := .hold, level := false }) s
    s.serves ∧ (s.glue 0).state = .fault ∧ (s.glue 0).settings ≠ none ∧ (∀ i : InputId, (s.input i).latched = false) ∧
      (hold.input 0).latched = true ∧ (hold.input 0).level = (hold.input 0).activeHigh ∧ (hold.input 0).action = .hold := by
  unfold State.serves; decide +kernel

/-- The recovery of GS1: a cause that remains, no reading, a reading off the target and one that fits it, with a span and without. -/
theorem test_met_ClearDriveFaults_recovery :
    let s (last : Option Nat) (latest : Reading) (span : Option Nat) : State :=
      glued 0 (fun g => { g with timeout := true, lastValid := last, latest := latest, span := span }) (pasted .fault 120)
    let after (t : State) : GlueState × Option Nat :=
      match exec (.clearDriveFaults 1) t with
      | .next u => ((u.glue 0).state, (u.glue 0).span)
      | _ => (.off, none)
    after (glued 0 (fun g => { g with sensor := true }) (s none .invalid (some 3))) = (.fault, some 3) ∧
      after (glued 0 (fun g => { g with sensor := true }) (s (some 110) (.valid 110) (some 3))) = (.inPosition, none) ∧
      after (driven 0 (fun x => { x with trip := true, overCurrent := true })
        (glued 0 (fun g => { g with output := true }) (s (some 110) (.valid 110) (some 3)))) = (.fault, some 3) ∧
      after (s none .invalid (some 3)) = (.moving, some 3) ∧ after (s (some 109) (.valid 109) (some 3)) = (.moving, some 3) ∧
      after (s (some 110) (.valid 110) (some 3)) = (.inPosition, none) ∧ after (s (some 130) .invalid none) = (.inPosition, none) := by
  decide +kernel

/-! ### Slitting, cut-off and stackers -/

theorem test_met_PositioningEvents :
    let s (st : SlitState) (b : Bool) : SlitStation :=
      (slitted 0 (fun g => { g with state := st, inPosition := b, setup := some ⟨5, [0, 1000], []⟩ }) State.reset).slit 0
    ((s .positioning false).inPosition = false ∧ (s .positioning false).state = .positioning) ∧
      ((s .engaged true).inPosition = true ∧ (s .engaged true).state = .engaged) ∧ (s .idle false).state ≠ .positioning ∧
      (s .idle false).state ≠ .ready ∧ (s .idle false).state ≠ .engaged := by decide +kernel

/-- Lane 1 in SHEET mode with base 20000, sheets of 10000 and an open piece, the web at a position. -/
def cutting (line : Nat) (ms : List Mark) : State :=
  marked ms (counted 0 (fun c => { c with c := line })
    (laned 0 (fun l => { l with mode := .sheet, sheetLen := 10000, pieceStart := some 20000, base := some 20000, order := some 5 })
      (laidOut State.reset)))

theorem test_met_CutRules :
    let s := cutting 100000 []
    let scrap (z : Nat) : State := laned 0 (fun l => { l with mode := .scrap, scrapEnd := some z }) s
    let cyc := laned 0 (fun l => { l with cycling := true, skips := 1 }) s
    ((s.lane 0).mode = .sheet ∧ (s.lane 0).base = some 20000 ∧ (∀ m ∈ s.map.marks, m.isChange = true → m.start < 20000)) ∧
      (∀ p ∈ [20000, 24999, 25000, 29999, 30000], (cutting 100000 [endMark p]).map.marks = [] ++ endMark p :: [] ∧ 20000 ≤ p) ∧
      (((scrap 29999).lane 0).mode = .scrap ∧ 29999 - 20000 < 2 * s.dec.scrapLen ∧ 2 * s.dec.scrapLen ≤ 30000 - 20000 ∧
        ((scrap 30000).lane 0).scrapEnd = some 30000) ∧
      s.nextCut 0 = some { pos := 30000, kind := .sheetCut, target := none, incoming := none } ∧
      (30000 + s.dCut ≤ s.linePos ∧ (cutting 99999 []).linePos < 30000 + s.dCut) ∧ (s.lane 0).cycling = false ∧
      (s.lane 0).pieceStart = some 20000 ∧ (cyc.lane 0).cycling = true ∧ 1 ≤ (cyc.lane 0).skips := by decide +kernel

/-- A cut skipped of a sheet in SHEET mode and of a scrap in SCRAP mode, the lane not leaving for IDLE. -/
theorem test_met_CutRules_skipped :
    let s := laned 0 (fun l => { l with cycling := true, sheetPiece := true }) (cutting 100000 [])
    let scrap := laned 0 (fun l => { l with mode := .scrap, scrapEnd := some 40000 }) s
    ((s.nextCut 0).map (·.kind) = some .sheetCut ∧ (scrap.nextCut 0).map (·.kind) = some .scrapCut ∧
      (scrap.nextCut 0).map (·.pos) = some 25000 ∧ 30000 + s.dCut ≤ s.linePos ∧ (s.lane 0).cycling = true) ∧
      ((s.laneAdvance 0).lane 0).mode = .sheet ∧ ((scrap.laneAdvance 0).lane 0).mode = .scrap ∧ (scrap.lane 0).sheetPiece = true := by
  decide +kernel

/-- A joint, an open bond-risk span and a host mark, in that order, each covering one metre or more of web of its own. -/
def flawed : State :=
  marked [{ start := 0, finish := some 10, body := .joint 0 false }, { start := 10000, finish := some 10010, body := .bondRisk (.zone 0) },
    hostMark 20000 20010] State.reset

theorem test_met_CutRules_classes :
    let l := { CutLane.initial with prevReject := true, good := 9, order := some 5, handed := [(5, 9)] }
    let s := { flawed with map := { flawed.map with ra := some 50000 } }
    (∃ r, s.map.ra = some r ∧ r < 50001) ∧ flawed.map.ra = none ∧ (∃ m ∈ flawed.covering 5 9, m.isJoint = true) ∧
      (¬(∃ m ∈ flawed.covering 10000 10005, m.isJoint = true) ∧ ∃ m ∈ flawed.covering 10000 10005, m.isBond = true) ∧
      (¬(∃ m ∈ flawed.covering 20000 20005, m.isJoint = true ∨ m.isBond = true) ∧ ∃ m ∈ flawed.covering 20000 20005, m.isHost = true) ∧
      flawed.covering 30000 32999 = [] ∧ l.prevReject = true ∧ 32999 - 30000 < flawed.dec.gateSwitch ∧
      flawed.dec.gateSwitch ≤ 33000 - 30000 ∧ l.required 5 = some 9 ∧ 9 ≤ l.good := by
  refine ⟨⟨50000, by decide +kernel⟩, ?_⟩; decide +kernel

/-- Order 5 RUNNING in the book with its makeup limit, its end mark placed. -/
def making (limit e : Nat) (st : EndStatus) : State :=
  let s := booked [{ theOrder .running with makeupLimit := limit, endPos := e }] (cutting 100000 [endMark e])
  { s with obk := { s.obk with endStatus := st } }

theorem test_met_CutRules_pieces :
    let s := laned 0 (fun l => { l with sheetPiece := true }) (making 3 100000 .unlocked)
    let l := s.lane 0
    let bad := marked [{ start := 0, finish := some 99999, body := .joint 0 false }] s
    let p : Piece := { tag := 5, start := 20000, finish := 30000, cls := .good, layers := 1 }
    (l.pieceStart = some 20000 ∧ l.sheetPiece = true ∧ l.order = some 5 ∧ s.sheetClass l 20000 30000 = .good ∧
      bad.sheetClass (bad.lane 0) 20000 30000 = .splice ∧ (State.reset.lane 0).order = none ∧ (cutting 0 []).lane 0 = { l with sheetPiece := false }) ∧
    ((s.queue 0).unjudged ++ [p] = p :: [] ∧ p.tag ≠ 0 ∧ s.tally 5 0 = some Tally.empty) ∧
    (let o (n : Nat) : Order := { theOrder .running with makeupLimit := 3, endPos := n }
     let r : Order := { o 0 with runs := (o 0).runs.set 0 { (o 0).runs[0] with makeup := 1 } }
     s.findOrder 5 = some (o 100000) ∧ ((o 0).lane 0).isSome = true ∧ ((o 0).lane 1) = none ∧ s.findOrder 9 = none ∧
       (o 0).runs[0].makeup < 3 ∧ s.obk.endStatus = .unlocked ∧ (o 0).cancelled = false ∧
       (109999 < r.start + r.runLength ∧ r.start + r.runLength ≤ 110000) ∧ (making 0 0 .pending).obk.endStatus = .pending ∧
       ¬((o 0).runs[0].makeup < 0) ∧ s.map.marks = [] ++ endMark 100000 :: [] ∧ (endMark 100000).isUnlockedChange = true) := by decide +kernel

/-- The claims of an idle lane, a lane with no base, a lane in SCRAP and a lane in SHEET with the change lead at its first and last metre. -/
theorem test_met_CutRules_claims :
    let s (ms : List Mark) : State := cutting 100000 ms
    let lead := State.reset.dec.changeLead
    let lane (m : LaneMode) (b : Option Nat) : State := laned 0 (fun l => { l with mode := m, base := b }) (s [])
    let claims (t : State) (mm : Nat) : Prop := t.knifeClaim 0 = some (min 400 (mm * t.dec.rates[(0 : LaneId)] / 10000))
    (((lane .idle none).lane 0).mode = .idle ∧ ((lane .sheet none).lane 0).base = none ∧ ((lane .scrap (some 20000)).lane 0).mode = .scrap) ∧
      claims (lane .scrap (some 20000)) State.reset.dec.scrapLen ∧
      (∀ p ∈ [20000, 20000 + lead], (s [endMark p]).map.marks = [] ++ endMark p :: [] ∧ (endMark p).isChange = true ∧ 20000 ≤ p ∧
        p ≤ 20000 + lead ∧ claims (s [endMark p]) State.reset.dec.scrapLen) ∧
      claims (s [endMark (20001 + lead)]) 10000 ∧ ((s [endMark 25000]).nextCut 0).map (·.kind) = some .scrapCut ∧
      ((s []).nextCut 0).map (·.kind) = some .sheetCut ∧ ((s []).lane 0).base = some 20000 := by decide +kernel

theorem test_met_CutRules_moveEnd :
    let o : Order := { theOrder .running with endPos := 100000 }
    let t := (making 3 100000 .unlocked).moveEnd o 110000
    let m : Mark := { endMark 110000 with finish := some (110000 + State.reset.zc) }
    (110000 ≠ o.endPos ∧ (making 3 100000 .unlocked).obk.endStatus = .unlocked ∧ (making 3 100000 .pending).obk.endStatus ≠ .unlocked) ∧
      ((making 3 100000 .unlocked).lane 0).mode = .sheet ∧ ((making 3 100000 .unlocked).lane 0).base = some 20000 ∧
      t.map.marks = [] ++ m :: [] ∧ m.isUnlockedChange = true ∧ 20000 ≤ m.start ∧
      ((making 3 100000 .unlocked).lane 1).mode ≠ .sheet := by decide +kernel

theorem test_met_CutRules_modes :
    let s := making 3 100000 .unlocked
    let scrap (order : Option Nat) : State := laned 0 (fun l => { l with mode := .scrap, scrapEnd := some 40000, order := order }) s
    let idle (locked : Bool) (next : Option Nat) (line : Nat) : State :=
      marked [⟨30000, some 40000, .orderChange 4 next locked⟩] (counted 0 (fun c => { c with c := line })
        (laned 0 (fun l => { l with mode := .idle, order := none, base := none, pieceStart := none, resume := some 30000 }) s))
    ((s.lane 0).mode = .sheet ∧ (s.lane 0).order = some 5 ∧ s.tally 5 0 = some Tally.empty ∧ 30000 < 30000 + s.zc ∧
      (∃ o l, s.findOrder 5 = some o ∧ o.lane 0 = some l)) ∧
    (((scrap (some 5)).lane 0).mode = .scrap ∧ ((scrap (some 5)).lane 0).scrapEnd = some 40000 ∧ ((scrap none).lane 0).order = none ∧
      (scrap (some 9)).findOrder 9 = none) ∧
    (((idle true (some 5) 0).lane 0).mode = .idle ∧ ((idle true (some 5) 0).lane 0).resume = some 30000 ∧
      (idle true (some 5) 0).map.marks = [] ++ ⟨30000, some 40000, .orderChange 4 (some 5) true⟩ :: [] ∧
      (idle true (some 5) 109999).linePos < 30000 + s.zc + s.dCut ∧ 30000 + s.zc + s.dCut ≤ (idle true (some 5) 110000).linePos ∧
      (idle true none 0).map.marks = [] ++ ⟨30000, some 40000, .orderChange 4 none true⟩ :: [] ∧ s.zc = 10000) := by
  refine ⟨⟨by decide +kernel, by decide +kernel, by decide +kernel, by decide +kernel, ⟨_, ⟨1000, 1, 10, 10⟩, rfl, rfl⟩⟩, ?_⟩
  decide +kernel

def stack (st : StackerState) (ready : Bool) (n : Nat) : State :=
  stacked 0 (fun x => { x with
    state := st, tag := some 5, count := 10, conveyorReady := ready, holdback := [5, 5]
    records := List.replicate n { tag := 5, number := 1, layers := 10, partialFlag := false, mismatch := false } }) State.reset

theorem test_met_EjectEvents :
    let x (st : StackerState) (ready : Bool) : Stacker := (stack st ready 0).stacker 0
    ((x .offered false).conveyorReady = false ∧ (x .offered false).state = .offered) ∧ (x .ejecting false).state = .ejecting ∧
      (x .ejecting false).ejectDone = false ∧ (x .fault false).state = .fault ∧ (x .fault false).tag = some 5 ∧
      (x .fault false).holdback = 5 :: [5] ∧ (State.reset.stacker 0).holdback = [] ∧ (x .due false).state ≠ .offered ∧
      (x .due false).state ≠ .ejecting := by decide +kernel

/-- Order 5 DRAINING, its lane 1 ended with nothing in the queue, and a stacker 1 as given. -/
def draining (f : Tally → Tally) (t : State) : State :=
  booked [{ theOrder .draining with runs := (theOrder .draining).runs.map fun r => { r with tally := f r.tally } }] t

theorem test_met_EjectEvents_layers :
    let s (st : StackerState) : State := draining id (stack st false 0)
    let full := stacked 0 (fun x => { x with holdback := List.replicate 60 5 }) (s .due)
    let bare := stacked 0 (fun x => { x with tag := none, holdback := [] }) (s .stacking)
    ((s .stacking).stacker 0).state = .stacking ∧ ((s .stacking).stacker 0).tag = some 5 ∧ (bare.stacker 0).tag = none ∧
      (∃ o r, (s .stacking).findOrder 5 = some o ∧ o.lane 0 = some r ∧ r.height = 10) ∧ (5 ≠ 6) ∧
      ((s .due).stacker 0).state ≠ .stacking ∧ ((s .due).stacker 0).holdback.length < 60 ∧ 60 ≤ (full.stacker 0).holdback.length ∧
      (s .due).tally 5 0 = some Tally.empty := by
  refine ⟨by decide +kernel, by decide +kernel, by decide +kernel, ⟨_, ⟨1000, 1, 10, 10⟩, rfl, rfl, rfl⟩, ?_⟩
  decide +kernel

/-- The head run of a holdback: at the stack height and beyond it, below it with another order behind, below it alone, and of an order that
is not in the book. -/
theorem test_met_EjectEvents_refill :
    let s (l : List Nat) : State := draining id (stacked 0 (fun x => { x with holdback := l }) (stack .ejecting false 0))
    let taken (l : List Nat) (h : Nat) : Nat :=
      let run := (((s l).stacker 0).holdback.takeWhile fun y => y = h).length
      ((((s l).findOrder h).bind fun o => o.lane 0).map fun r => min r.height run).getD run
    taken (List.replicate 10 5) 5 = 10 ∧ taken (List.replicate 12 5) 5 = 10 ∧ taken [5, 5, 6] 5 = 2 ∧ taken [5, 5] 5 = 2 ∧
      taken [9, 9] 9 = 2 ∧ ((s [5]).stacker 0).state = .ejecting ∧ ((s [5]).stacker 0).ejectDone = false ∧
      ((s [5]).stacker 0).tag = some 5 ∧ (s [5]).tally 5 0 = some Tally.empty ∧ Tally.empty.drained = false ∧
      (s [9]).findOrder 9 = none := by decide +kernel

theorem test_met_EjectEvents_gates :
    let piece (c : PieceClass) (tag : Nat) : Piece := { tag := tag, start := 10000, finish := 20000, cls := c, layers := 1 }
    let s (p : Piece) : State :=
      let t := draining id (counted 0 (fun c => { c with c := 110000 }) (laidOut State.reset))
      { t with dec := { t.dec with queues := #v[{ accepted := [p], unjudged := [p] }, { accepted := [], unjudged := [] }] } }
    (∀ p ∈ [piece .good 5, piece .splice 5, piece .changeScrap 0],
      ((s p).queue 0).unjudged = p :: [] ∧ ((s p).queue 0).accepted = p :: [] ∧ p.finish + (s p).dRej ≤ (s p).linePos ∧
        p.finish + (s p).dStk 0 ≤ (s p).linePos) ∧
      (s (piece .good 5)).linePos < 30001 + (s (piece .good 5)).dRej ∧ (s (piece .good 5)).linePos < 20001 + (s (piece .good 5)).dStk 0 ∧
      (s (piece .good 5)).tally 5 0 = some Tally.empty := by decide +kernel

theorem test_met_EjectEvents_drained :
    let ended := draining (fun t => { t with laneEnd := true }) (stack .stacking false 0)
    let gone := draining (fun t => { t with laneEnd := true, drained := true }) State.reset
    let o := { theOrder .draining with runs := (theOrder .draining).runs.map fun r => { r with tally := { Tally.empty with laneEnd := true, drained := true } } }
    (ended.tally 5 0 = some { Tally.empty with laneEnd := true } ∧ (ended.stacker 0).state = .stacking ∧ (ended.stacker 0).tag = some 5 ∧
      0 < (ended.stacker 0).count ∧ (State.reset.stacker 0).tag ≠ some 5) ∧
    (gone.tally 5 0 = some { Tally.empty with laneEnd := true, drained := true } ∧ 5 ∉ (gone.stacker 0).holdback) ∧
    (gone.findOrder 5 = some o ∧ o.phase = .draining ∧ o.lane2 = none ∧ (theOrder .running).phase ≠ .draining ∧
      State.reset.findOrder 5 = none ∧ ¬(0 < o.runs[0].short ∨ 0 < o.runs[1].short)) := by decide +kernel

theorem test_met_DryEndCommands :
    let s := State.reset
    let g := slitted 0 (fun g => { g with state := .fault, setup := some ⟨5, [0, 1000], []⟩ }) s
    s.serves ∧ s.lsv.line = .setup ∧ (300 ≤ 1000 ∧ 1 ≤ 8 ∧ 2000 ≤ 2000 ∧ 50 ≤ 500 ∧ 100 ≤ 100 ∧ 5 ≤ 120) ∧ ¬(121 ≤ 120) ∧
      (g.slit 0).state = .fault ∧ (g.slit 0).setup = some ⟨5, [0, 1000], []⟩ ∧ (s.slit 0).state ≠ .fault ∧
      (10 ≤ 50 ∧ 5 ≤ 400 ∧ 2 ≤ 60 ∧ 5 ≤ 5) ∧ ¬(6 ≤ 5) ∧ ((stack .stacking false 16).stacker 0).records.length = 16 ∧
      ((stack .stacking true 15).stacker 0).records.length < 16 ∧ 0 < ((stack .stacking true 15).stacker 0).count ∧
      ((stack .due true 16).stacker 0).state = .due ∧ (((stack .due true 16).stacker 0).records.drop 1).length < 16 ∧
      ((stack .fault true 0).stacker 0).conveyorReady = true := by
  unfold State.serves; decide +kernel

/-! ### The Line Supervisor -/

/-- Entry to RUN with a station that arms, entry to STOPPING and HALTED with one that aborts, PARK entered and left, and a glue station that
arrives as PARK is left. -/
theorem test_met_LineChange :
    let ready (n : Nat) (p : SplicePhase) : State :=
      let s := atLine .ready (splicing p (some n) none)
      { s with lcu := { s.lcu with measured := 1 } }
    let parked : State :=
      graded (booked [{ theOrder .running with grade := 3 }]
        (atLine .park (glued 0 (fun g => { g with lastValid := some 100, span := some 3 }) (pasted .moving 1000))))
    (∀ n ∈ [1, 200000, 200001, 1000000], ∀ l ∈ [LineState.run, .hold],
      let e := atLine l (ready n .standby)
      e.spliceInUse 0 = true ∧ (e.splice 0).phase = .standby ∧ 0 < e.lcu.measured ∧
        (e.splice 0).settings = some { theSplice with reelLow := 300000 } ∧ (e.splice 0).activeReel = some { theReel with remaining := n } ∧
        n ≤ theSplice.arm) ∧
      (((ready 5 .matching).splice 0).phase = .matching ∧ ((ready 5 .matched).splice 0).phase = .matched ∧
        ((ready 5 .suspect).splice 0).phase ≠ .matching) ∧
      ((parked.zone 0).settings = none ∧ (parked.glue 0).settings = some theGlue ∧ (parked.glue 0).state ≠ .off ∧
        (parked.glue 0).span ≠ none ∧ ((parked.changeLine .ready).glue 0).span = none ∧ parked.lsv.line = .park ∧
        ((pasted .moving 1000).glue 1).span = (((pasted .moving 1000).changeLine .park).glue 1).span) := by decide +kernel

theorem test_met_StopAndHoldCauses :
    let rec' : StopRecord :=
      { active := true, ruling := some .hostStop, detail := none, position := none, latest := .hostStop, latestDetail := none, count := 1 }
    let s (l : LineState) : State := { atLine l State.reset with lsv := { (atLine l State.reset).lsv with stopRec := some rec' } }
    (∀ l, (s l).lsv.line = l ∧ (s l).lsv.stopRec = some rec') ∧ State.reset.lsv.stopRec = none ∧
      State.reset.lsv.holds.has .linkStale = false ∧
      ({ State.reset with lsv := { State.reset.lsv with holds := State.reset.lsv.holds.put .linkStale true } }).lsv.holds.has .linkStale = true :=
  ⟨fun _ => ⟨rfl, rfl⟩, rfl, rfl, rfl⟩

theorem test_met_SpeedTarget :
    let s := State.reset
    (s.setEntry .bond (some 5)).lsv.ceiling.limiting = s.lsv.ceiling.limiting ∧
      (s.setEntry .stop none).lsv.ceiling.limiting = s.lsv.ceiling.limiting ∧
      ((s.setEntry .request (some 9)).lsv.ceiling.limiting ≠ s.lsv.ceiling.limiting) := by decide +kernel

theorem test_met_AckHalt :
    let s := wired 0 (fun f => { f with level := true }) (atLine .halted State.reset)
    let trips (t : State) : List InputId :=
      (allIds 4).filter fun i => decide ((t.input i).level = (t.input i).activeHigh) && decide ((t.input i).action = .trip)
    s.serves ∧ s.lsv.line = .halted ∧ trips s = [] ∧ s.lcu.measured = 0 ∧
      trips (wired 0 (fun f => { f with level := false }) s) ≠ [] ∧ State.reset.lsv.line ≠ .halted := by
  unfold State.serves; decide +kernel

/-- A line ready for Commit: one web, distances and width set, its splice and glue stations set with outputs of their own. -/
def configured : State :=
  let s := laidOut (built 1 State.reset)
  let set (x : SpliceStation) : SpliceStation := { x with settings := some theSplice }
  let t := spliced 0 set (spliced 1 set (spliced 6 set s))
  let u := glued 0 (fun g => { g with settings := some theGlue, state := .inPosition, target := 100 })
    (glued 3 (fun g => { g with
      settings := some { theGlue with outA := 2, outB := 3, channel := 4, rollRun := 4 }, state := .inPosition, target := 120 }) t)
  let on (x : Output) : Output := { x with mode := .continuous }
  driven 0 on (driven 1 on (driven 2 on (driven 3 on u)))

/-- The hypothesis `good` of Commit, and what Park and Unpark ask. -/
theorem test_met_CommitAndPark :
    let s := configured
    let r := atLine .ready s
    (s.serves ∧ s.lsv.line = .setup ∧ s.lcu.walls ≠ none ∧ s.lcu.width ≠ 0 ∧ firstFailing (geometryChecks s.lcu.geometry) = none ∧
      (∀ i : CounterId, (s.counter i).faulted = false) ∧ (∀ i : SpliceId, s.spliceInUse i = true → (s.splice i).settings ≠ none) ∧
      (∀ n : ZoneId, (s.zone n).settings = none) ∧ (∀ k : GlueId, s.glueInUse k = true ↔ (s.glue k).settings ≠ none) ∧
      ((s.glue 0).settings.map fun g => (g.channel, g.rollRun)) = some (1, 1) ∧
      ((s.glue 3).settings.map fun g => (g.channel, g.rollRun)) = some (4, 4) ∧
      ∀ o : OutputId, s.ownerStatus o ≠ .conflict ∧ s.ownerStatus o ≠ .modeMismatch) ∧
    (r.lsv.line = .ready ∧ (∀ i : SpliceId, (r.splice i).phase = .idle) ∧ (∀ i : SlitId, (r.slit i).state ≠ .positioning) ∧
      (∀ j : StackerId, (r.stacker j).state = .stacking ∧ (r.stacker j).holdback = []) ∧ r.obk.orders = [] ∧
      (∀ n : ZoneId, (r.zone n).span = none ∧ r.lostSpan (.zone n) = false) ∧
      (∀ k : GlueId, (r.glue k).span = none ∧ r.lostSpan (.glue k) = false) ∧ (r.glue 0).settings = some theGlue ∧
      (r.glue 0).state ≠ .off ∧ ((heated .low).zone 0).settings ≠ none) ∧
    ((atLine .park s).lsv.line = .park ∧ State.reset.lcu.walls = none ∧
      ¬((slitted 0 (fun g => { g with state := .positioning }) r).slit 0).state ≠ .positioning) := by
  unfold State.serves; decide +kernel

/-- Ready to start: configured, the start flag clear, an order STAGED with its setup READY. -/
def startable : State :=
  let s := booked [theOrder .staged] (atLine .ready configured)
  { s with lsv := { s.lsv with startFlag := false } }

theorem test_met_StartAndStop :
    let s := startable
    let t := theOrder .staged
    s.serves ∧ s.lsv.line = .ready ∧ s.lsv.startFlag = false ∧ (∀ i : InputId, (s.input i).latched = false) ∧ s.stagedOrder = some t ∧
      t.setup = .ready ∧ s.runningOrder = none ∧ (∀ k : GlueId, s.glueInUse k = true → (s.glue k).state = .inPosition) ∧
      t.station = some 0 ∧ (t.lane 0).isSome = true ∧ (t.lane 1).isSome = false ∧
      (booked [theOrder .running] s).runningOrder ≠ none ∧ State.reset.lsv.startFlag = true ∧ (atLine .run s).lsv.line = .run ∧
      (atLine .stopping s).lsv.line = .stopping := by
  unfold State.serves; decide +kernel

theorem test_met_StartAndStop_restart :
    let s := startable
    let z (d : Nat) : ZoneSettings := { theZone with dOut := d }
    let two := zoned 1 (fun x => { x with settings := some (z 9) }) (zoned 0 (fun x => { x with settings := some (z 10) }) s)
    (∀ n : ZoneId, (s.zone n).settings = none) ∧ (two.zone 0).settings = some (z 10) ∧
      (∀ m : ZoneId, ((two.zone m).settings.map (·.dOut)).getD 0 ≤ 10) ∧ (∀ x ∈ s.obk.orders, x.phase ≠ .queued) := by decide +kernel

/-- A first start runs the order, and the line enters RUN. -/
theorem test_first_start :
    (match exec (.startLine 1 400) startable with
      | .next t => (t.lsv.line, t.lsv.ceiling.request, (t.lane 0).mode, (t.lane 0).scrapEnd, t.runningOrder.map (·.start))
      | _ => (.setup, 0, .idle, none, none)) = (.run, 400, .scrap, some 10000, some 10000) := by decide +kernel

theorem test_met_SpeedTarget_commands :
    let s := State.reset
    s.serves ∧ 400 < 401 ∧ (1 ≤ 100 ∧ 5 ≤ 60) ∧ ¬(5 ≤ 4) ∧ (atLine .hold s).lsv.line = .hold := by
  unfold State.serves; decide +kernel

theorem test_met_AckStartAndRestart :
    let s := atLine .halted State.reset
    let held := wired 1 (fun f => { f with latched := true, action := .hold }) s
    s.serves ∧ s.lsv.line ≠ .run ∧ s.lsv.line ≠ .hold ∧ s.lsv.line ≠ .stopping ∧ (atLine .stopping s).lsv.line = .stopping ∧
      (held.input 1).latched = true ∧ (held.input 1).action = .hold := by
  unfold State.serves; decide +kernel

/-- Restart with zone 1 the owner of output 5, which is free of faults or TRIPPED: the zone's OUTPUT cause. -/
theorem test_met_AckStartAndRestart_zone :
    let s (trip : Bool) : State :=
      zoned 0 (fun z => { z with settings := some theZone, output := !trip })
        (driven 4 (fun x => { x with mode := .pwm, generator := some 0, trip := trip }) (atLine .halted State.reset))
    let after (trip : Bool) : Option Bool :=
      match exec (.restart 1) (s trip) with
      | .next u => some (u.zone 0).output
      | _ => none
    (s true).ownedBy 4 = some (.zone 0) ∧ (s true).faulted 4 = true ∧ (s false).faulted 4 = false ∧
      after true = some true ∧ after false = some false := by
  decide +kernel

/-- Restart with GS1 set and in use, in HALTED and in PARK: a faulted output of its pair, and gaps at and beyond its tolerance. -/
theorem test_met_AckStartAndRestart_glue :
    let s (gap : Nat) : State :=
      atLine .halted (glued 0 (fun g => { g with latest := .valid gap, rules := theGlue.moveRules }) configured)
    let trip (o : OutputId) : State := driven o (fun x => { x with trip := true }) (s 100)
    ((s 100).glueInUse 0 = true ∧ ((s 100).glue 0).settings = some theGlue ∧ (s 100).faulted 0 = false ∧ (s 100).faulted 1 = false) ∧
      ((trip 0).faulted 0 = true ∧ (trip 1).faulted 1 = true) ∧
      (∀ v ∈ [90, 110], v ≤ ((s v).glue 0).target + ((s v).glue 0).rules.tolerance ∧
        ((s v).glue 0).target ≤ v + ((s v).glue 0).rules.tolerance ∧ ((s v).glue 0).latest = .valid v) ∧
      (¬111 ≤ ((s 111).glue 0).target + ((s 111).glue 0).rules.tolerance ∧
        ¬((s 89).glue 0).target ≤ 89 + ((s 89).glue 0).rules.tolerance) ∧
      (((s 100).glue 2).settings = none ∧ ((s 100).glue 2).state = .off) ∧
      (let t := atLine .park (glued 0 (fun g => { g with target := 1000, state := .lifted }) (s 1000))
       let b : State := State.evalBonds { t with lsv := { t.lsv with line := .setup } }
       t.lsv.line = .park ∧ (b.glue 0).target = 1000 ∧ (b.glue 0).latest = .valid 1000 ∧ (b.glue 0).settings = some theGlue) := by
  decide +kernel

/-! ### The Link Port -/

/-- The frame of an Identify with tag 1: its tag, its code, its length and its check. -/
def identifyFrame : List Byte := frameBody 1 0xF1 []

theorem test_met_ReceiverTakes :
    let got := identifyFrame.take 5
    let bs := got ++ [identifyFrame.getD 5 0#8]
    (State.reset.lnk.rxLine = .up ∧ State.reset.lnk.receiver = .hunt ∧ (0x2C#8 : Byte) ≠ 0x1C#8) ∧
      (linked (fun l => { l with receiver := .collect got }) State.reset).lnk.receiver = .collect got ∧
      (linked (fun l => { l with rxLine := .inBreak }) State.reset).lnk.rxLine ≠ .up ∧
      (bs.length = 6 + (bs.getD 3 0#8).toNat ∧ 4 ≤ bs.length ∧ (bs.getD 3 0#8).toNat ≤ 240) ∧
      (crc (bs.take 4)).toNat = 256 * (bs.getD 4 0#8).toNat + (bs.getD 5 0#8).toNat ∧
      (crc (bs.take 4)).toNat ≠ 256 * ((got ++ [1#8]).getD 4 0#8).toNat + ((got ++ [1#8]).getD 5 0#8).toNat ∧ got.length < 6 + 0 ∧
      240 < (241#8 : Byte).toNat ∧ State.reset.lnk.cmdQueue.length < 4 ∧
      4 ≤ (linked (fun l => { l with cmdQueue := replies 4 }) State.reset).lnk.cmdQueue.length := by decide +kernel

/-- A valid frame in HOLD, with LINK_STALE the one hold cause and with another beside it. -/
theorem test_met_ReceiverTakes_heard :
    let s (x : HoldSet) : State :=
      let t := linked (fun l => { l with receiver := .collect (identifyFrame.take 5), expiries := 1 }) (atLine .hold State.reset)
      { t with lsv := { t.lsv with holds := x } }
    let line (x : HoldSet) : LineState :=
      match exec (.receiveCharacter false (identifyFrame.getD 5 0#8) true) (s x) with
      | .next t => t.lsv.line
      | _ => .setup
    let stale : HoldSet := { HoldSet.empty with linkStale := true }
    (s stale).lsv.line = .hold ∧ (stale.put .linkStale false).isEmpty = true ∧ line stale = .run ∧
      ({ stale with webCounter := true }.put .linkStale false).isEmpty = false ∧ line { stale with webCounter := true } = .hold ∧
      line HoldSet.empty = .hold := by decide +kernel

theorem test_met_LineBreaks :
    State.reset.held = false ∧ State.reset.lnk.rxLine = .up ∧ State.reset.lnk.receiver = .hunt ∧
      (linked (fun l => { l with receiver := .collect [] }) State.reset).lnk.receiver = .collect [] ∧
      (linked (fun l => { l with rxLine := .ignored }) State.reset).lnk.rxLine ≠ .up := by decide

theorem test_met_QueueAndTransmit :
    let e : NoticeEntry := .partStarted .powerOn
    let s := linked (fun l => { l with cmdQueue := [⟨1, 0xF1, []⟩] }) State.reset
    (State.reset.lnk.cmdQueue = [] ∧ s.lnk.cmdQueue = ⟨1, 0xF1, []⟩ :: [] ∧ s.lnk.replyQueue.length < 4) ∧
      decodeCommand 1 0xF1 [] = .ok (.identify 1) ∧ decodeCommand 1 0x00 [] = .error .unknown ∧
      decodeCommand 1 0xF1 [0#8] = .error .malformed ∧ 0x00 ∉ commandCodes ∧ 0xF1 ∈ commandCodes ∧ s.lnk.sending = none ∧
      State.reset.lnk.notices = [] ++ e :: [] ∧
      (linked (fun l => { l with sending := some (.notice e 0) }) State.reset).lnk.sending = some (.notice e 0) := by decide +kernel

theorem test_met_SilenceMonitor :
    let s := atLine .run State.reset
    let t := linked (fun l => { l with expiries := 1 }) s
    s.serves ∧ s.held = false ∧ s.lsv.line = .run ∧ s.lnk.timeout ≠ 0 ∧ s.lnk.expiries = 0 ∧ s.lsv.holds.isEmpty = true ∧
      t.lnk.expiries ≠ 0 ∧ State.reset.lsv.line ≠ .run ∧ (4 < 5 ∧ 300 < 301 ∧ 5 ≤ 300) := by
  unfold State.serves; decide +kernel

theorem test_met_NoticeTable :
    let e : NoticeEntry := .partStarted .powerOn
    let low : NoticeEntry := { kind := .linkError, subject := ⟨.link, 0⟩, count := 1, detail := [] }
    (∀ x ∈ State.reset.lnk.notices, ¬(x.kind = .mapFull ∧ x.subject = ⟨.map, 0⟩)) ∧ State.reset.lnk.notices = [] ++ e :: [] ∧
      (State.reset.lnk.sending = none ∧ State.reset.lnk.cts = true ∧ State.reset.lnk.replyQueue = []) ∧
      (linked (fun l => { l with replyQueue := replies 1 }) State.reset).lnk.replyQueue = ⟨1, 1, []⟩ :: [] ∧
      (linked (fun l => { l with sending := some (.notice e 254) }) State.reset).lnk.sending = some (.notice e 254) ∧
      (∀ y ∈ [low], e.kind.class < y.kind.class) ∧ (∀ y ∈ [low], e.kind.class ≤ y.kind.class) := by decide +kernel

theorem test_met_Reads :
    let s := booked [theOrder .done] (built 1 State.reset)
    s.serves ∧ (127 < 128 ∧ 127 ≤ 127 ∧ 31 < 32 ∧ 31 ≤ 31 ∧ 16 < 17 ∧ 16 ≤ 16 ∧ 31 = (31 : Fin 32).val ∧ 32 ≤ 32) ∧ (0 : WebId).val + 1 ≤ s.walls ∧ s.walls < (1 : WebId).val + 1 ∧
      s.findOrder 5 = some (theOrder .done) ∧ s.findOrder 6 = none ∧ s.spliceInUse 0 = true ∧ s.spliceInUse 2 = false ∧
      s.glueInUse 0 = true ∧ s.glueInUse 1 = false ∧ ((splicing .matching none none).splice 0).phase = .matching ∧
      ((pasted .moving 120).glue 0).state = .moving ∧ ((stack .ejecting true 0).stacker 0).state = .ejecting ∧
      (slitted 0 (fun g => { g with state := .positioning }) s).slit 0 ≠ s.slit 0 := by
  unfold State.serves; decide +kernel

/-! ### Encoding and invariants -/

theorem test_met_DecodeEncodeAgree :
    (Instr.setScale 65535 255 4294967295).wf = true ∧
      (Instr.setScale 65535 255 4294967295).layout = some ⟨65535, 0x10, [(1, 255), (4, 4294967295)]⟩ := by decide +kernel

/-- Every invariant is met by a state that steps: reset with a command in front. -/
theorem test_met_invariants :
    let s := { State.reset with pending := [.identify 1] }
    s.LineOk ∧ s.QueueOk ∧ s.MapOk ∧ s.BookOk := by
  refine ⟨⟨?_, ?_, ?_, ?_, ?_, ?_⟩, ⟨?_, ?_, fun f h => ?_⟩, ⟨?_, ?_, fun m h => ?_, ?_, ?_⟩, ⟨?_, ?_, ?_, ?_, ?_, fun m h => ?_⟩⟩
  all_goals first | decide +kernel | nomatch h

/-- Web 1 with an entry just above X_1, which the next LINE advance, taking 1 from the bridge, transfers. -/
def bridging : State :=
  let s := counted 1 (fun c => { c with c := 9 }) (laidOut (built 1 State.reset))
  { s with
    map := { s.map with bridges := modifyAt s.map.bridges 0 fun b =>
      { b with content := 4, entries := [⟨6, 0, 0, 0, false⟩, ⟨9, 0, 0, 1, false⟩] } }
    pending := [.encoderTransition 0 ⟨true, false⟩] }

theorem test_met_StepKeepsMap_entries :
    bridging.MapOk ∧ bridging.EntriesAhead ∧ bridging.mergeCoord 0 = 5 ∧
      (match step bridging with
        | .next t => (t.mergeCoord 0, (t.bridge 0).entries.map (·.e))
        | _ => (0, [])) = (6, [9]) := by
  refine ⟨⟨?_, ?_, fun m h => ?_, ?_, ?_⟩, (?_ : ∀ k : WebId, ∀ b ∈ (bridging.bridge k).entries, bridging.mergeCoord k < b.e), ?_, ?_⟩
  all_goals first | decide +kernel | nomatch h

/-- The premises of StepKeepsMarksAhead at their bounds, in SETUP and in RUN: a mark that the next LINE advance removes and one that it
leaves, beside an open span and an unlocked end mark, with zone 1 as far upstream as it can stand. -/
theorem test_met_StepKeepsMarksAhead :
    let s (l : LineState) : State :=
      let t := changing [runningTo 200000 false] .unlocked
        [hostMark 0 1, hostMark 0 2, { start := 3, finish := none, body := .bondRisk (.zone 0) }, changeMark 200000]
      { zoned 0 (fun z => { z with settings := some { theZone with dIn := 99999 } }) (atLine l t) with
        pending := [.encoderTransition 0 ⟨true, false⟩] }
    let after (l : LineState) : State :=
      match step (s l) with
      | .next t => t
      | _ => s l
    ∀ l ∈ [LineState.setup, .run],
      (s l).BookOk ∧ (s l).MarksAhead ∧ (s l).zoneIn 0 < (s l).dLast ∧ (∀ n : ZoneId, (s l).zoneIn n < (s l).dLast) ∧
        0 < (s l).obk.deferStep ∧ (s l).dSlit ≤ (s l).dLast ∧ (s l).linePos + 1 = 1 + (s l).dLast ∧
        (after l).lcu.geometry = (s l).lcu.geometry ∧ (after l).linePos = (s l).dLast + 1 ∧
        (after l).map.marks.map (·.start) = [0, 3, 200000] := by
  intro s after l hl
  rcases List.mem_cons.mp hl with rfl | hl
  · exact ⟨⟨by decide +kernel, by decide +kernel, by decide +kernel, by decide +kernel, by decide +kernel, by decide +kernel⟩,
      State.marksAhead_iff.mpr (by decide +kernel), by decide +kernel⟩
  · rcases List.mem_singleton.mp hl with rfl
    exact ⟨⟨by decide +kernel, by decide +kernel, by decide +kernel, by decide +kernel, by decide +kernel, by decide +kernel⟩,
      State.marksAhead_iff.mpr (by decide +kernel), by decide +kernel⟩

/-- A frame received, taken and answered: Identify, through the receiver and the command queue (R163, R167). -/
theorem test_identify_through_the_link :
    (match step { State.reset with
        lnk := { State.reset.lnk with receiver := .collect (identifyFrame.take 5) }
        pending := [.receiveCharacter false (identifyFrame.getD 5 0#8) true, .commandTake] } with
      | .next s =>
        match step s with
        | .next t => t.lnk.replyQueue
        | _ => []
      | _ => []) = [⟨1, 0xF1, [0#8, 0x4F#8, 0x4C#8, 0x54#8, 0x43#8, 0x4C#8, 0x38#8, 0x36#8, 3#8]⟩] := by decide +kernel

end Sys2Proof.Tests
end

section
/-! PROOF. A speed sample, taker by taker (R9, R69 to R71, R77, R97, R154, R158; the order of the takers is log 3). -/

namespace Sys2Proof.Machine

/-! ### The SPLICE entry (R70, R157) -/

@[simp] theorem State.setCeiling_lsv (s : State) (c : Ceiling) : (s.setCeiling c).lsv = { s.lsv with ceiling := c } := by
  unfold State.setCeiling
  dsimp only
  split <;> rfl

theorem leastClaim_le {cs : List (Option Nat)} {v : Nat} (h : some v ∈ cs) : ∃ m, leastClaim cs = some m ∧ m ≤ v := by
  induction cs with
  | nil => cases h
  | cons c cs ih =>
    cases c with
    | none => exact ih (by simpa using h)
    | some w =>
      rcases List.mem_cons.mp h with e | h
      · cases e
        unfold leastClaim
        split
        · exact ⟨v, rfl, le_rfl⟩
        · exact ⟨_, rfl, min_le_left _ _⟩
      · obtain ⟨m, hm, hle⟩ := ih h
        exact ⟨min w m, by simp [leastClaim, hm], (min_le_right _ _).trans hle⟩

theorem leastClaim_mem {cs : List (Option Nat)} {m : Nat} (h : leastClaim cs = some m) : some m ∈ cs := by
  induction cs generalizing m with
  | nil => cases h
  | cons c cs ih =>
    cases c with
    | none => exact List.mem_cons_of_mem _ (ih h)
    | some w =>
      unfold leastClaim at h
      split at h
      · cases h
        exact List.mem_cons_self
      · next x hx =>
        cases h
        rcases min_choice w x with e | e <;> rw [e]
        · exact List.mem_cons_self
        · exact List.mem_cons_of_mem _ (ih hx)

theorem SpliceStation.spliceClaim_eq_some {x : SpliceStation} {v : Nat} :
    x.spliceClaim = some v ↔
      (x.phase = .matching ∨ x.phase = .matched ∨ x.phase = .confirming) ∧ ∃ g, x.settings = some g ∧ g.speed = v := by
  unfold SpliceStation.spliceClaim
  cases x.phase <;> simp [SplicePhase.claims]

@[simp] theorem State.evalSplice_spc (s : State) : s.evalSplice.spc = s.spc := s.evalSplice_within.same .spc (by simp)

@[simp] theorem State.evalSplice_lcu (s : State) : s.evalSplice.lcu = s.lcu := s.evalSplice_within.same .lcu (by simp)

@[simp] theorem State.evalSplice_splice (s : State) (i : SpliceId) : s.evalSplice.splice i = s.splice i := by
  simp [State.splice]

theorem State.evalSplice_entryOk (s : State) : s.evalSplice.spliceEntryOk := by
  have entry : s.evalSplice.lsv.ceiling.splice = leastClaim ((allIds 7).map fun i => (s.splice i).spliceClaim) := by
    simp [State.evalSplice, State.setEntry, Ceiling.put]
  unfold State.spliceEntryOk IsLeastClaim
  simp only [entry, State.evalSplice_splice, ← SpliceStation.spliceClaim_eq_some]
  constructor
  · intro i v claims
    exact leastClaim_le (List.mem_map.mpr ⟨i, List.mem_finRange i, claims⟩)
  · intro m h
    obtain ⟨i, -, claims⟩ := List.mem_map.mp (leastClaim_mem h)
    exact ⟨i, claims⟩

/-! ### Work on one splice station -/

/-- What work on splice station `i` leaves: the other stations with their joint channels, and the line supervisor but for its ceiling table. -/
structure State.WorksOn (i : SpliceId) (s t : State) : Prop where
  splice : ∀ j, j ≠ i → t.splice j = s.splice j
  joint : ∀ j, j ≠ i → t.lcu.joints[j] = s.lcu.joints[j]
  lsv : t.lsv = { s.lsv with ceiling := t.lsv.ceiling }

theorem State.WorksOn.refl (i : SpliceId) (s : State) : s.WorksOn i s where
  splice _ _ := rfl
  joint _ _ := rfl
  lsv := rfl

theorem State.WorksOn.trans {i : SpliceId} {s t u : State} (h : s.WorksOn i t) (h' : t.WorksOn i u) : s.WorksOn i u where
  splice j hj := (h'.splice j hj).trans (h.splice j hj)
  joint j hj := (h'.joint j hj).trans (h.joint j hj)
  lsv := by rw [h'.lsv, h.lsv]

theorem State.onSplice_worksOn (s : State) (i : SpliceId) (f : SpliceStation → SpliceStation) : s.WorksOn i (s.onSplice i f) where
  splice _ hj := s.onSplice_ne i f hj
  joint _ _ := rfl
  lsv := rfl

theorem State.armChannel_worksOn (s : State) (i : SpliceId) : s.WorksOn i (s.armChannel i) := by
  unfold State.armChannel
  split
  · exact { splice := fun _ _ => rfl, joint := fun j hj => getElem_modifyAt_ne _ _ hj, lsv := rfl }
  · exact .refl i s

theorem State.evalSplice_worksOn (s : State) (i : SpliceId) : s.WorksOn i s.evalSplice where
  splice j _ := s.evalSplice_splice j
  joint _ _ := by simp
  lsv := by simp [State.evalSplice, State.setEntry]

theorem State.enterSplice_worksOn (s : State) (i : SpliceId) (p : SplicePhase) : s.WorksOn i (s.enterSplice i p) :=
  (s.onSplice_worksOn i _).trans (State.evalSplice_worksOn _ i)

theorem State.fire_worksOn (s : State) (i : SpliceId) : s.WorksOn i (s.fire i) :=
  ((s.onSplice_worksOn i _).trans (State.armChannel_worksOn _ i)).trans (State.enterSplice_worksOn _ i _)

theorem State.fireTest_worksOn (s : State) (i : SpliceId) : s.WorksOn i (s.fireTest i) := by
  unfold State.fireTest
  split
  · exact s.fire_worksOn i
  · exact .refl i s

theorem State.enterMatched_worksOn (s : State) (i : SpliceId) : s.WorksOn i (s.enterMatched i) :=
  (s.enterSplice_worksOn i _).trans (State.fireTest_worksOn _ i)

theorem State.enterMatching_worksOn (s : State) (i : SpliceId) (force : Bool) : s.WorksOn i (s.enterMatching i force) := by
  have enters := (s.onSplice_worksOn i fun x => { x with accelerate := true, force := force }).trans
    (State.enterSplice_worksOn _ i .matching)
  unfold State.enterMatching
  dsimp only
  split
  · exact enters.trans (State.enterMatched_worksOn _ i)
  · exact enters

theorem State.armTest_worksOn (s : State) (i : SpliceId) : s.WorksOn i (s.armTest i) := by
  unfold State.armTest
  split
  · exact s.enterMatching_worksOn i _
  · exact .refl i s

theorem State.raise_worksOn (s : State) (i : SpliceId) (k : NoticeKind) (x : Subject) (d : List Byte) :
    s.WorksOn i (s.raise k x d) where
  splice _ _ := rfl
  joint _ _ := rfl
  lsv := rfl

theorem State.abortSplice_worksOn (s : State) (i : SpliceId) : s.WorksOn i (s.abortSplice i) := by
  unfold State.abortSplice
  dsimp only
  split
  · exact ((s.onSplice_worksOn i _).trans (State.enterSplice_worksOn _ i _)).trans (State.raise_worksOn _ i _ _ _)
  · exact .refl i s

/-! ### What a station sees of the other stations' work -/

/-- All that the arming of station `i` reads is the same in both states. -/
structure State.SameStation (i : SpliceId) (s t : State) : Prop where
  splice : t.splice i = s.splice i
  joint : t.lcu.joints[i] = s.lcu.joints[i]
  lcu : t.lcu = { s.lcu with joints := t.lcu.joints, eyes := t.lcu.eyes }
  line : t.lsv.line = s.lsv.line

theorem State.SameStation.refl (i : SpliceId) (s : State) : s.SameStation i s where
  splice := rfl
  joint := rfl
  lcu := rfl
  line := rfl

theorem State.SameStation.trans {i : SpliceId} {s t u : State} (h : s.SameStation i t) (h' : t.SameStation i u) : s.SameStation i u where
  splice := h'.splice.trans h.splice
  joint := h'.joint.trans h.joint
  lcu := by rw [h'.lcu, h.lcu]
  line := h'.line.trans h.line

theorem State.WorksOn.sameStation {i j : SpliceId} {bs : List Block} {s t : State} (h : s.WorksOn j t) (w : s.Within bs t) (hj : j ≠ i) :
    s.SameStation i t where
  splice := h.splice i hj.symm
  joint := h.joint i hj.symm
  lcu := w.lcu
  line := by rw [h.lsv]

theorem State.spliceInUse_congr {s t : State} (h : t.lcu.walls = s.lcu.walls) (i : SpliceId) : t.spliceInUse i = s.spliceInUse i := by
  unfold State.spliceInUse State.walls
  rw [h]

theorem State.SameStation.armingTerms {i : SpliceId} {s t : State} (h : s.SameStation i t) {g : SpliceSettings} {r : Reel} :
    t.armingTerms i g r ↔ s.armingTerms i g r := by
  have measured : t.lcu.measured = s.lcu.measured := by rw [h.lcu]
  have walls : t.lcu.walls = s.lcu.walls := by rw [h.lcu]
  unfold State.armingTerms
  rw [State.spliceInUse_congr walls, h.splice, h.line, measured]

/-- Arming as other states see it that differ only in what the other stations do. -/
theorem State.armedIn.congr {s s' u u' : State} {i : SpliceId} {g : SpliceSettings} {r : Reel} (h : s.armedIn u i g r)
    (hs : s'.SameStation i s) (hu : u.SameStation i u') (entry : u'.spliceEntryOk) : s'.armedIn u' i g r := by
  have counter : s.counter (spliceCounter i) = s'.counter (spliceCounter i) := by
    unfold State.counter
    rw [hs.lcu]
  obtain ⟨-, matching, matched, unfired, fired⟩ := h
  rw [hs.splice, ← hu.splice] at matching matched fired
  rw [hs.splice, ← hu.joint, hs.joint] at unfired
  rw [← hu.joint, hs.joint, counter] at fired
  exact ⟨entry, matching, matched, unfired, fired⟩

/-- Work on every station: station `i` comes to its turn as it stands at first and leaves it as it stands at last, and what every turn
keeps lasts from the end of its turn. -/
theorem State.forAll_at {i : SpliceId} {f : State → SpliceId → State} (hf : ∀ (t : State) (j : SpliceId), j ≠ i → t.SameStation i (f t j))
    (s : State) :
    ∃ x, s.SameStation i x ∧ (f x i).SameStation i (s.forAll 7 f) ∧
      ∀ P : State → Prop, (∀ t j, P t → P (f t j)) → P (f x i) → P (s.forAll 7 f) := by
  obtain ⟨pre, post, split⟩ := List.append_of_mem (List.mem_finRange i)
  have distinct : (pre ++ i :: post).Nodup := split ▸ List.nodup_finRange 7
  have others (l : List SpliceId) (hl : i ∉ l) (t : State) : t.SameStation i (l.foldl f t) :=
    List.foldlRecOn l f (State.SameStation.refl i t) fun u hu j hj => hu.trans (hf u j fun e => hl (e ▸ hj))
  have turns : s.forAll 7 f = post.foldl f (f (pre.foldl f s) i) := by
    simp [State.forAll, allIds, split]
  have apart := List.nodup_middle.mp distinct
  simp only [List.nodup_cons, List.mem_append, not_or] at apart
  obtain ⟨⟨hpre, hpost⟩, -⟩ := apart
  refine ⟨pre.foldl f s, others pre hpre s, turns ▸ others post hpost _, fun P step base => ?_⟩
  rw [turns]
  exact List.foldlRecOn post f base fun u hu j _ => step u j hu

theorem State.forAll_keeps {P : State → Prop} {f : State → SpliceId → State} (hf : ∀ t j, P t → P (f t j)) {s : State} (h : P s) :
    P (s.forAll 7 f) :=
  List.foldlRecOn (allIds 7) f h fun u hu j _ => hf u j hu

theorem State.forAll_lsv {f : State → SpliceId → State} (hf : ∀ (t : State) (j : SpliceId), t.WorksOn j (f t j)) (s : State) :
    (s.forAll 7 f).lsv = { s.lsv with ceiling := (s.forAll 7 f).lsv.ceiling } :=
  State.forAll_keeps (P := fun u : State => u.lsv = { s.lsv with ceiling := u.lsv.ceiling })
    (fun u j hu => by rw [(hf u j).lsv, hu]) rfl

/-! ### The arming test (R69 to R71) -/

theorem LineState.runs_iff {l : LineState} : l.runs = true ↔ l = .run ∨ l = .hold := by
  cases l <;> simp [LineState.runs]

theorem State.arms_iff {s : State} {i : SpliceId} : s.arms i = true ↔ ∃ g r, s.armingTerms i g r := by
  unfold State.arms State.armingTerms
  cases (s.splice i).activeReel <;> cases (s.splice i).settings <;>
    simp [LineState.runs_iff, and_assoc]

theorem State.armTest_of_not_arms {s : State} {i : SpliceId} (h : ∀ g r, ¬s.armingTerms i g r) : s.armTest i = s := by
  unfold State.armTest
  rw [if_neg fun ha => ?_]
  obtain ⟨g, r, terms⟩ := State.arms_iff.mp ha
  exact h g r terms

@[simp] theorem State.enterSplice_self (s : State) (i : SpliceId) (p : SplicePhase) :
    (s.enterSplice i p).splice i = { s.splice i with phase := p } := by
  simp [State.enterSplice]

@[simp] theorem State.enterSplice_lcu (s : State) (i : SpliceId) (p : SplicePhase) : (s.enterSplice i p).lcu = s.lcu := by
  simp [State.enterSplice]

theorem State.fire_self (s : State) (i : SpliceId) :
    (s.fire i).splice i =
      { s.splice i with
        phase := .confirming, accelerate := false, pulse := true, firePos := some (s.splicePos i)
        windowEnd := (s.splice i).settings.map fun g => s.splicePos i + g.window
        force := false } := by
  have channel (t : State) : (t.armChannel i).splice i = t.splice i := by
    unfold State.armChannel
    split <;> rfl
  simp [State.fire, channel]

theorem State.fire_joint {s : State} {i : SpliceId} (h : s.spliceInUse i = true) :
    (s.fire i).lcu.joints[i] = { s.lcu.joints[i] with armed := true } := by
  have inUse (f : SpliceStation → SpliceStation) : (s.onSplice i f).spliceInUse i = true := h
  simp only [State.fire, State.enterSplice_lcu, State.armChannel, inUse, if_true]
  exact getElem_modifyAt_self _ _ _

/-- The station that comes to MATCHING with no force, before its speed-match terminal is looked at. -/
def State.matching (s : State) (i : SpliceId) : State :=
  (s.onSplice i fun x => { x with accelerate := true, force := false }).enterSplice i .matching

@[simp] theorem State.matching_self (s : State) (i : SpliceId) :
    (s.matching i).splice i = { s.splice i with phase := .matching, accelerate := true, force := false } := by
  simp [State.matching]

@[simp] theorem State.matching_lcu (s : State) (i : SpliceId) : (s.matching i).lcu = s.lcu := by
  simp [State.matching]

/-- A station that arms ends its turn in MATCHING, in MATCHED or fired. -/
theorem State.armTest_of_arms {s : State} {i : SpliceId} {g : SpliceSettings} {r : Reel} (h : s.armingTerms i g r) :
    s.armTest i =
      if (s.splice i).speedMatch = false then s.matching i
      else if g.reserve < r.remaining then (s.matching i).enterSplice i .matched
      else ((s.matching i).enterSplice i .matched).fire i := by
  have arms : s.arms i = true := State.arms_iff.mpr ⟨g, r, h⟩
  obtain ⟨-, -, -, -, settings, reel, -⟩ := h
  have test : s.armTest i = if ((s.matching i).splice i).speedMatch then (s.matching i).enterMatched i else s.matching i := by
    unfold State.armTest
    rw [if_pos arms]
    rfl
  rw [test, State.matching_self]
  cases (s.splice i).speedMatch with
  | false => rfl
  | true =>
    have fires : (((s.matching i).enterSplice i .matched).splice i).firesNow = decide (r.remaining ≤ g.reserve) := by
      simp [SpliceStation.firesNow, reel, settings]
    have matched : (s.matching i).enterMatched i =
        if r.remaining ≤ g.reserve then ((s.matching i).enterSplice i .matched).fire i else (s.matching i).enterSplice i .matched := by
      unfold State.enterMatched State.fireTest
      simp only [fires, decide_eq_true_eq]
    by_cases hr : g.reserve < r.remaining
    · simp [matched, hr, Nat.not_le.mpr hr]
    · simp [matched, hr, Nat.not_lt.mp hr]

theorem State.armTest_armed {s : State} {i : SpliceId} {g : SpliceSettings} {r : Reel} (h : s.armingTerms i g r) :
    s.armedIn (s.armTest i) i g r := by
  have inUse : s.spliceInUse i = true := h.1
  have settings : (s.splice i).settings = some g := h.2.2.2.2.1
  rw [State.armTest_of_arms h]
  cases hm : (s.splice i).speedMatch with
  | false =>
    rw [if_pos rfl]
    exact ⟨State.evalSplice_entryOk _, fun _ => s.matching_self i, by simp [hm], by simp, by simp [hm]⟩
  | true =>
    rw [if_neg (by simp)]
    by_cases hr : g.reserve < r.remaining
    · rw [if_pos hr]
      exact ⟨State.evalSplice_entryOk _, by simp [hm], by simp, by simp, fun _ hle => absurd hr hle.not_gt⟩
    · rw [if_neg hr]
      have here : ((s.matching i).enterSplice i .matched).splicePos i = (s.counter (spliceCounter i)).pos := by
        simp [State.splicePos, State.counter]
      refine ⟨State.evalSplice_entryOk _, by simp [hm], fun _ h => absurd h hr, by simp [hm, hr], fun _ _ => ⟨?_, ?_⟩⟩
      · simp [State.fire_self, settings, here]
      · rw [State.fire_joint ((State.spliceInUse_congr (by simp) i).trans inUse)]
        simp

/-- A turn of the arming test keeps the SPLICE entry the least claim. -/
theorem State.armTest_entryOk {s : State} (i : SpliceId) (h : s.spliceEntryOk) : (s.armTest i).spliceEntryOk := by
  by_cases arms : ∃ g r, s.armingTerms i g r
  · obtain ⟨g, r, terms⟩ := arms
    exact (State.armTest_armed terms).1
  · rw [State.armTest_of_not_arms fun g r terms => arms ⟨g, r, terms⟩]
    exact h

/-- The arming test of every station, S1 to S7. -/
def State.armAll (s : State) : State := s.forAll 7 State.armTest

theorem State.armAll_within (s : State) : s.Within [.lcu, .spc, .lsv] s.armAll := State.forAll_within State.armTest_within

theorem State.armAll_lsv (s : State) : s.armAll.lsv = { s.lsv with ceiling := s.armAll.lsv.ceiling } :=
  State.forAll_lsv State.armTest_worksOn s

@[simp] theorem State.armAll_line (s : State) : s.armAll.lsv.line = s.lsv.line := by rw [s.armAll_lsv]

@[simp] theorem State.armAll_stopped (s : State) : s.armAll.lsv.stopped = s.lsv.stopped := by rw [s.armAll_lsv]

@[simp] theorem State.armAll_speedRef (s : State) : s.armAll.lsv.speedRef = s.lsv.speedRef := by rw [s.armAll_lsv]

theorem State.armAll_at (s : State) (i : SpliceId) :
    ∃ x, s.SameStation i x ∧ (x.armTest i).SameStation i s.armAll ∧
      ∀ P : State → Prop, (∀ t j, P t → P (t.armTest j)) → P (x.armTest i) → P s.armAll :=
  State.forAll_at (fun t j hj => (t.armTest_worksOn j).sameStation (t.armTest_within j) hj) s

theorem State.armAll_armed {s : State} {i : SpliceId} {g : SpliceSettings} {r : Reel} (h : s.armingTerms i g r) :
    s.armedIn s.armAll i g r := by
  obtain ⟨x, before, after, keeps⟩ := s.armAll_at i
  have armed := State.armTest_armed (before.armingTerms.mpr h)
  exact armed.congr before after (keeps State.spliceEntryOk (fun _ j => State.armTest_entryOk j) armed.1)

theorem State.armAll_rests {s : State} {i : SpliceId} (h : ∀ g r, ¬s.armingTerms i g r) : s.SameStation i s.armAll := by
  obtain ⟨x, before, after, -⟩ := s.armAll_at i
  rw [State.armTest_of_not_arms fun g r terms => h g r (before.armingTerms.mp terms)] at after
  exact before.trans after

theorem State.armAll_of_none {s : State} (h : ∀ i g r, ¬s.armingTerms i g r) : s.armAll = s :=
  State.forAll_keeps (P := (· = s))
    (fun u j hu => by
      rw [hu]
      exact State.armTest_of_not_arms (h j))
    rfl

/-! ### The end of a stop (R77, R148, R154) -/

@[simp] theorem State.raise_splice (s : State) (k : NoticeKind) (x : Subject) (d : List Byte) (i : SpliceId) :
    (s.raise k x d).splice i = s.splice i := rfl

@[simp] theorem State.raiseLine_splice (s : State) (old : LineState) (i : SpliceId) : (s.raiseLine old).splice i = s.splice i := rfl

theorem State.enterLine_splice (s : State) (new : LineState) (i : SpliceId) :
    ((s.putLine new).setLineEntries).splice i = s.splice i :=
  congrArg (fun x : Spc => x.stations[i]) ((s.enterLine_touches new).same .spc (by simp))

theorem State.abortSplice_self (s : State) (i : SpliceId) :
    (s.abortSplice i).splice i =
      if (s.splice i).phase = .matching ∨ (s.splice i).phase = .matched then
        { s.splice i with phase := .standby, accelerate := false, force := false }
      else s.splice i := by
  unfold State.abortSplice
  dsimp only
  split
  · simp
  · rfl

theorem State.abortAll_splice (s : State) (i : SpliceId) :
    (s.forAll 7 State.abortSplice).splice i =
      if (s.splice i).phase = .matching ∨ (s.splice i).phase = .matched then
        { s.splice i with phase := .standby, accelerate := false, force := false }
      else s.splice i := by
  obtain ⟨x, before, after, -⟩ :=
    State.forAll_at (i := i) (fun t j hj => (t.abortSplice_worksOn j).sameStation (t.abortSplice_within j) hj) s
  rw [after.splice, State.abortSplice_self, before.splice]

theorem State.announceSplice_lsv (s : State) (new : LineState) :
    (s.announceSplice new).lsv = { s.lsv with ceiling := (s.announceSplice new).lsv.ceiling } := by
  cases new <;> simp only [State.announceSplice]
  case run | hold => exact State.forAll_lsv State.armTest_worksOn s
  case stopping | halted => exact State.forAll_lsv State.abortSplice_worksOn s

/-- Whatever is announced of it, a change of the line state leaves the line supervisor as the entry puts it, but for the ceiling table. -/
theorem State.changeLine_lsv (s : State) (new : LineState) :
    (s.changeLine new).lsv = { (s.putLine new).lsv with ceiling := (s.changeLine new).lsv.ceiling } := by
  have bond (t : State) (old : LineState) : (t.announceBond old new).lsv = t.lsv := (t.announceBond_within old new).same .lsv (by simp)
  unfold State.changeLine
  simp only [State.raiseLine, State.raise_lsv, bond]
  rw [State.announceSplice_lsv]
  simp [State.setLineEntries]

section EndOfStop

variable {s : State} {new : LineState} (stopping : s.lsv.line = .stopping)
include stopping

/-- From STOPPING to a state other than PARK the bond controller has nothing to evaluate. -/
theorem State.changeLine_of_stopping (hn : new ≠ .park) :
    s.changeLine new = (((s.putLine new).setLineEntries).announceSplice new).raiseLine .stopping := by
  simp [State.changeLine, State.announceBond, stopping, hn]

theorem State.changeLine_touches_of_stopping (hn : new = .ready ∨ new = .halted) :
    s.Touches [.spc, .lsv, .lnk] (s.changeLine new) := by
  have announce (t : State) : t.Within [.spc, .lsv] (t.announceSplice new) := by
    rcases hn with rfl | rfl
    · exact .refl t
    · exact State.forAll_within State.abortSplice_within
  rw [State.changeLine_of_stopping stopping (by rcases hn with rfl | rfl <;> simp)]
  exact (((s.enterLine_touches new).mono (by simp)).step (announce _) (by simp)).step (State.raiseLine_within ..) (by simp)

theorem State.changeLine_ready_splice (i : SpliceId) : (s.changeLine .ready).splice i = s.splice i := by
  rw [State.changeLine_of_stopping stopping (by simp)]
  simp only [State.announceSplice, State.raiseLine_splice, State.enterLine_splice]

theorem State.changeLine_halted_splice (i : SpliceId) :
    (s.changeLine .halted).splice i =
      if (s.splice i).phase = .matching ∨ (s.splice i).phase = .matched then
        { s.splice i with phase := .standby, accelerate := false, force := false }
      else s.splice i := by
  rw [State.changeLine_of_stopping stopping (by simp)]
  simp only [State.announceSplice, State.raiseLine_splice, State.abortAll_splice, State.enterLine_splice]

end EndOfStop

/-! ### The stopped-sample count (R154) -/

/-- The count that a sample in STOPPING comes to. -/
def State.stoppedCount (s : State) : Nat := if s.lcu.measured = 0 then min (s.lsv.stopped + 1) 10 else 0

/-- The sample ends a stop. -/
def State.stopEnds (s : State) : Prop := s.lsv.line = .stopping ∧ s.stoppedCount = 10

/-- The state with its stopped-sample count at `n`. -/
def State.withStopped (s : State) (n : Nat) : State := { s with lsv := { s.lsv with stopped := n } }

/-- The line state that a stop ends in. -/
def State.stopTarget (s : State) : LineState := if s.ruling = some .hostStop then .ready else .halted

theorem State.stopTarget_or (s : State) : s.stopTarget = .ready ∨ s.stopTarget = .halted := by
  unfold State.stopTarget
  split <;> simp

theorem State.countStopped_of_ends {s : State} (h : s.stopEnds) : s.countStopped = (s.withStopped 10).changeLine s.stopTarget := by
  obtain ⟨line, ten⟩ := h
  change (if s.lcu.measured = 0 then countUp Config.stoppedSamples s.lsv.stopped else 0) = 10 at ten
  unfold State.countStopped
  rw [if_pos line]
  dsimp only
  rw [ten, if_pos (show 10 = Config.stoppedSamples from rfl)]
  rfl

theorem State.countStopped_of_not_ends {s : State} (h : ¬s.stopEnds) :
    s.countStopped = s.withStopped (if s.lsv.line = .stopping then s.stoppedCount else s.lsv.stopped) := by
  by_cases line : s.lsv.line = .stopping
  · have short : ¬(if s.lcu.measured = 0 then countUp Config.stoppedSamples s.lsv.stopped else 0) = Config.stoppedSamples :=
      fun ten => h ⟨line, ten⟩
    unfold State.countStopped
    rw [if_pos line, if_pos line]
    dsimp only
    rw [if_neg short]
    rfl
  · unfold State.countStopped
    rw [if_neg line, if_neg line]
    rfl

theorem State.withStopped_touches (s : State) (n : Nat) : s.Touches [.lsv] (s.withStopped n) where
  same b hb := by cases b <;> first | rfl | simp at hb
  link := rfl
  expiries _ := rfl
  reply _ := Iff.rfl
  held := rfl
  fresh := rfl
  pending := rfl
  flag := rfl
  thread := rfl
  lcu := rfl
  levels _ := rfl
  map h := h.congr rfl fun _ => rfl
  ahead h := h

theorem State.countStopped_touches (s : State) : s.Touches [.spc, .lsv, .lnk] s.countStopped := by
  have put (n : Nat) := (s.withStopped_touches n).mono (cs := [.spc, .lsv, .lnk]) (by simp)
  by_cases ends : s.stopEnds
  · rw [State.countStopped_of_ends ends]
    exact (put 10).trans (State.changeLine_touches_of_stopping ends.1 s.stopTarget_or)
  · rw [State.countStopped_of_not_ends ends]
    exact put _

theorem State.countStopped_lcu (s : State) : s.countStopped.lcu = s.lcu := s.countStopped_touches.same .lcu (by simp)

theorem State.countStopped_lsv_of_ends {s : State} (h : s.stopEnds) :
    s.countStopped.lsv.line = s.stopTarget ∧ s.countStopped.lsv.speedRef = 0 := by
  have stands : s.stopTarget.stands = true := by
    rcases s.stopTarget_or with e | e <;> rw [e] <;> rfl
  rw [State.countStopped_of_ends h, State.changeLine_lsv]
  simp [State.putLine, stands]

/-- A stop that the host has not ordered aborts, as it ends, the splices that have not fired (R77). -/
theorem State.countStopped_aborts {s : State} (h : s.stopEnds) (hr : s.ruling ≠ some .hostStop) {i : SpliceId}
    (hp : (s.splice i).phase = .matching ∨ (s.splice i).phase = .matched) :
    s.countStopped.splice i = { s.splice i with phase := .standby, accelerate := false, force := false } := by
  rw [State.countStopped_of_ends h, State.stopTarget, if_neg hr,
    State.changeLine_halted_splice (s := s.withStopped 10) h.1]
  exact if_pos hp

theorem State.countStopped_splice {s : State} {i : SpliceId}
    (h : ¬s.stopEnds ∨ s.ruling = some .hostStop ∨ ((s.splice i).phase ≠ .matching ∧ (s.splice i).phase ≠ .matched)) :
    s.countStopped.splice i = s.splice i := by
  by_cases ends : s.stopEnds
  · rw [State.countStopped_of_ends ends, State.stopTarget]
    split
    · exact State.changeLine_ready_splice (s := s.withStopped 10) ends.1 i
    · next ruling =>
      obtain ⟨matching, matched⟩ := (h.resolve_left (not_not.mpr ends)).resolve_left ruling
      rw [State.changeLine_halted_splice (s := s.withStopped 10) ends.1]
      exact if_neg (not_or.mpr ⟨matching, matched⟩)
  · rw [State.countStopped_of_not_ends ends]
    rfl

/-- A stop under way or ended leaves no station to arm, and otherwise the count says nothing of the arming test. -/
theorem State.armingTerms_countStopped {s : State} {i : SpliceId} {g : SpliceSettings} {r : Reel} :
    s.countStopped.armingTerms i g r ↔ s.armingTerms i g r := by
  by_cases ends : s.stopEnds
  · constructor
    · rintro ⟨-, -, runs, -⟩
      rw [(State.countStopped_lsv_of_ends ends).1] at runs
      rcases s.stopTarget_or with e | e <;> simp [e] at runs
    · rintro ⟨-, -, runs, -⟩
      simp [ends.1] at runs
  · rw [State.countStopped_of_not_ends ends]
    rfl

/-- Where a station arms no stop is under way. -/
theorem State.countStopped_of_arms {s : State} {i : SpliceId} {g : SpliceSettings} {r : Reel} (h : s.armingTerms i g r) :
    s.countStopped = s := by
  obtain ⟨-, -, runs, -⟩ := h
  have line : s.lsv.line ≠ .stopping := by rcases runs with e | e <;> simp [e]
  rw [State.countStopped_of_not_ends fun ends => line ends.1, if_neg line]
  rfl

/-! ### The zero-speed count (R97) -/

/-- The bond controller after a sample: the count, and the keep-wet counters loaded as it reaches 10. -/
theorem State.countZeroSpeed_eq (s : State) :
    s.countZeroSpeed =
      { s with
        bnd := { s.bnd with
          zeroSpeed := if s.lcu.measured = 0 then min (s.bnd.zeroSpeed + 1) 10 else 0
          glues := if s.lcu.measured = 0 ∧ min (s.bnd.zeroSpeed + 1) 10 = 10 ∧ s.bnd.zeroSpeed ≠ 10 then
              s.bnd.glues.map fun g => if g.state.resting then { g with keepWet := g.settings.map (·.interval) } else g
            else s.bnd.glues } } := by
  unfold State.countZeroSpeed State.countsStopped countUp Config.stoppedSamples
  generalize min (s.bnd.zeroSpeed + 1) 10 = n
  by_cases zero : s.lcu.measured = 0
  · by_cases reached : n = 10
    · by_cases before : s.bnd.zeroSpeed = 10 <;> simp [zero, reached, before]
    · simp [zero, reached]
  · simp [zero]

theorem GlueState.resting_iff {g : GlueState} : g.resting = true ↔ g = .inPosition ∨ g = .lifted := by
  cases g <;> simp [GlueState.resting]

theorem State.countZeroSpeed_sameStation (s : State) (i : SpliceId) : s.SameStation i s.countZeroSpeed := by
  rw [State.countZeroSpeed_eq]
  exact { splice := rfl, joint := rfl, lcu := rfl, line := rfl }

theorem State.countZeroSpeed_entryOk {s : State} (h : s.spliceEntryOk) : s.countZeroSpeed.spliceEntryOk := by
  rw [State.countZeroSpeed_eq]
  exact h

theorem State.countZeroSpeed_zeroSpeed (s : State) :
    s.countZeroSpeed.bnd.zeroSpeed = if s.lcu.measured = 0 then min (s.bnd.zeroSpeed + 1) 10 else 0 := by
  rw [State.countZeroSpeed_eq]

theorem State.countZeroSpeed_bnd {s : State} {b : Bnd} (h : s.bnd = b) :
    s.countZeroSpeed.bnd = { b with glues := s.countZeroSpeed.bnd.glues, zeroSpeed := s.countZeroSpeed.bnd.zeroSpeed } := by
  rw [State.countZeroSpeed_eq, h]

theorem State.countZeroSpeed_glue (s : State) (k : GlueId) :
    s.countZeroSpeed.glue k =
      if (s.bnd.zeroSpeed ≠ 10 ∧ s.countZeroSpeed.bnd.zeroSpeed = 10) ∧ ((s.glue k).state = .inPosition ∨ (s.glue k).state = .lifted) then
        { s.glue k with keepWet := (s.glue k).settings.map (·.interval) }
      else s.glue k := by
  have loads : (s.bnd.zeroSpeed ≠ 10 ∧ s.countZeroSpeed.bnd.zeroSpeed = 10) ↔
      s.lcu.measured = 0 ∧ min (s.bnd.zeroSpeed + 1) 10 = 10 ∧ s.bnd.zeroSpeed ≠ 10 := by
    rw [State.countZeroSpeed_zeroSpeed]
    split <;> simp_all [and_comm]
  simp only [loads]
  rw [State.countZeroSpeed_eq]
  generalize min (s.bnd.zeroSpeed + 1) 10 = n
  by_cases h : s.lcu.measured = 0 ∧ n = 10 ∧ s.bnd.zeroSpeed ≠ 10
  · simp [State.glue, h, GlueState.resting_iff]
  · simp only [State.glue, h, false_and, if_false]

/-! ### The whole sample -/

/-- The state after a speed sample, before the transmitter begins a frame. -/
def State.speedSampled (s : State) : State := s.measure.ramp.countStopped.armAll.countZeroSpeed

theorem exec_speedSample {s : State} (h : s.held = false) : exec .speedSample s = .next s.speedSampled.beginFrame := by
  change event id State.speedSampled s = _
  rw [event_eq, if_neg (by simp [h])]
  rfl

/-- What the takers behind the ramp leave up to the arming test. -/
theorem State.armAll_countStopped_touches (s : State) : s.Touches [.lcu, .spc, .lsv, .lnk] s.countStopped.armAll :=
  (s.countStopped_touches.mono (by simp)).step (State.armAll_within _) (by simp)

theorem State.speedSampled_touches (s : State) : s.measure.ramp.Touches [.lcu, .spc, .lsv, .lnk, .bnd] s.speedSampled :=
  (s.measure.ramp.armAll_countStopped_touches.mono (by simp)).step (State.countZeroSpeed_within _) (by simp)

theorem State.speedSampled_lcu (s : State) :
    s.speedSampled.lcu = { s.measure.lcu with joints := s.speedSampled.lcu.joints, eyes := s.speedSampled.lcu.eyes } :=
  s.speedSampled_touches.lcu

theorem State.speedSampled_measured (s : State) : s.speedSampled.lcu.measured = s.measure.lcu.measured := by
  rw [s.speedSampled_lcu]

theorem State.speedSampled_lsv (s : State) : s.speedSampled.lsv = s.measure.ramp.countStopped.armAll.lsv :=
  (State.countZeroSpeed_within _).same .lsv (by simp)

/-- The zero-speed count is the bond controller's alone: every station stands as the arming test leaves it. -/
theorem State.speedSampled_station (s : State) (i : SpliceId) : s.measure.ramp.countStopped.armAll.SameStation i s.speedSampled :=
  State.countZeroSpeed_sameStation _ i

theorem State.speedSampled_lsv_of_ends {s : State} (h : s.measure.ramp.stopEnds) :
    s.speedSampled.lsv.line = s.measure.ramp.stopTarget ∧ s.speedSampled.lsv.speedRef = 0 := by
  rw [s.speedSampled_lsv, State.armAll_line, State.armAll_speedRef]
  exact State.countStopped_lsv_of_ends h

theorem State.speedSampled_lsv_of_not_ends {s : State} (h : ¬s.measure.ramp.stopEnds) :
    s.speedSampled.lsv.line = s.lsv.line ∧
      s.speedSampled.lsv.stopped = (if s.lsv.line = .stopping then s.measure.stoppedCount else s.lsv.stopped) ∧
      s.speedSampled.lsv.speedRef = rampStep s.lsv.speedRef (10 * s.lsv.ceiling.target) s.lsv.accel s.lsv.decel := by
  rw [s.speedSampled_lsv, State.armAll_line, State.armAll_stopped, State.armAll_speedRef, State.countStopped_of_not_ends h]
  exact ⟨rfl, rfl, rfl⟩

theorem State.speedSampled_lsv_of_none {s : State} (h : ¬s.measure.ramp.stopEnds) (none : ∀ i g r, ¬s.measure.ramp.armingTerms i g r) :
    s.speedSampled.lsv = { s.lsv with speedRef := s.speedSampled.lsv.speedRef, stopped := s.speedSampled.lsv.stopped } := by
  rw [s.speedSampled_lsv, State.armAll_of_none fun i g r terms => none i g r (State.armingTerms_countStopped.mp terms),
    State.countStopped_of_not_ends h]
  rfl

theorem State.speedSampled_armed {s : State} {i : SpliceId} {g : SpliceSettings} {r : Reel} (h : s.measure.ramp.armingTerms i g r) :
    s.measure.ramp.armedIn s.speedSampled i g r := by
  have armed := State.armAll_armed h
  have entry : s.speedSampled.spliceEntryOk := by
    unfold State.speedSampled
    rw [State.countStopped_of_arms h]
    exact State.countZeroSpeed_entryOk armed.1
  have station := s.speedSampled_station i
  rw [State.countStopped_of_arms h] at station
  exact armed.congr (.refl i _) station entry

/-- A station that does not arm stands as the stopped-sample count leaves it. -/
theorem State.speedSampled_rests {s : State} {i : SpliceId} (h : ∀ g r, ¬s.measure.ramp.armingTerms i g r) :
    s.measure.ramp.countStopped.SameStation i s.speedSampled :=
  (State.armAll_rests fun g r terms => h g r (State.armingTerms_countStopped.mp terms)).trans (s.speedSampled_station i)

theorem State.speedSampled_joint {s : State} {i : SpliceId} (h : ∀ g r, ¬s.measure.ramp.armingTerms i g r) :
    s.speedSampled.lcu.joints[i] = s.lcu.joints[i] := by
  rw [(State.speedSampled_rests h).joint, State.countStopped_lcu]
  rfl

/-- A station that a stop's end aborts is in a phase that does not arm. -/
theorem State.speedSampled_aborts {s : State} {i : SpliceId} (h : s.measure.ramp.stopEnds) (hr : s.measure.ramp.ruling ≠ some .hostStop)
    (hp : (s.splice i).phase = .matching ∨ (s.splice i).phase = .matched) :
    s.speedSampled.splice i = { s.splice i with phase := .standby, accelerate := false, force := false } := by
  have rests (g : SpliceSettings) (r : Reel) : ¬s.measure.ramp.armingTerms i g r := by
    rintro ⟨-, standby, -⟩
    change (s.splice i).phase = .standby at standby
    simp [standby] at hp
  rw [(State.speedSampled_rests rests).splice]
  exact State.countStopped_aborts h hr hp

theorem State.speedSampled_splice {s : State} {i : SpliceId} (rests : ∀ g r, ¬s.measure.ramp.armingTerms i g r)
    (h : ¬s.measure.ramp.stopEnds ∨ s.measure.ramp.ruling = some .hostStop ∨
      ((s.splice i).phase ≠ .matching ∧ (s.splice i).phase ≠ .matched)) :
    s.speedSampled.splice i = s.splice i := by
  rw [(State.speedSampled_rests rests).splice]
  exact State.countStopped_splice h

/-- The zero-speed count begins with the bond controller as it stands before the sample. -/
theorem State.armAll_countStopped_bnd (s : State) : s.measure.ramp.countStopped.armAll.bnd = s.bnd :=
  s.measure.ramp.armAll_countStopped_touches.same .bnd (by simp)

theorem State.speedSampled_zeroSpeed (s : State) :
    s.speedSampled.bnd.zeroSpeed = if s.speedSampled.lcu.measured = 0 then min (s.bnd.zeroSpeed + 1) 10 else 0 := by
  have lcu : s.speedSampled.lcu = s.measure.ramp.countStopped.armAll.lcu := (State.countZeroSpeed_within _).same .lcu (by simp)
  rw [lcu, State.speedSampled, State.countZeroSpeed_zeroSpeed, s.armAll_countStopped_bnd]

theorem State.speedSampled_glue (s : State) (k : GlueId) :
    s.speedSampled.glue k =
      if (s.bnd.zeroSpeed ≠ 10 ∧ s.speedSampled.bnd.zeroSpeed = 10) ∧ ((s.glue k).state = .inPosition ∨ (s.glue k).state = .lifted) then
        { s.glue k with keepWet := (s.glue k).settings.map (·.interval) }
      else s.glue k := by
  have glue : s.measure.ramp.countStopped.armAll.glue k = s.glue k := by
    unfold State.glue
    rw [s.armAll_countStopped_bnd]
  rw [State.speedSampled, State.countZeroSpeed_glue, glue, s.armAll_countStopped_bnd]

theorem State.speedSampled_bnd (s : State) :
    s.speedSampled.bnd = { s.bnd with glues := s.speedSampled.bnd.glues, zeroSpeed := s.speedSampled.bnd.zeroSpeed } := by
  unfold State.speedSampled
  exact State.countZeroSpeed_bnd s.armAll_countStopped_bnd

/-- 10 V at 4,000, in 0.1 mV: 25 for each unit of the speed reference (R158, log 17). -/
theorem State.mainDrive_eq (s : State) : s.mainDrive = 25 * s.lsv.speedRef := by
  unfold State.mainDrive
  omega

/-- Settles O12, taker by taker: the measured speed and the ramp come before every other taker and leave what those read; the stopped-sample
count ends a stop by a change of the line state, after which no station runs to arm; a station arms in its own turn, which the turns of the
other stations leave as it is; and the zero-speed count is the bond controller's alone. -/
theorem speedSample : Obligations.SpeedSample := by
  unfold Obligations.SpeedSample
  intro s held
  have touches := s.speedSampled_touches
  refine ⟨s.speedSampled, exec_speedSample held, ?measured, ?base, ?counters, ?line, s.speedSampled_zeroSpeed, ?glues, s.speedSampled_bnd,
    touches.same .map (by simp), touches.same .obk (by simp), touches.same .dst (by simp), touches.same .dec (by simp),
    touches.same .stk (by simp), touches.link, touches.held, touches.fresh, touches.pending⟩
  case measured => exact s.speedSampled_measured
  case base => rw [s.speedSampled_lcu]; rfl
  case counters => rw [s.speedSampled_lcu]; rfl
  case line =>
    rw [s.speedSampled_measured]
    refine ⟨fun ends => ?ended, fun goesOn => State.speedSampled_lsv_of_not_ends goesOn, s.speedSampled.mainDrive_eq,
      fun i g r terms => State.speedSampled_armed terms, fun i rests => State.speedSampled_joint rests,
      fun i rests kept => State.speedSampled_splice rests kept, fun ends notHost i phase => State.speedSampled_aborts ends notHost phase,
      fun none goesOn => State.speedSampled_lsv_of_none goesOn none⟩
    case ended =>
      obtain ⟨line, standing⟩ := State.speedSampled_lsv_of_ends ends
      exact ⟨fun byHost => line.trans (if_pos byHost), fun notHost => line.trans (if_neg notHost), standing⟩
  case glues =>
    intro loads k g rests
    rw [s.speedSampled_glue k]
    refine ⟨fun hl hr => if_pos ⟨hl, hr⟩, fun h => if_neg fun ⟨hl, hr⟩ => ?_⟩
    exact h.elim (· hl) (· hr)

end Sys2Proof.Machine
end

section
/-! PROOF. The reset values (R18, R38, R62, R79, R101, R117, R133, R147, R162, R165, R171) and the invariants at reset. -/

namespace Sys2Proof.Machine

/-- Settles O3: the part at power-on is one state, whose fields are read off table by table. -/
theorem resetValues : Obligations.ResetValues := by
  unfold Obligations.ResetValues
  intro s
  refine ⟨?counters, ?joints, ?eyes, ?build, ⟨rfl, rfl, rfl, rfl, ?spans⟩, ?bridges, rfl, ?splices, ⟨rfl, rfl⟩, ?grades, ?zones, ?glues,
    ⟨rfl, rfl, rfl, rfl⟩, ?outputs, ⟨rfl, ?generators⟩, ?inputs, ?slitters, ?lanes, ?cutoff, ?stackers, ⟨rfl, rfl⟩, rfl, ?link⟩
  case spans =>
    rintro (n | k)
    · revert n; decide +kernel
    · revert k; decide +kernel
  all_goals decide +kernel

/-- Reset is the part at its power-on values, the terminals being those of reset. -/
theorem State.reset_eq_resetPart : State.reset = State.reset.resetPart .powerOn := by decide +kernel

/-- Settles O60: the first three invariants are those of any part at its power-on values; the other three speak of marks, orders and bridge
entries, of which there are none. -/
theorem invariantsAtReset : Obligations.InvariantsAtReset := by
  obtain ⟨line, map, queue⟩ := State.reset.resetPart_ok .powerOn
  rw [← State.reset_eq_resetPart] at line map queue
  have noMark (m : Mark) (h : m ∈ State.reset.map.marks) : False := nomatch h
  have noEntry : ∀ k : WebId, (State.reset.bridge k).entries = [] := by decide +kernel
  refine ⟨line, queue, map, ?book, fun k b h => ?entry, fun m h => (noMark m h).elim⟩
  case book =>
    exact ⟨Nat.zero_le _, List.nodup_nil, Nat.zero_le _, Nat.zero_le _, Nat.zero_le _, fun m h => (noMark m h).elim⟩
  case entry =>
    rw [noEntry k] at h
    nomatch h

end Sys2Proof.Machine
end

section
/-! PROOF. The inputs of the Length Counting Unit: encoder transitions and their faults, the web-present, sheet-eye and knife-index inputs,
and SetScale (R2 to R7, R11 to R13, R122). -/

namespace Sys2Proof.Machine

/-- An event of a part that is not held in reset. -/
theorem event_released (terminals act : State → State) {s : State} (h : s.held = false) :
    event terminals act s = .next (act (terminals s)).beginFrame := by
  rw [event_eq, if_neg (by simp [h])]

/-! ### The inputs beside the encoders -/

theorem EdgeSelect.takes_iff {e : EdgeSelect} {rising : Bool} :
    e.takes rising = true ↔ e = .both ∨ (e = .rising ∧ rising = true) ∨ (e = .falling ∧ rising = false) := by
  cases e <;> simp [EdgeSelect.takes]

/-- Settles O10. Each input is one event; the knife index looks at the level that stood before it. -/
theorem lengthInputs : Obligations.LengthInputs := by
  unfold Obligations.LengthInputs
  intro s held
  refine ⟨fun k b => ?web, fun j rising => ?eye, fun j high => ?knife⟩
  case web =>
    change execWebPresentChange k b s = _
    unfold execWebPresentChange
    rw [event_released _ _ held]
    rfl
  case eye =>
    change execSheetEyeEdge j rising s = _
    unfold execSheetEyeEdge
    rw [event_released _ _ held]
    simp only [id, EdgeSelect.takes_iff]
    rfl
  case knife =>
    change execKnifeIndex j high s = _
    unfold execKnifeIndex
    rw [event_released _ _ held]
    by_cases rises : high = true ∧ s.lcu.knifeIndex[j] = false
    · rw [if_pos (by simpa using rises), if_pos rises]
      rfl
    · rw [if_neg (by simpa using rises), if_neg rises]
      rfl

/-! ### Notices -/

/-- A raised notice is pending with its detail. -/
theorem raiseIn_mem (k : NoticeKind) (x : Subject) (d : List Byte) (es : List NoticeEntry) :
    ∃ e ∈ raiseIn k x d es, e.kind = k ∧ e.subject = x ∧ e.detail = d := by
  induction es with
  | nil => exact ⟨_, List.mem_singleton_self _, rfl, rfl, rfl⟩
  | cons e es ih =>
    unfold raiseIn
    split
    · next same => exact ⟨_, List.mem_cons_self, same.1, same.2, rfl⟩
    · obtain ⟨f, mem, found⟩ := ih
      exact ⟨f, List.mem_cons_of_mem _ mem, found⟩

theorem State.raise_noticedWith (s : State) (k : NoticeKind) (x : SubjectType) (n : Nat) (d : List Byte) :
    (s.raise k ⟨x, n⟩ d).noticedWith k x n d := raiseIn_mem k ⟨x, n⟩ d s.lnk.notices

/-! ### Hold and stop causes (R152, R153) -/

theorem HoldSet.put_has (h : HoldSet) (c : HoldCause) (b : Bool) : (h.put c b).has c = b := by cases c <;> rfl

theorem State.changeLine_holds (s : State) (new : LineState) : (s.changeLine new).lsv.holds = s.lsv.holds := by
  rw [State.changeLine_lsv]
  rfl

theorem State.holdsChanged_holds (s : State) (h : HoldSet) : (s.holdsChanged h).lsv.holds = h := by
  unfold State.holdsChanged
  dsimp only
  split
  · split
    · rfl
    · rw [State.changeLine_holds]
  · split
    · rw [State.changeLine_holds]
    · rfl
  all_goals rfl

theorem State.addHold_has (s : State) (c : HoldCause) : (s.addHold c).lsv.holds.has c = true := by
  unfold State.addHold
  split
  · assumption
  · rw [State.holdsChanged_holds, HoldSet.put_has]

/-- A change of the line state keeps the stop record but for its being active. -/
theorem State.changeLine_stopRec (s : State) (new : LineState) :
    (s.changeLine new).lsv.stopRec =
      if new = .ready then s.lsv.stopRec.map fun r => { r with active := false } else s.lsv.stopRec := by
  rw [State.changeLine_lsv]
  rfl

theorem StopRecord.take_latest (r : StopRecord) (c : StopCause) (d : Option Subject) :
    (r.take c d).latest = c ∧ (r.take c d).latestDetail = d := ⟨rfl, rfl⟩

theorem State.takenRecord_latest (s : State) (c : StopCause) (d : Option Subject) :
    (s.takenRecord c d).latest = c ∧ (s.takenRecord c d).latestDetail = d := by
  unfold State.takenRecord
  split <;> exact ⟨rfl, rfl⟩

theorem State.setupRecord_latest (s : State) (c : StopCause) (d : Option Subject) :
    (s.setupRecord c d).latest = c ∧ (s.setupRecord c d).latestDetail = d := by
  unfold State.setupRecord
  split <;> exact ⟨rfl, rfl⟩

/-- The record that a stop cause leaves: whatever the line state, the cause is its latest. -/
theorem State.stopCause_stopRec (s : State) (c : StopCause) (d : Option Subject) :
    ∃ r, (s.stopCause c d).lsv.stopRec = some r ∧ r.latest = c ∧ r.latestDetail = d := by
  have changed (r : StopRecord) (new : LineState) (h : new ≠ .ready) : ((s.setRecord r).changeLine new).lsv.stopRec = some r := by
    rw [State.changeLine_stopRec, if_neg h]
    rfl
  obtain ⟨latest, detail⟩ := s.takenRecord_latest c d
  unfold State.stopCause
  split
  case h_1 | h_2 => exact ⟨_, changed _ _ (by split <;> simp), rfl, rfl⟩
  case h_3 =>
    dsimp only
    split
    · exact ⟨_, changed _ _ (by simp), latest, detail⟩
    · split
      · exact ⟨_, rfl, latest, detail⟩
      · exact ⟨_, rfl, latest, detail⟩
  case h_4 | h_5 => exact ⟨_, changed _ _ (by simp), rfl, rfl⟩
  case h_6 => exact ⟨_, rfl, latest, detail⟩
  case h_7 => exact ⟨_, rfl, s.setupRecord_latest c d⟩

theorem State.stopCause_stopTaken (s : State) (c : StopCause) (x : SubjectType) (n : Nat) :
    (s.stopCause c (some ⟨x, n⟩)).stopTaken c x n := s.stopCause_stopRec c _

/-! ### A counter after a transition -/

/-- An update of a counter is what it makes of the counter that stands there. -/
theorem State.onCounter_congr {s : State} {i : CounterId} {f g : Counter → Counter} (h : f (s.counter i) = g (s.counter i)) :
    s.onCounter i f = s.onCounter i g := by
  unfold State.counter at h
  unfold State.onCounter modifyAt
  simpa using congrArg (fun k => ({ s with lcu := { s.lcu with counters := s.lcu.counters.set i.val k } } : State)) h

@[simp] theorem State.withCounter_self (s : State) (i : CounterId) (ph : Phase) (k : Counter) :
    (s.withCounter i ph k).counter i = { k with refPhase := ph } := by
  simp [State.withCounter, State.counter]

theorem State.withCounter_ne (s : State) {i j : CounterId} (ph : Phase) (k : Counter) (h : j ≠ i) :
    (s.withCounter i ph k).counter j = s.counter j :=
  getElem_modifyAt_ne s.lcu.counters (fun _ => { k with refPhase := ph }) h

/-- An update that keeps the reference phase state, made of the counter that a transition leaves. -/
theorem State.withCounter_onCounter (s : State) (i : CounterId) (ph : Phase) (k : Counter) (f : Counter → Counter)
    (hf : f { k with refPhase := ph } = { f k with refPhase := ph }) :
    (s.withCounter i ph k).onCounter i f = s.withCounter i ph (f k) := by
  simp [State.withCounter, State.onCounter, modifyAt, hf]

/-- A transition is taken by the part once its phases are the terminal's and the counter's reference. -/
theorem exec_encoderTransition {s : State} (i : CounterId) (ph : Phase) (held : s.held = false) :
    exec (.encoderTransition i ph) s =
      .next ((s.withCounter i ph (s.counter i)).takeTransition i (s.counter i).refPhase ph).beginFrame := by
  change execEncoderTransition i ph s = _
  unfold execEncoderTransition
  rw [event_released _ _ held]
  rfl

/-! ### The kinds of transition (R2) -/

theorem classify_still (p : Phase) : classify p p = .still := if_pos rfl

theorem classify_of_forward {old new : Phase} (h : (old, new) ∈ forwardPairs) : classify old new = .forward := by
  simp only [forwardPairs, List.mem_cons, Prod.mk.injEq, List.not_mem_nil, or_false] at h
  rcases h with ⟨rfl, rfl⟩ | ⟨rfl, rfl⟩ | ⟨rfl, rfl⟩ | ⟨rfl, rfl⟩ <;> decide

theorem classify_of_reverse {old new : Phase} (h : (new, old) ∈ forwardPairs) : classify old new = .reverse := by
  simp only [forwardPairs, List.mem_cons, Prod.mk.injEq, List.not_mem_nil, or_false] at h
  rcases h with ⟨rfl, rfl⟩ | ⟨rfl, rfl⟩ | ⟨rfl, rfl⟩ | ⟨rfl, rfl⟩ <;> decide

/-- Both phases change. -/
theorem classify_of_both {old new : Phase} (ha : new.a ≠ old.a) (hb : new.b ≠ old.b) : classify old new = .illegal := by
  obtain ⟨a, b⟩ := old
  obtain ⟨c, d⟩ := new
  obtain rfl : c = !a := Bool.eq_not.mpr ha
  obtain rfl : d = !b := Bool.eq_not.mpr hb
  revert a b
  decide

/-! ### A counter that counts -/

theorem State.counting_iff {s : State} {i : CounterId} : s.counting i = true ↔ s.counts i := by
  have gate : (if h : i = 0 then true else s.lcu.webPresent[i.pred h]) = true ↔
      ∀ k : WebId, i = k.succ → s.lcu.webPresent[k] = true := by
    induction i using Fin.cases with
    | zero => simp [(Fin.succ_ne_zero _).symm]
    | succ k => simp
  simp only [State.counting, State.counterInUse, State.counts, Bool.and_eq_true, decide_eq_true_eq, Bool.not_eq_true', gate, and_assoc]

theorem State.withCounter_counts (s : State) (i : CounterId) (ph : Phase) :
    (s.withCounter i ph (s.counter i)).counts i ↔ s.counts i := by
  unfold State.counts
  rw [State.withCounter_self]
  rfl

/-- A transition of a counter that counts, by its kind (R2, R3, R5). -/
theorem State.takeTransition_eq {s : State} {i : CounterId} (h : s.counting i = true) (old new : Phase) :
    s.takeTransition i old new =
      match classify old new with
      | .still => s
      | .forward => s.forwardCount i
      | .reverse => s.reverseCount i
      | .illegal => s.illegalCount i := if_pos h

theorem State.takeTransition_idle {s : State} {i : CounterId} (h : ¬s.counts i) (old new : Phase) : s.takeTransition i old new = s :=
  if_neg fun counting => h (State.counting_iff.mp counting)

/-- A forward count pays debt first (R3). -/
theorem State.forwardCount_of_debt {s : State} {i : CounterId} (h : 0 < (s.counter i).debt) :
    s.forwardCount i = s.onCounter i fun x => { x with debt := x.debt - 1 } := if_pos h

/-- A count that would reach 2^44 is a fault (R6). -/
theorem State.forwardCount_of_overrange {s : State} {i : CounterId} (hd : (s.counter i).debt = 0)
    (h : Config.posLimit ≤ ((s.counter i).c + 1) * 10000 / (s.counter i).scale) : s.forwardCount i = s.counterFault i .overrange := by
  unfold State.forwardCount
  rw [if_neg (by omega), if_pos h]

/-- The counter after a forward count that raises C. -/
def Counter.counted (k : Counter) : Counter := { k with c := k.c + 1 }

/-- A forward count within range: C rises, and a position that rises with it is an advance (R3, R8). -/
theorem State.forwardCount_of_room {s : State} {i : CounterId} (hd : (s.counter i).debt = 0) (h : (s.counter i).counted.pos < Config.posLimit) :
    s.forwardCount i =
      if (s.counter i).pos < (s.counter i).counted.pos then
        (s.onCounter i Counter.counted).deliverAdvance i ((s.counter i).counted.pos - (s.counter i).pos)
      else s.onCounter i Counter.counted := by
  unfold State.forwardCount
  rw [if_neg (by omega), if_neg (Nat.not_le.mpr h : ¬Config.posLimit ≤ ((s.counter i).c + 1) * 10000 / (s.counter i).scale)]
  change (if _ < ((s.onCounter i Counter.counted).counter i).pos then
    (s.onCounter i Counter.counted).deliverAdvance i (((s.onCounter i Counter.counted).counter i).pos - _) else _) = _
  rw [State.onCounter_self]
  rfl

/-- Settles O6: a transition that raises no position and no fault is an update of its counter. -/
theorem encoderTransitions : Obligations.EncoderTransitions := by
  unfold Obligations.EncoderTransitions
  intro s i ph held k done
  have judged := exec_encoderTransition i ph held
  have counting (h : s.counts i) : (s.withCounter i ph k).counting i = true := State.counting_iff.mpr ((s.withCounter_counts i ph).mpr h)
  have taken (k' : Counter) (h : (s.withCounter i ph k).takeTransition i k.refPhase ph = s.withCounter i ph k') : done k' :=
    judged.trans (by rw [← h])
  refine ⟨fun rests => taken k ?rests, fun counts same => taken k ?still, fun counts pair debt => taken _ ?paid,
    fun counts pair debt level room => taken _ ?counted, fun counts pair within => taken _ ?indebted,
    fun counts ha hb tally => taken _ ?tallied⟩
  case rests => exact State.takeTransition_idle (mt (s.withCounter_counts i ph).mp rests) _ _
  case still => rw [State.takeTransition_eq (counting counts), same, classify_still]
  case paid =>
    rw [State.takeTransition_eq (counting counts), classify_of_forward pair]
    dsimp only
    rw [State.forwardCount_of_debt (by simpa using debt), State.withCounter_onCounter _ _ _ _ _ rfl]
  case counted =>
    rw [State.takeTransition_eq (counting counts), classify_of_forward pair]
    have pos : ((s.withCounter i ph k).counter i).counted.pos = ((s.withCounter i ph k).counter i).pos := by
      rw [State.withCounter_self]
      exact level
    dsimp only
    rw [State.forwardCount_of_room (by simpa using debt) (by rw [pos, State.withCounter_self]; exact room), if_neg (by omega),
      State.withCounter_onCounter _ _ _ _ _ rfl]
    rfl
  case indebted =>
    rw [State.takeTransition_eq (counting counts), classify_of_reverse pair]
    dsimp only
    unfold State.reverseCount
    rw [State.withCounter_self, if_neg within, State.withCounter_onCounter _ _ _ _ _ rfl]
  case tallied =>
    rw [State.takeTransition_eq (counting counts), classify_of_both ha hb]
    dsimp only
    unfold State.illegalCount
    rw [State.withCounter_self, if_neg tally, State.withCounter_onCounter _ _ _ _ _ rfl]
    rfl

/-! ### Counter faults (R6) -/

/-- The counter that a fault leaves (R6). -/
def Counter.faultedBy (k : Counter) (i : CounterId) (f : FaultKind) : Counter :=
  { k with
    faultRecord := some { kind := f, position := k.pos }, faultCount := countUp 255 k.faultCount
    faulted := k.faulted || decide (i ≠ 0) || decide (f = .overrange) }

/-- What a counter fault does to the line: LINE stops, a web holds (R6, R152, R153). -/
def State.counterCause (s : State) (i : CounterId) : State :=
  if i = 0 then s.stopCause .trackingLost (some (counterSubject i)) else s.addHold .webCounter

theorem State.counterFault_eq (s : State) (i : CounterId) (f : FaultKind) :
    s.counterFault i f =
      ((s.onCounter i fun k => k.faultedBy i f).counterCause i).raise .counterFault ⟨.counter, i.val⟩
        (natBytes 1 f.ctorIdx ++ natBytes 6 (s.counter i).pos) := by
  have same : (s.onCounter i fun k =>
      { k with
        faultRecord := some { kind := f, position := (s.counter i).pos }, faultCount := countUp 255 k.faultCount
        faulted := k.faulted || decide (i ≠ 0) || decide (f = .overrange) }) = s.onCounter i fun k => k.faultedBy i f :=
    State.onCounter_congr rfl
  unfold State.counterFault State.counterCause
  dsimp only
  rw [same]
  rfl

theorem State.counterCause_within (s : State) (i : CounterId) : s.Within [.lcu, .map, .spc, .bnd, .lsv, .lnk] (s.counterCause i) :=
  .ite (fun _ => s.stopCause_within _ _) fun _ => s.addHold_within _

/-- The part's own work leaves the counters. -/
theorem State.Touches.counter {bs : List Block} {s t : State} (h : s.Touches bs t) (i : CounterId) : t.counter i = s.counter i := by
  unfold State.counter
  rw [h.lcu]

/-- What a counter fault leaves of the counters, and the blocks it does not reach (R6). -/
theorem State.counterFault_counter (s : State) (i : CounterId) (f : FaultKind) :
    (s.counterFault i f).counter i = (s.counter i).faultedBy i f ∧ ∀ j, j ≠ i → (s.counterFault i f).counter j = s.counter j := by
  have cause (j : CounterId) : (s.counterFault i f).counter j = (s.onCounter i fun k => k.faultedBy i f).counter j := by
    rw [State.counterFault_eq]
    exact ((State.counterCause_within _ i).step (State.raise_within ..) (by simp)).toTouches.counter j
  exact ⟨(cause i).trans (s.onCounter_self i _), fun j h => (cause j).trans (s.onCounter_ne i _ h)⟩

theorem State.counterCause_holds {s : State} {i : CounterId} (h : i ≠ 0) : (s.counterCause i).lsv.holds.webCounter = true := by
  rw [State.counterCause, if_neg h]
  exact s.addHold_has .webCounter

/-- Settles O7: a transition that faults is the update of its counter followed by the fault, whose parts are said one by one. -/
theorem encoderFaults : Obligations.EncoderFaults := by
  unfold Obligations.EncoderFaults
  refine ⟨fun s i ph held counts => ?transition, fun s i f => ?fault⟩
  case transition =>
    intro k
    have judged := exec_encoderTransition i ph held
    have counting : (s.withCounter i ph k).counting i = true := State.counting_iff.mpr ((s.withCounter_counts i ph).mpr counts)
    have taken (t : State) (h : (s.withCounter i ph k).takeTransition i k.refPhase ph = t) :
        exec (.encoderTransition i ph) s = .next t.beginFrame := judged.trans (by rw [← h])
    refine ⟨fun pair below above => taken _ ?debt, fun ha hb tally => taken _ ?transitions, fun pair debt reached => taken _ ?overrange⟩
    case debt =>
      rw [State.takeTransition_eq counting, classify_of_reverse pair]
      dsimp only
      unfold State.reverseCount
      rw [State.withCounter_self, if_pos ⟨below, above⟩, State.withCounter_onCounter _ _ _ _ _ rfl]
    case transitions =>
      rw [State.takeTransition_eq counting, classify_of_both ha hb]
      dsimp only
      unfold State.illegalCount
      rw [State.withCounter_self, if_pos tally, State.withCounter_onCounter _ _ _ _ _ rfl, tally]
      rfl
    case overrange =>
      rw [State.takeTransition_eq counting, classify_of_forward pair]
      dsimp only
      exact State.forwardCount_of_overrange (by simpa using debt) (by rw [State.withCounter_self]; exact reached)
  case fault =>
    have within := (State.counterCause_within (s.onCounter i fun k => k.faultedBy i f) i).step
      (State.raise_within _ .counterFault ⟨.counter, i.val⟩ (natBytes 1 f.ctorIdx ++ natBytes 6 (s.counter i).pos)) (by simp)
    obtain ⟨own, others⟩ := s.counterFault_counter i f
    refine ⟨own, others, fun web => ?web, fun line => ?line, ?noticed, ?frame⟩
    case web =>
      rw [State.counterFault_eq]
      exact State.counterCause_holds web
    case line =>
      subst line
      rw [State.counterFault_eq]
      exact State.stopCause_stopTaken _ .trackingLost .counter 0
    case noticed =>
      rw [State.counterFault_eq]
      exact State.raise_noticedWith ..
    case frame =>
      rw [State.counterFault_eq]
      exact ⟨within.same .obk (by simp), within.same .dst (by simp), within.same .dec (by simp), within.same .stk (by simp)⟩

/-! ### SetScale (R13) -/

theorem codeOf_val {n : Nat} (i : Fin n) : codeOf n i.val = some i := dif_pos i.isLt

/-- The line state is outside those that accept a command. -/
theorem State.not_lineIn_iff {s : State} {ls : List LineState} : (!s.lineIn ls) = true ↔ s.lsv.line ∉ ls := by
  simp [State.lineIn]

theorem within_iff {lo hi v : Nat} : within lo hi v = true ↔ lo ≤ v ∧ v ≤ hi := by simp [within]

theorem State.counterInUse_iff {s : State} {i : CounterId} : s.counterInUse i = true ↔ i.val ≤ s.walls := decide_eq_true_iff

/-- A refused command is answered with its status and changes nothing. -/
theorem State.answers_of_refuse {s : State} {c : Instr} {tag code status : Nat} {reply : List Byte} {cmd : State → State × List Byte}
    (serves : s.serves) (meaning : exec c s = hostCommand tag code cmd s) (refused : cmd s = s.refuse reply)
    (head : reply.head? = some (BitVec.ofNat 8 status)) : s.answers c tag code status := by
  refine ⟨reply, ?_, head⟩
  rw [meaning, hostCommand_serves _ _ _ serves, refused]
  rfl

/-- A refusal's first byte is its status. -/
theorem State.lineReply_head (s : State) : s.lineReply.head? = some (BitVec.ofNat 8 3) := rfl

theorem stateReply_head (x : Subject) (n : Nat) : (stateReply x n).head? = some (BitVec.ofNat 8 3) := rfl

theorem rangeReply_head (n : Nat) : (rangeReply n).head? = some (BitVec.ofNat 8 4) := rfl

/-- Settles O13: the checks are passed one by one in the order of R13. -/
theorem setScale : Obligations.SetScale := by
  unfold Obligations.SetScale
  intro s tag scale i serves c
  have meaning : exec c s = hostCommand tag 0x10 (fun t => t.setScale i.val scale) s := rfl
  have checked (h : s.lsv.line = .setup) : s.setScale i.val scale =
      if !s.counterInUse i then s.refuse (stateReply (counterSubject i) unusedState)
      else if 0 < (s.counter i).pos then s.refuse (stateReply (counterSubject i) 0)
      else if !within 1000 200000 scale then s.refuse (rangeReply 2)
      else (s.onCounter i fun c => { c with scale := scale, c := 0, debt := 0, tally := 0 }, okReply []) := by
    unfold State.setScale
    rw [if_neg (mt State.not_lineIn_iff.mp (by simp [h])), codeOf_val]
  have used (h : i.val ≤ s.walls) : ¬(!s.counterInUse i) = true := by simpa [State.counterInUse_iff] using h
  refine ⟨fun line => ?state, fun line unused => ?unused, fun line use moved => ?moved, fun line use rest out => ?range,
    fun line use rest low high => ?taken⟩
  case state => exact State.answers_of_refuse serves meaning (if_pos (State.not_lineIn_iff.mpr (by simpa using line))) s.lineReply_head
  case unused =>
    refine State.answers_of_refuse serves meaning ((checked line).trans (if_pos ?_)) (stateReply_head ..)
    simpa [State.counterInUse] using unused
  case moved =>
    exact State.answers_of_refuse serves meaning ((checked line).trans ((if_neg (used use)).trans (if_pos moved))) (stateReply_head ..)
  case range =>
    refine State.answers_of_refuse serves meaning
      ((checked line).trans ((if_neg (used use)).trans ((if_neg (by omega)).trans (if_pos ?_)))) (rangeReply_head 2)
    simp only [Bool.not_eq_true', ← Bool.not_eq_true, within_iff]
    omega
  case taken =>
    rw [meaning, hostCommand_serves _ _ _ serves, checked line, if_neg (used use), if_neg (by omega),
      if_neg (by simp [within_iff, low, high])]
    rfl

end Sys2Proof.Machine
end

section
/-! PROOF. A forward count of a single-face web (R3, R5, R8, R27, R92), with what holds, stops and the bond controller leave of the web map. -/

namespace Sys2Proof.Machine

/-! ### What the requests to the web map leave of the bridges -/

theorem State.lowerRa_bridges (s : State) (p : Nat) : (s.lowerRa p).map.bridges = s.map.bridges := by
  unfold State.lowerRa
  split
  · split <;> rfl
  · rfl

theorem State.setLostSpan_bridges (s : State) (x : BondSource) (b : Bool) : (s.setLostSpan x b).map.bridges = s.map.bridges := by
  cases x <;> rfl

theorem State.loseMark_bridges (s : State) (m : Mark) : (s.loseMark m).map.bridges = s.map.bridges := by
  have counted : ((s.lowerRa m.start).countLostMark).map.bridges = s.map.bridges := s.lowerRa_bridges m.start
  unfold State.loseMark
  dsimp only
  split
  · split
    · rw [State.setLostSpan_bridges]
      exact counted
    · exact counted
  · exact counted

theorem State.insertMark_bridges (s : State) (m : Mark) : (s.insertMark m).1.map.bridges = s.map.bridges := by
  have stored : (if s.map.marks.length < Config.mapCapacity then (s.setMarks (insertSorted m s.map.marks), InsertAnswer.stored)
      else if m.isChange then (s, .full) else (s.loseMark m, .lost)).1.map.bridges = s.map.bridges := by
    split
    · rfl
    · split
      · rfl
      · exact s.loseMark_bridges m
  unfold State.insertMark
  split
  · split
    · rfl
    · exact stored
  · exact stored

theorem State.closeSpan_bridges (s : State) (x : BondSource) (e : Nat) : (s.closeSpan x e).map.bridges = s.map.bridges := by
  unfold State.closeSpan
  split
  · rfl
  · split
    · exact s.setLostSpan_bridges x false
    · rfl

/-- A joint reaches no bridge but the one it is placed on. -/
theorem State.bridgeJoint_bridge (s : State) {j k : WebId} (b : BridgeEntry) (h : j ≠ k) : (s.bridgeJoint k b).bridge j = s.bridge j := by
  unfold State.bridgeJoint
  split
  · exact congrArg (fun v : Vector Bridge 3 => v[j]) (s.insertMark_bridges _)
  · split
    · exact s.onBridge_ne k _ h
    · exact congrArg (fun v : Vector Bridge 3 => v[j]) (s.lowerRa_bridges _)

theorem State.placeJoint_bridge (s : State) {i : SpliceId} {j : WebId} (pos before after : Nat) (suspect : Bool)
    (h : spliceWeb i ≠ some j) : (s.placeJoint i pos before after suspect).bridge j = s.bridge j := by
  unfold State.placeJoint
  split
  · next k at_k => exact s.bridgeJoint_bridge _ fun same => h (by rw [same, at_k])
  · exact congrArg (fun v : Vector Bridge 3 => v[j]) (s.insertMark_bridges _)

/-! ### What the bond controller leaves of the bridges -/

theorem State.Touches.map_eq {bs : List Block} {s t : State} (h : s.Touches bs t) (hb : Block.map ∉ Block.lnk :: bs := by simp) :
    t.map = s.map := h.same .map hb

theorem State.closeGlueSpan_bridges (s : State) (k : GlueId) : (s.closeGlueSpan k).map.bridges = s.map.bridges := by
  unfold State.closeGlueSpan
  split
  · exact s.closeSpan_bridges _ _
  · rfl

theorem State.judgeGap_bridges (s : State) (k : GlueId) (r : Nat) : (s.judgeGap k r).map.bridges = s.map.bridges := by
  unfold State.judgeGap
  split
  · dsimp only
    split
    · split
      · rw [(State.setGlueState_within ..).map_eq]
      · rw [(State.driveToward_within ..).map_eq, (State.setGlueState_within ..).map_eq]
    · split
      · split
        · rw [State.closeGlueSpan_bridges, (State.setGlueState_within ..).map_eq, (State.leavePair_within ..).map_eq]
        · rw [(State.driveToward_within ..).map_eq]
      · rfl
  · rfl

theorem State.evalGlue_bridges (s : State) (k : GlueId) : (s.evalGlue k).map.bridges = s.map.bridges := by
  unfold State.evalGlue
  split
  · split
    · rfl
    · dsimp only
      split
      · rfl
      · split
        · exact State.judgeGap_bridges _ k _
        · rfl
  · rfl

/-- What every turn keeps, all turns keep. -/
theorem State.forAll_keep {P : State → Prop} {n : Nat} {f : State → Fin n → State} (hf : ∀ t i, P t → P (f t i)) {s : State} (h : P s) :
    P (s.forAll n f) :=
  List.foldlRecOn _ _ h fun t ht i _ => hf t i ht

theorem State.evalBonds_bridges (s : State) : s.evalBonds.map.bridges = s.map.bridges := by
  unfold State.evalBonds
  refine State.forAll_keep (P := fun t => t.map.bridges = s.map.bridges) (fun t k h => (t.evalGlue_bridges k).trans h) ?_
  rw [(State.forAll_within State.evalZone_within).map_eq]

/-! ### What a hold or a stop leaves of the web map -/

/-- Outside PARK a change of the line state has nothing for the bond controller. -/
theorem State.changeLine_touches_of_ne_park {s : State} {new : LineState} (ho : s.lsv.line ≠ .park) (hn : new ≠ .park) :
    s.Touches [.lcu, .spc, .lsv, .lnk] (s.changeLine new) := by
  unfold State.changeLine State.announceBond
  dsimp only
  rw [if_neg (by simp [ho, hn])]
  exact (((s.enterLine_touches new).mono (by simp)).step (State.announceSplice_within ..) (by simp)).step (State.raiseLine_within ..) (by simp)

theorem State.changeLine_bridges (s : State) (new : LineState) : (s.changeLine new).map.bridges = s.map.bridges := by
  have entered : (((s.putLine new).setLineEntries).announceSplice new).map = s.map :=
    (((s.enterLine_touches new).mono (by simp)).step (State.announceSplice_within ..) (by simp) :
      s.Touches [.lcu, .spc, .lsv, .lnk] _).map_eq
  unfold State.changeLine State.announceBond
  dsimp only
  rw [(State.raiseLine_within ..).map_eq]
  split
  · rw [State.evalBonds_bridges, entered]
  · rw [entered]

theorem State.holdsChanged_touches (s : State) (h : HoldSet) : s.Touches [.lcu, .spc, .lsv, .lnk] (s.holdsChanged h) := by
  have put := (s.putHolds_touches h).mono (cs := [.lcu, .spc, .lsv, .lnk]) (by simp)
  unfold State.holdsChanged
  dsimp only
  split
  case h_1 line =>
    split
    · exact put.step (State.raiseLine_within ..) (by simp)
    · exact put.trans (State.changeLine_touches_of_ne_park (by simp [line]) (by simp))
  case h_2 line =>
    split
    · exact put.trans (State.changeLine_touches_of_ne_park (by simp [line]) (by simp))
    · exact put.step (State.raiseLine_within ..) (by simp)
  all_goals exact put

theorem State.addHold_touches (s : State) (c : HoldCause) : s.Touches [.lcu, .spc, .lsv, .lnk] (s.addHold c) := by
  unfold State.addHold
  split
  · exact .refl s
  · exact s.holdsChanged_touches _

theorem State.removeHold_touches (s : State) (c : HoldCause) : s.Touches [.lcu, .spc, .lsv, .lnk] (s.removeHold c) := by
  unfold State.removeHold
  split
  · exact s.holdsChanged_touches _
  · exact .refl s

theorem State.stopCause_bridges (s : State) (c : StopCause) (d : Option Subject) : (s.stopCause c d).map.bridges = s.map.bridges := by
  unfold State.stopCause
  split
  case h_1 | h_2 => exact State.changeLine_bridges ..
  case h_3 =>
    dsimp only
    split
    · exact State.changeLine_bridges ..
    · split <;> rfl
  case h_4 | h_5 => exact State.changeLine_bridges ..
  all_goals rfl

/-! ### A splice station's part of an advance -/

theorem State.windowEnds_bridge (s : State) {i : SpliceId} {j : WebId} (h : spliceWeb i ≠ some j) : (s.windowEnds i).bridge j = s.bridge j := by
  have placed : (((s.disarmChannel i).handJoint i (s.suspectJoint i)).enterSplice i .suspect).bridge j = s.bridge j := by
    unfold State.bridge
    rw [(State.enterSplice_within ..).map_eq]
    exact (s.disarmChannel i).placeJoint_bridge _ _ _ _ h
  unfold State.windowEnds State.bridge
  dsimp only
  rw [(State.raise_within ..).map_eq, (State.addHold_touches ..).map_eq]
  exact placed

theorem State.windowTest_bridge (s : State) {i : SpliceId} {j : WebId} (h : spliceWeb i ≠ some j) : (s.windowTest i).bridge j = s.bridge j := by
  unfold State.windowTest
  split
  · split
    · exact s.windowEnds_bridge h
    · rfl
  · rfl

theorem State.reelOutTest_bridges (s : State) (i : SpliceId) : (s.reelOutTest i).map.bridges = s.map.bridges := by
  unfold State.reelOutTest
  split
  · split
    · exact State.stopCause_bridges ..
    · rfl
  · rfl

/-- An advance reaches no bridge but that of the station's own web. -/
theorem State.spliceAdvance_bridge (s : State) {i : SpliceId} {j : WebId} (d : Nat) (h : spliceWeb i ≠ some j) :
    (s.spliceAdvance i d).bridge j = s.bridge j := by
  have window := State.windowTest_bridge ((s.takePaper i d).fireTest i) h
  unfold State.spliceAdvance
  split
  · unfold State.bridge at window ⊢
    rw [(State.reelLowTest_within ..).map_eq, (State.armTest_within ..).map_eq, State.reelOutTest_bridges, window,
      (State.fireTest_within ..).map_eq, (State.takePaper_within ..).map_eq]
  · rfl

/-! ### The bridge content (R27, R31) -/

/-- The content set; the level tests speak to the line supervisor and the host alone. -/
theorem State.setContent_within (s : State) (k : WebId) (v : Nat) :
    (s.onBridge k fun b => { b with content := v }).Within [.lsv] (s.setContent k v) := by
  unfold State.setContent
  dsimp only
  exact .ite (fun _ => (State.evalBridgeEntry_within _).step (State.raise_within ..) (by simp)) fun _ => State.evalBridgeEntry_within _

theorem State.setContent_bridge (s : State) (k : WebId) (v : Nat) :
    (s.setContent k v).bridge k = { s.bridge k with content := v } := by
  unfold State.bridge
  rw [(s.setContent_within k v).map_eq]
  exact s.onBridge_self k _

theorem State.setContent_bridge_ne (s : State) {j k : WebId} (v : Nat) (h : j ≠ k) : (s.setContent k v).bridge j = s.bridge j := by
  unfold State.bridge
  rw [(s.setContent_within k v).map_eq]
  exact s.onBridge_ne k _ h

/-- The content of a bridge is its MAP's business alone. -/
theorem State.Touches.content {bs : List Block} {s t : State} (h : s.Touches bs t) (k : WebId) :
    (t.bridge k).content = (s.bridge k).content := by
  simpa using congrArg Bridge.content (h.levels k)

/-! ### The advance (R5, R8, R27) -/

/-- The tally window of an advance, told of the position that C has risen to (R5). -/
def Counter.advanced (k : Counter) (ph : Phase) : Counter :=
  { k with
    refPhase := ph, c := k.c + 1, tally := if k.tallyBase + 10000 ≤ k.counted.pos then 0 else k.tally
    tallyBase := if k.tallyBase + 10000 ≤ k.counted.pos then k.counted.pos else k.tallyBase }

theorem Counter.window_of_full {k : Counter} (h : k.tallyBase + 10000 ≤ k.pos) : k.window = { k with tally := 0, tallyBase := k.pos } :=
  if_pos h

theorem Counter.window_of_open {k : Counter} (h : ¬k.tallyBase + 10000 ≤ k.pos) : k.window = k := if_neg h

theorem Counter.counted_tallyBase (k : Counter) : k.counted.tallyBase = k.tallyBase := rfl

theorem Counter.window_counted (k : Counter) (ph : Phase) : { k.counted.window with refPhase := ph } = k.advanced ph := by
  unfold Counter.advanced
  by_cases h : k.tallyBase + 10000 ≤ k.counted.pos
  · rw [Counter.window_of_full (by rwa [Counter.counted_tallyBase]), if_pos h, if_pos h]
    rfl
  · rw [Counter.window_of_open (by rwa [Counter.counted_tallyBase]), if_neg h, if_neg h]
    rfl

theorem Counter.window_refPhase (k : Counter) (ph : Phase) : { k with refPhase := ph }.window = { k.window with refPhase := ph } := by
  by_cases h : k.tallyBase + 10000 ≤ k.pos
  · rw [Counter.window_of_full h, Counter.window_of_full (k := { k with refPhase := ph }) h]
    rfl
  · rw [Counter.window_of_open h, Counter.window_of_open (k := { k with refPhase := ph }) h]

/-- The counter of an advance: C, the tally window and the reference phase state (R2, R3, R5). -/
theorem State.withCounter_advanced (s : State) (i : CounterId) (ph : Phase) (k : Counter) :
    ((s.withCounter i ph k).onCounter i Counter.counted).onCounter i Counter.window = s.withCounter i ph (k.advanced ph) := by
  rw [State.withCounter_onCounter _ _ _ _ _ rfl, State.withCounter_onCounter _ _ _ _ _ (Counter.window_refPhase _ ph),
    ← k.window_counted ph]
  rfl

/-- A forward count that raises a position is an advance of its counter (R3, R8). -/
theorem exec_encoderTransition_advance {s : State} {i : CounterId} {ph : Phase} (held : s.held = false) (counts : s.counts i)
    (pair : ((s.counter i).refPhase, ph) ∈ forwardPairs) (debt : (s.counter i).debt = 0)
    (rises : (s.counter i).pos < (s.counter i).counted.pos) (room : (s.counter i).counted.pos < Config.posLimit) :
    exec (.encoderTransition i ph) s =
      .next (((s.withCounter i ph (s.counter i)).onCounter i Counter.counted).deliverAdvance i
        ((s.counter i).counted.pos - (s.counter i).pos)).beginFrame := by
  have own : (s.withCounter i ph (s.counter i)).counter i = { s.counter i with refPhase := ph } := State.withCounter_self ..
  rw [exec_encoderTransition i ph held,
    State.takeTransition_eq (State.counting_iff.mpr ((s.withCounter_counts i ph).mpr counts)), classify_of_forward pair]
  dsimp only
  rw [State.forwardCount_of_room (by rw [own]; exact debt) (by rw [own]; exact room), own]
  exact congrArg (fun t : State => Host.Outcome.next t.beginFrame) (if_pos rises)

section WebAdvance

/-- The state of an SFk advance before the other blocks take it: the counter and the bridge content risen (R8, R27; the order is log 2). -/
def State.webRisen (s : State) (w : WebId) (ph : Phase) : State :=
  let k := s.counter w.succ
  (s.withCounter w.succ ph (k.advanced ph)).setContent w ((s.bridge w).content + (k.counted.pos - k.pos))

/-- The splice stations' and the glue station's part of an SFk advance. -/
def State.webTakers (s : State) (w : WebId) (d : Nat) : State :=
  ((s.spliceAdvance (webStations w).1 d).spliceAdvance (webStations w).2 d).bondWebAdvance w

theorem exec_webAdvance {s : State} {w : WebId} {ph : Phase} (held : s.held = false) (counts : s.counts w.succ)
    (pair : ((s.counter w.succ).refPhase, ph) ∈ forwardPairs) (debt : (s.counter w.succ).debt = 0)
    (rises : (s.counter w.succ).pos < (s.counter w.succ).counted.pos) (room : (s.counter w.succ).counted.pos < Config.posLimit) :
    exec (.encoderTransition w.succ ph) s =
      .next ((s.webRisen w ph).webTakers w ((s.counter w.succ).counted.pos - (s.counter w.succ).pos)).beginFrame := by
  rw [exec_encoderTransition_advance held counts pair debt rises room]
  unfold State.deliverAdvance
  rw [dif_neg (Fin.succ_ne_zero w), Fin.pred_succ]
  unfold State.webAdvance
  rw [State.withCounter_advanced]
  rfl

theorem State.webTakers_touches (s : State) (w : WebId) (d : Nat) :
    s.Touches [.lcu, .map, .spc, .bnd, .lsv, .lnk] (s.webTakers w d) :=
  ((State.spliceAdvance_within ..).toTouches.step (State.spliceAdvance_within ..) (by simp)).step (State.bondWebAdvance_within ..) (by simp)

theorem spliceWeb_webStations (w : WebId) : spliceWeb (webStations w).1 = some w ∧ spliceWeb (webStations w).2 = some w := by
  revert w
  decide

theorem State.webTakers_bridge (s : State) {j w : WebId} (d : Nat) (h : j ≠ w) : (s.webTakers w d).bridge j = s.bridge j := by
  obtain ⟨liner, medium⟩ := spliceWeb_webStations w
  have other {i : SpliceId} (own : spliceWeb i = some w) : spliceWeb i ≠ some j := fun at_j => h (by simpa [own] using at_j.symm)
  have stations := (State.spliceAdvance_bridge (s.spliceAdvance (webStations w).1 d) d (other medium)).trans
    (s.spliceAdvance_bridge d (other liner))
  unfold State.bridge at stations ⊢
  unfold State.webTakers State.bondWebAdvance
  rw [State.evalGlue_bridges]
  exact stations

theorem State.webRisen_counter (s : State) (w : WebId) (ph : Phase) (i : CounterId) :
    (s.webRisen w ph).counter i = (s.withCounter w.succ ph ((s.counter w.succ).advanced ph)).counter i :=
  (State.setContent_within ..).toTouches.counter i

/-- The rise of C and of the content together leave X_k (R27). -/
theorem State.webRisen_mergeCoord {s : State} {w : WebId} (ph : Phase)
    (h : (s.bridge w).content ≤ (s.counter w.succ).pos) (rises : (s.counter w.succ).pos < (s.counter w.succ).counted.pos) :
    (s.webRisen w ph).mergeCoord w = s.mergeCoord w := by
  have pos : (s.webRisen w ph).webPos w = (s.counter w.succ).counted.pos := by
    unfold State.webPos
    rw [State.webRisen_counter, State.withCounter_self]
    rfl
  have content : ((s.webRisen w ph).bridge w).content = (s.bridge w).content + ((s.counter w.succ).counted.pos - (s.counter w.succ).pos) := by
    unfold State.webRisen
    dsimp only
    rw [State.setContent_bridge]
  unfold State.mergeCoord
  rw [pos, content]
  change _ = (s.counter w.succ).pos - (s.bridge w).content
  omega

/-- Settles O8: the counter and the bridge content rise, and then the blocks that take the advance leave both. -/
theorem webAdvance : Obligations.WebAdvance := by
  unfold Obligations.WebAdvance
  intro s w ph held counts k p k' pair debt rises room
  have takers := (s.webRisen w ph).webTakers_touches w (p - k.pos)
  refine ⟨(s.webRisen w ph).webTakers w (p - k.pos), exec_webAdvance held counts pair debt rises room, ?order, ?own, ?others, ?content,
    ?bridges, ?merge, ?frame⟩
  case order =>
    intro liner medium glue hl hm hg
    obtain rfl : liner = (webStations w).1 := Fin.ext hl
    obtain rfl : medium = (webStations w).2 := Fin.ext hm
    obtain rfl : glue = w.castSucc := Fin.ext hg
    rfl
  case own => rw [takers.counter, State.webRisen_counter, State.withCounter_self]; rfl
  case others =>
    intro j other
    rw [takers.counter, State.webRisen_counter, State.withCounter_ne _ _ _ other]
  case content => rw [takers.content]; exact congrArg Bridge.content (State.setContent_bridge ..)
  case bridges =>
    intro j other
    rw [State.webTakers_bridge _ _ other]
    exact State.setContent_bridge_ne _ _ other
  case merge =>
    intro below
    rw [← State.webRisen_mergeCoord ph below rises]
    unfold State.mergeCoord State.webPos
    rw [takers.content, takers.counter]
  case frame =>
    have all := ((s.withCounter w.succ ph k').setContent_within w ((s.bridge w).content + (p - k.pos))).toTouches.mono
      (cs := [.lcu, .map, .spc, .bnd, .lsv, .lnk]) (by simp) |>.trans takers
    exact ⟨all.same .obk (by simp), all.same .dst (by simp), all.same .dec (by simp), all.same .stk (by simp), all.link, all.held,
      all.fresh, all.pending⟩

end WebAdvance

end Sys2Proof.Machine
end

section
/-! PROOF. Power-on and the release of RESET: the reset values, and then each fault input judged (R113, R117, R153, R160). -/

namespace Sys2Proof.Machine

/-! ### Fault inputs with no owner to tell -/

theorem outputReports_of_unowned {old new : State} {o : OutputId} (ho : old.ownedBy o = none) (hn : new.ownedBy o = none) :
    outputReports old new o = [] := by
  simp [outputReports, ho, hn]

theorem State.sendReports_of_unowned {old new : State} (ho : ∀ o, old.ownedBy o = none) (hn : ∀ o, new.ownedBy o = none) :
    new.sendReports old = new := by
  have silent : (allIds 16).flatMap (outputReports old new) = [] :=
    List.flatMap_eq_nil_iff.mpr fun o _ => outputReports_of_unowned (ho o) (hn o)
  simp [State.sendReports, changeReports, silent]

/-- An output has no owner while no zone and no glue station is set (R103). -/
theorem State.ownedBy_of_unset {s : State} (zones : ∀ n, (s.zone n).settings = none) (glues : ∀ k, (s.glue k).settings = none)
    (o : OutputId) : s.ownedBy o = none := by
  have owners : s.owners o = [] := by simp [State.owners, State.zoneOwns, State.glueOwns, zones, glues]
  simp [State.ownedBy, State.ownership, owners]

/-- A fault input's record latched at a position (R113). -/
def FaultInput.latchedAt (f : FaultInput) (pos : Nat) : FaultInput := { f with latched := true, position := pos, count := countUp 255 f.count }

theorem State.latchInput_of_unowned {s : State} (unowned : ∀ o, s.ownedBy o = none) (i : InputId) :
    s.latchInput i =
      (((s.onInput i (·.latchedAt s.linePos)).lineAction i)).raise .inputTrip (inputSubject i)
        (natBytes 1 (((s.onInput i (·.latchedAt s.linePos)).lineAction i).input i).action.ctorIdx ++
          natBytes 6 (((s.onInput i (·.latchedAt s.linePos)).lineAction i).input i).position) := by
  have sent : (s.onInput i (·.latchedAt s.linePos)).sendReports s = s.onInput i (·.latchedAt s.linePos) :=
    State.sendReports_of_unowned unowned unowned
  unfold FaultInput.latchedAt at sent ⊢
  unfold State.latchInput
  dsimp only
  rw [sent]

/-! ### The judgement of a fault input at the start -/

/-- A part that has started with no fault input judged yet, or with some judged: in SETUP, nothing set, and its inputs as the defaults make
them act. -/
structure State.Starting (s : State) : Prop where
  bnd : s.bnd = .initial
  line : s.lsv.line = .setup
  pos : s.linePos = 0
  sending : s.lnk.sending = none
  action : ∀ i, (s.input i).action = if i = 0 then .trip else .none

/-- What judging a fault input of a starting part leaves. -/
structure State.JudgedFrom (s t : State) : Prop where
  same : ∀ b, b ∉ [Block.dst, Block.lsv, Block.lnk] → s.sameBlock t b
  dst : t.dst = { s.dst with inputs := t.dst.inputs }
  lsv : t.lsv = { s.lsv with stopRec := t.lsv.stopRec }
  lnk : t.lnk = { s.lnk with notices := t.lnk.notices }
  first : ∀ c, s.lnk.notices.head? = some (.partStarted c) → t.lnk.notices.head? = some (.partStarted c)
  held : t.held = s.held
  fresh : t.fresh = s.fresh
  pending : t.pending = s.pending

theorem State.JudgedFrom.refl (s : State) : s.JudgedFrom s where
  same b _ := by cases b <;> rfl
  dst := rfl
  lsv := rfl
  lnk := rfl
  first _ h := h
  held := rfl
  fresh := rfl
  pending := rfl

theorem State.JudgedFrom.trans {s t u : State} (h : s.JudgedFrom t) (h' : t.JudgedFrom u) : s.JudgedFrom u where
  same b hb := (h.same b hb).trans (h'.same b hb)
  dst := by rw [h'.dst, h.dst]
  lsv := by rw [h'.lsv, h.lsv]
  lnk := by rw [h'.lnk, h.lnk]
  first c hc := h'.first c (h.first c hc)
  held := h'.held.trans h.held
  fresh := h'.fresh.trans h.fresh
  pending := h'.pending.trans h.pending

theorem raiseIn_head? {k : NoticeKind} {c : ResetCause} (hk : k ≠ .partStarted) (x : Subject) (d : List Byte) {es : List NoticeEntry}
    (h : es.head? = some (.partStarted c)) : (raiseIn k x d es).head? = some (.partStarted c) := by
  obtain ⟨rest, rfl⟩ := List.head?_eq_some_iff.mp h
  unfold raiseIn
  rw [if_neg fun same => hk same.1.symm]
  rfl

theorem State.raise_judgedFrom {s : State} (quiet : s.lnk.sending = none) {k : NoticeKind} (hk : k ≠ .partStarted) (x : Subject)
    (d : List Byte) : s.JudgedFrom (s.raise k x d) where
  same b hb := by cases b <;> first | rfl | simp at hb
  dst := rfl
  lsv := rfl
  lnk := by simp [State.raise, quiet, raiseInSending]
  first c h := raiseIn_head? hk x d h
  held := rfl
  fresh := rfl
  pending := rfl

theorem State.onInput_judgedFrom (s : State) (i : InputId) (f : FaultInput → FaultInput) : s.JudgedFrom (s.onInput i f) where
  same b hb := by cases b <;> first | rfl | simp at hb
  dst := rfl
  lsv := rfl
  lnk := rfl
  first _ h := h
  held := rfl
  fresh := rfl
  pending := rfl

theorem State.setRecord_judgedFrom (s : State) (r : StopRecord) : s.JudgedFrom (s.setRecord r) where
  same b hb := by cases b <;> first | rfl | simp at hb
  dst := rfl
  lsv := rfl
  lnk := rfl
  first _ h := h
  held := rfl
  fresh := rfl
  pending := rfl

/-- The line action of a fault input in SETUP: FI1 has TRIP and the others NONE (R117, R153). -/
theorem State.lineAction_of_starting {s : State} (start : s.Starting) (i : InputId) :
    s.lineAction i = if i = 0 then (s.setRecord (s.setupRecord .trip (some (inputSubject i)))).raiseLine .setup else s := by
  unfold State.lineAction
  rw [start.action]
  by_cases first : i = 0
  · simp only [if_pos first]
    unfold State.stopCause
    rw [start.line]
  · simp only [if_neg first]

theorem State.Starting.judged {s t : State} (start : s.Starting) (h : s.JudgedFrom t) (action : ∀ i, (t.input i).action = (s.input i).action) :
    t.Starting where
  bnd := Eq.trans (h.same .bnd (by simp)) start.bnd
  line := by rw [h.lsv]; exact start.line
  pos := by
    have lcu : t.lcu = s.lcu := h.same .lcu (by simp)
    rw [← start.pos]
    unfold State.linePos State.counter
    rw [lcu]
  sending := by rw [h.lnk]; exact start.sending
  action i := (action i).trans (start.action i)

theorem State.Starting.unowned {s : State} (start : s.Starting) (o : OutputId) : s.ownedBy o = none := by
  refine State.ownedBy_of_unset (fun n => ?_) (fun k => ?_) o
  · simp [State.zone, start.bnd, Bnd.initial, Zone.initial]
  · simp [State.glue, start.bnd, Bnd.initial, GlueStation.initial]

/-- A latch of a starting part: the record latched at 0, FI1 as the latest stop cause. -/
theorem State.latchInput_of_starting {s : State} (start : s.Starting) (i : InputId) :
    s.JudgedFrom (s.latchInput i) ∧ (s.latchInput i).dst = (s.onInput i (·.latchedAt 0)).dst ∧
      (s.latchInput i).lsv.stopRec = if i = 0 then some (s.setupRecord .trip (some (inputSubject 0))) else s.lsv.stopRec := by
  have latched : (s.onInput i (·.latchedAt 0)).Starting := start.judged (s.onInput_judgedFrom i _) fun j => by
    by_cases same : j = i
    · subst same
      rw [State.onInput_self]
      rfl
    · exact congrArg FaultInput.action (getElem_modifyAt_ne s.dst.inputs _ same)
  have acted : (s.onInput i (·.latchedAt 0)).JudgedFrom ((s.onInput i (·.latchedAt 0)).lineAction i) := by
    rw [State.lineAction_of_starting latched]
    split
    · refine (State.setRecord_judgedFrom _ _).trans (State.raise_judgedFrom (k := .lineState) ?_ (by simp) _ _)
      exact latched.sending
    · exact .refl _
  rw [State.latchInput_of_unowned start.unowned, start.pos]
  refine ⟨((s.onInput_judgedFrom i _).trans acted).trans (State.raise_judgedFrom ?_ (by simp) _ _), ?_, ?_⟩
  · rw [acted.lnk]
    exact latched.sending
  · rw [State.raise_dst, State.lineAction_of_starting latched]
    split <;> rfl
  · rw [State.raise_lsv, State.lineAction_of_starting latched]
    split
    · next first => subst first; rfl
    · rfl

/-- Fault input `i` judged: latched when its level is the active one and it is not latched yet. -/
def FaultInput.judged (f : FaultInput) : FaultInput := if f.active && !f.latched then f.latchedAt 0 else f

theorem State.judgeInput_of_starting {s : State} (start : s.Starting) (i : InputId) :
    s.JudgedFrom (s.judgeInput i) ∧ (s.judgeInput i).dst = (s.onInput i FaultInput.judged).dst ∧
      (s.judgeInput i).lsv.stopRec =
        if i = 0 ∧ ((s.input 0).active && !(s.input 0).latched) = true then some (s.setupRecord .trip (some (inputSubject 0)))
        else s.lsv.stopRec := by
  have dst (f : FaultInput → FaultInput) (h : FaultInput.judged (s.input i) = f (s.input i)) :
      (s.onInput i FaultInput.judged).dst = (s.onInput i f).dst :=
    congrArg (fun x => { s.dst with inputs := s.dst.inputs.set i.val x }) h
  unfold State.judgeInput
  split
  · next latches =>
    obtain ⟨judged, record, stop⟩ := State.latchInput_of_starting start i
    refine ⟨judged, record.trans (dst (·.latchedAt 0) (if_pos latches)).symm, stop.trans ?_⟩
    by_cases first : i = 0
    · subst first; simp [latches]
    · simp [first]
  · next rests =>
    refine ⟨.refl s, ?_, ?_⟩
    · rw [dst id (if_neg rests)]
      simp [State.onInput, modifyAt]
    · exact (if_neg fun ⟨first, latches⟩ => rests (first ▸ latches)).symm

/-- All four fault inputs judged at the start. -/
def State.judgeAll (s : State) : State := s.forAll 4 State.judgeInput

theorem State.judgeAll_eq (s : State) : s.judgeAll = (((s.judgeInput 0).judgeInput 1).judgeInput 2).judgeInput 3 := rfl

theorem State.judgeInput_starting {s : State} (start : s.Starting) (i : InputId) : (s.judgeInput i).Starting := by
  obtain ⟨judged, dst, -⟩ := State.judgeInput_of_starting start i
  refine start.judged judged fun j => ?_
  have input : (s.judgeInput i).input j = (s.onInput i FaultInput.judged).input j := congrArg (fun d : Dst => d.inputs[j]) dst
  rw [input]
  by_cases same : j = i
  · subst same
    rw [State.onInput_self]
    unfold FaultInput.judged
    split <;> rfl
  · rw [State.onInput_ne _ _ _ same]

theorem State.judgeInput_input {s : State} (start : s.Starting) (i j : InputId) :
    (s.judgeInput i).input j = if j = i then (s.input j).judged else s.input j := by
  have input : (s.judgeInput i).input j = (s.onInput i FaultInput.judged).input j :=
    congrArg (fun d : Dst => d.inputs[j]) (State.judgeInput_of_starting start i).2.1
  rw [input]
  split
  · next same => subst same; exact s.onInput_self j _
  · next other => exact s.onInput_ne i _ other

/-- What the judgement of all fault inputs leaves: each judged in its turn, and the stop record that FI1 makes. -/
theorem State.judgeAll_of_starting {s : State} (start : s.Starting) :
    s.JudgedFrom s.judgeAll ∧ (∀ j, s.judgeAll.input j = (s.input j).judged) ∧
      s.judgeAll.lsv.stopRec =
        if ((s.input 0).active && !(s.input 0).latched) = true then some (s.setupRecord .trip (some (inputSubject 0)))
        else s.lsv.stopRec := by
  have one := State.judgeInput_starting start 0
  have two := State.judgeInput_starting one 1
  have three := State.judgeInput_starting two 2
  rw [State.judgeAll_eq]
  refine ⟨?_, fun j => ?_, ?_⟩
  · exact (((State.judgeInput_of_starting start 0).1.trans (State.judgeInput_of_starting one 1).1).trans
      (State.judgeInput_of_starting two 2).1).trans (State.judgeInput_of_starting three 3).1
  · rw [State.judgeInput_input three, State.judgeInput_input two, State.judgeInput_input one, State.judgeInput_input start]
    revert j
    simp [Fin.forall_fin_succ]
  · have later {t : State} (h : t.Starting) {i : InputId} (hi : i ≠ 0) : (t.judgeInput i).lsv.stopRec = t.lsv.stopRec := by
      rw [(State.judgeInput_of_starting h i).2.2, if_neg fun both => hi both.1]
    rw [later three (by decide), later two (by decide), later one (by decide), (State.judgeInput_of_starting start 0).2.2]
    simp

/-! ### The part at its power-on values -/

theorem Dst.initial_output (oc os : Vector Bool 16) (supply : Supply) (warning : Bool) (levels : Vector Bool 4) (o : OutputId) :
    (Dst.initial oc os supply warning levels).outputs[o] = Output.initial oc[o] os[o] := by
  simp [Dst.initial]

theorem Dst.initial_input (oc os : Vector Bool 16) (supply : Supply) (warning : Bool) (levels : Vector Bool 4) (f : InputId) :
    (Dst.initial oc os supply warning levels).inputs[f] = FaultInput.initial f levels[f] := by
  have number : ∀ f : InputId, (#v[0, 1, 2, 3] : Vector InputId 4)[f] = f := by decide
  have own := number f
  simp only [Fin.getElem_fin] at own
  simp [Dst.initial, own]

theorem State.resetPart_input (s : State) (c : ResetCause) (f : InputId) :
    (s.resetPart c).input f = FaultInput.initial f (s.input f).level := by
  unfold State.input State.resetPart
  dsimp only
  rw [Dst.initial_input]
  simp

theorem State.resetPart_starting (s : State) (c : ResetCause) : (s.resetPart c).Starting where
  bnd := rfl
  line := rfl
  pos := by simp [State.linePos, State.counter, State.resetPart, Lcu.initial, Counter.initial, Counter.pos]
  sending := rfl
  action i := by rw [State.resetPart_input]; rfl

theorem FaultInput.initial_judged (f : InputId) (level : Bool) :
    (FaultInput.initial f level).judged =
      { FaultInput.initial f level with latched := level == (f != 0), count := if level == (f != 0) then 1 else 0 } := by
  unfold FaultInput.judged FaultInput.active FaultInput.latchedAt FaultInput.initial
  dsimp only
  cases level == (f != 0) <;> rfl

theorem State.resetPart_slit (s : State) (c : ResetCause) (k : SlitId) : (s.resetPart c).slit k = (s.slit k).restarted := by
  simp [State.slit, State.resetPart]

theorem State.resetPart_output (s : State) (c : ResetCause) (o : OutputId) :
    (s.resetPart c).output o = Output.initial (s.output o).overCurrent (s.output o).openSense := by
  unfold State.output State.resetPart
  dsimp only
  rw [Dst.initial_output]
  simp

/-- The part started: reset values, and the fault inputs judged. -/
def State.started (s : State) (c : ResetCause) : State := (s.resetPart c).judgeAll

/-- A low FI1 leaves TRIP as the latest cause of a last record (R153). -/
theorem State.started_stopRec (s : State) (c : ResetCause) :
    (s.started c).lsv.stopRec =
      if (s.input 0).level then none
      else some { active := false, ruling := none, detail := none, position := none, latest := .trip
                  latestDetail := some ⟨.faultInput, 1⟩, count := 0 } := by
  rw [State.started, (State.judgeAll_of_starting (s.resetPart_starting c)).2.2, State.resetPart_input]
  cases (s.input 0).level <;> rfl

/-- The part with its RESET terminal released. -/
def State.released (s : State) : State := { s with held := false }

theorem State.released_eq {s : State} (h : s.held = false) : s.released = s := by
  unfold State.released
  rw [← h]

/-- Settles O4: the part at its power-on values stands but for what the judgement of the fault inputs makes of them. -/
theorem powerOnStarts : Obligations.PowerOnStarts := by
  unfold Obligations.PowerOnStarts
  intro s i c start
  have runs : exec i s = .next (s.released.started c).beginFrame := by
    rcases start with ⟨rfl, rfl, held⟩ | ⟨rfl, rfl⟩
    · rw [State.released_eq held]
      change execPowerOn s = _
      unfold execPowerOn
      rw [if_neg (by simp [held])]
      rfl
    · rfl
  obtain ⟨judged, inputs, -⟩ := State.judgeAll_of_starting (s.released.resetPart_starting c)
  have dec : (s.released.started c).dec = (s.released.resetPart c).dec := judged.same .dec (by simp)
  refine ⟨_, runs, judged.same .lcu (by simp), judged.same .map (by simp), judged.same .obk (by simp), judged.same .bnd (by simp),
    judged.same .spc (by simp), judged.same .stk (by simp), ?dec, fun k => ?slit, fun o => ?output, ?stage, fun f => ?input, ?lsv, ?link,
    judged.held, judged.fresh, judged.pending⟩
  case dec =>
    rw [dec]
    rfl
  case slit => exact (congrArg (fun d : Dec => d.stations[k]) dec).trans (s.released.resetPart_slit c k)
  case output => exact (congrArg (fun d : Dst => d.outputs[o]) judged.dst).trans (s.released.resetPart_output c o)
  case stage =>
    rw [State.started, judged.dst]
    exact ⟨rfl, rfl, rfl, rfl⟩
  case input =>
    rw [State.started, inputs f, State.resetPart_input, FaultInput.initial_judged]
    rfl
  case lsv =>
    have lsv : (s.released.started c).lsv = { (s.released.resetPart c).lsv with stopRec := (s.released.started c).lsv.stopRec } := judged.lsv
    rw [lsv, State.started_stopRec]
    rfl
  case link =>
    rw [State.started, judged.lnk]
    exact ⟨rfl, rfl, rfl, rfl, rfl, rfl, rfl, rfl, rfl, rfl, judged.first c rfl⟩

end Sys2Proof.Machine
end

section
/-! PROOF. The evaluation of setpoints and targets (R84, R92), and with it Commit, Park and Unpark (R149, R156). -/

namespace Sys2Proof.Machine

/-! ### Turns in rising order -/

/-- Index `i` comes to its turn as the turns before it leave what they keep, and the turns behind it keep what its own turn leaves. -/
theorem State.forAll_turn {n : Nat} {R : State → State → Prop} (refl : ∀ s, R s s) (trans : ∀ {s t u}, R s t → R t u → R s u)
    {f : State → Fin n → State} {i : Fin n} (hf : ∀ t j, j ≠ i → R t (f t j)) (s : State) : ∃ x, R s x ∧ R (f x i) (s.forAll n f) := by
  obtain ⟨pre, post, split⟩ := List.append_of_mem (List.mem_finRange i)
  have distinct : (pre ++ i :: post).Nodup := split ▸ List.nodup_finRange n
  have apart := List.nodup_middle.mp distinct
  simp only [List.nodup_cons, List.mem_append, not_or] at apart
  obtain ⟨⟨hpre, hpost⟩, -⟩ := apart
  have others (l : List (Fin n)) (hl : i ∉ l) (t : State) : R t (l.foldl f t) :=
    List.foldlRecOn l f (refl t) fun u hu j hj => trans hu (hf u j fun e => hl (e ▸ hj))
  have turns : s.forAll n f = post.foldl f (f (pre.foldl f s) i) := by
    simp [State.forAll, allIds, split]
  exact ⟨pre.foldl f s, others pre hpre s, turns ▸ others post hpost _⟩

/-! ### What a lookup reads (R34, R84, R92) -/

/-- All that the grade lookups, the setpoints and the targets are chosen by is the same in both states. -/
structure State.SameLookups (s t : State) : Prop where
  line : t.lsv.line = s.lsv.line
  lcu : t.lcu = s.lcu
  obk : t.obk = s.obk
  dec : t.dec = s.dec
  bnd : t.bnd = { s.bnd with zones := t.bnd.zones, glues := t.bnd.glues }
  changes : t.map.marks.filter Mark.isChange = s.map.marks.filter Mark.isChange
  bridges : t.map.bridges = s.map.bridges
  zones : ∀ n, (t.zone n).settings = (s.zone n).settings
  glues : ∀ k, (t.glue k).settings = (s.glue k).settings

theorem State.SameLookups.refl (s : State) : s.SameLookups s := ⟨rfl, rfl, rfl, rfl, rfl, rfl, rfl, fun _ => rfl, fun _ => rfl⟩

theorem State.SameLookups.trans {s t u : State} (h : s.SameLookups t) (h' : t.SameLookups u) : s.SameLookups u where
  line := h'.line.trans h.line
  lcu := h'.lcu.trans h.lcu
  obk := h'.obk.trans h.obk
  dec := h'.dec.trans h.dec
  bnd := by rw [h'.bnd, h.bnd]
  changes := h'.changes.trans h.changes
  bridges := h'.bridges.trans h.bridges
  zones n := (h'.zones n).trans (h.zones n)
  glues k := (h'.glues k).trans (h.glues k)

theorem State.SameLookups.linePos {s t : State} (h : s.SameLookups t) : t.linePos = s.linePos := by
  unfold State.linePos State.counter
  rw [h.lcu]

/-- The grade lookup reads the ORDER_CHANGE marks alone. -/
theorem State.gradeLookup_eq (s : State) (p : Nat) :
    s.gradeLookup p =
      match ((s.map.marks.filter Mark.isChange).filter fun m => decide (m.start ≤ p)).getLast? with
      | some m =>
        match m.body with
        | .orderChange out incoming _ =>
          if p < m.start + s.zc then
            match s.gradeOf out with
            | .grade g => .changeZone g
            | other => other
          else
            match incoming with
            | some t => s.gradeOf t
            | none => s.gradeOf out
        | _ => .none
      | none =>
        match s.runningOrder with
        | some o => .grade o.grade
        | none => .none := by
  unfold State.gradeLookup
  rw [List.filter_filter]
  simp only [Bool.and_comm] <;> rfl

theorem State.SameLookups.gradeLookup {s t : State} (h : s.SameLookups t) (p : Nat) : t.gradeLookup p = s.gradeLookup p := by
  have of (tag : Nat) : t.gradeOf tag = s.gradeOf tag := by
    unfold State.gradeOf State.findOrder
    rw [h.obk]
  have zc : t.zc = s.zc := by
    unfold State.zc
    rw [h.dec]
  have running : t.runningOrder = s.runningOrder := by
    unfold State.runningOrder State.orderIn
    rw [h.obk]
  rw [t.gradeLookup_eq, s.gradeLookup_eq, h.changes, zc, running]
  simp only [of]

theorem State.SameLookups.gradeEntry {s t : State} (h : s.SameLookups t) (g : Nat) : t.gradeEntry g = s.gradeEntry g := by
  unfold State.gradeEntry
  rw [h.bnd]

theorem State.SameLookups.gradeAt {s t : State} (h : s.SameLookups t) (p : Nat) : t.gradeAt p = s.gradeAt p := by
  unfold State.gradeAt
  rw [h.gradeLookup]
  split
  · exact h.gradeEntry _
  · rfl

theorem State.SameLookups.chooseSetpoint {s t : State} (h : s.SameLookups t) (n : ZoneId) : t.chooseSetpoint n = s.chooseSetpoint n := by
  have standby : t.bnd.standby = s.bnd.standby := by rw [h.bnd]
  have lookup : t.zoneLookup n = s.zoneLookup n := by
    unfold State.zoneLookup State.zoneIn
    rw [h.linePos, h.zones, h.bnd]
  unfold State.chooseSetpoint
  rw [h.line, lookup, h.gradeAt, standby]

theorem State.SameLookups.glueLookup {s t : State} (h : s.SameLookups t) (k : GlueId) : t.glueLookup k = s.glueLookup k := by
  have content (w : WebId) : (t.bridge w).content = (s.bridge w).content := by
    unfold State.bridge
    rw [h.bridges]
  unfold State.glueLookup State.gluePoint
  rw [h.linePos, h.bnd]
  simp only [content]

/-- A station whose target is the one chosen for it: the choice is the same again. -/
theorem State.SameLookups.chooseTarget {s t : State} (h : s.SameLookups t) {k : GlueId} {c : GlueSettings}
    (kept : (t.glue k).target = (s.glue k).target ∨ (t.glue k).target = s.chooseTarget k c) :
    t.chooseTarget k c = s.chooseTarget k c := by
  have staged : t.stagedOrder = s.stagedOrder := by
    unfold State.stagedOrder State.orderIn
    rw [h.obk]
  unfold State.chooseTarget at kept ⊢
  rw [h.line, h.glueLookup, h.gradeAt, staged]
  simp only [h.gradeEntry]
  split
  · rfl
  · next hl =>
    rw [if_neg hl] at kept
    split
    · rfl
    · next hg =>
      rw [hg] at kept
      dsimp only at kept
      split
      · next hs =>
        rw [hs] at kept
        dsimp only at kept
        split
        · rfl
        · next he =>
          rw [he] at kept
          exact kept.elim id id
      · next hs =>
        rw [hs] at kept
        exact kept.elim id id

/-! ### Work on one glue station -/

theorem Mark.isChange_of_isOpenSpan {m : Mark} {x : BondSource} (h : m.isOpenSpan x = true) : m.isChange = false := by
  unfold Mark.isOpenSpan at h
  unfold Mark.isChange
  split at h
  · next body => rw [body]
  · cases h

theorem closeFirst_changes (x : BondSource) (e : Nat) (ms : List Mark) :
    (closeFirst x e ms).filter Mark.isChange = ms.filter Mark.isChange := by
  induction ms with
  | nil => rfl
  | cons m ms ih =>
    unfold closeFirst
    split
    · next opened =>
      have before := Mark.isChange_of_isOpenSpan opened
      have after : ({ m with finish := some (max m.start e) } : Mark).isChange = false := before
      rw [List.filter_cons_of_neg (Bool.eq_false_iff.mp before), List.filter_cons_of_neg (Bool.eq_false_iff.mp after)]
    · simp only [List.filter_cons, ih]

theorem State.setLostSpan_marks (s : State) (x : BondSource) (b : Bool) : (s.setLostSpan x b).map.marks = s.map.marks := by
  cases x <;> rfl

theorem State.closeSpan_changes (s : State) (x : BondSource) (e : Nat) :
    (s.closeSpan x e).map.marks.filter Mark.isChange = s.map.marks.filter Mark.isChange := by
  unfold State.closeSpan
  split
  · exact closeFirst_changes x e _
  · split
    · rw [State.setLostSpan_marks]
    · rfl

/-- What a move of glue station `k` leaves: the other stations and the zones, and of station `k` its target, its settings, its rules in force
and its readings. -/
structure State.MovesGlue (k : GlueId) (s t : State) : Prop where
  others : ∀ j, j ≠ k → t.glue j = s.glue j
  kept : t.glue k =
    { s.glue k with
      state := (t.glue k).state, keepWet := (t.glue k).keepWet, levelA := (t.glue k).levelA, levelB := (t.glue k).levelB
      span := (t.glue k).span }
  bnd : t.bnd = { s.bnd with glues := t.bnd.glues }
  changes : t.map.marks.filter Mark.isChange = s.map.marks.filter Mark.isChange

theorem State.MovesGlue.refl (k : GlueId) (s : State) : s.MovesGlue k s := ⟨fun _ _ => rfl, rfl, rfl, rfl⟩

theorem State.MovesGlue.trans {k : GlueId} {s t u : State} (h : s.MovesGlue k t) (h' : t.MovesGlue k u) : s.MovesGlue k u where
  others j hj := (h'.others j hj).trans (h.others j hj)
  kept := by rw [h'.kept, h.kept]
  bnd := by rw [h'.bnd, h.bnd]
  changes := h'.changes.trans h.changes

/-- A move that changes the station's record alone. -/
theorem State.onGlue_movesGlue (s : State) (k : GlueId) (f : GlueStation → GlueStation)
    (hf : ∀ g, f g = { g with
      state := (f g).state, keepWet := (f g).keepWet, levelA := (f g).levelA, levelB := (f g).levelB, span := (f g).span }) :
    s.MovesGlue k (s.onGlue k f) where
  others _ hj := s.onGlue_ne k f hj
  kept := by
    rw [State.onGlue_self]
    exact hf _
  bnd := rfl
  changes := rfl

theorem State.setGlueState_movesGlue (s : State) (k : GlueId) (new : GlueState) : s.MovesGlue k (s.setGlueState k new) :=
  s.onGlue_movesGlue k _ fun g => by split <;> rfl

theorem State.setPair_movesGlue (s : State) (k : GlueId) (a b : Level) : s.MovesGlue k (s.setPair k a b) :=
  s.onGlue_movesGlue k _ fun _ => rfl

theorem State.leavePair_movesGlue (s : State) (k : GlueId) : s.MovesGlue k (s.leavePair k) := by
  unfold State.leavePair
  split <;> exact s.setPair_movesGlue k _ _

theorem State.driveToward_movesGlue (s : State) (k : GlueId) (r : Nat) : s.MovesGlue k (s.driveToward k r) := by
  unfold State.driveToward
  split <;> exact s.setPair_movesGlue k _ _

theorem State.closeGlueSpan_movesGlue (s : State) (k : GlueId) : s.MovesGlue k (s.closeGlueSpan k) := by
  unfold State.closeGlueSpan
  split
  · have closed : s.MovesGlue k (s.closeSpan (.glue k) (s.gluePoint k)) := by
      have bnd : (s.closeSpan (.glue k) (s.gluePoint k)).bnd = s.bnd := (State.closeSpan_within ..).same .bnd (by simp)
      have glue (j : GlueId) : (s.closeSpan (.glue k) (s.gluePoint k)).glue j = s.glue j := by
        unfold State.glue
        rw [bnd]
      exact ⟨fun j _ => glue j, by rw [glue k], by rw [bnd], s.closeSpan_changes _ _⟩
    exact closed.trans (State.onGlue_movesGlue _ k _ fun _ => rfl)
  · exact .refl k s

theorem State.judgeGap_movesGlue (s : State) (k : GlueId) (r : Nat) : s.MovesGlue k (s.judgeGap k r) := by
  unfold State.judgeGap
  split
  · dsimp only
    split
    · split
      · exact s.setGlueState_movesGlue k _
      · exact (s.setGlueState_movesGlue k _).trans (State.driveToward_movesGlue ..)
    · split
      · split
        · exact ((s.leavePair_movesGlue k).trans (State.setGlueState_movesGlue ..)).trans (State.closeGlueSpan_movesGlue ..)
        · exact s.driveToward_movesGlue k r
      · exact .refl k s
  · exact .refl k s

/-! ### The evaluation of a target (R92) -/

/-- The target that station `k` has after its evaluation: the chosen one, of a station that is set and not OFF. -/
def State.nextTarget (s : State) (k : GlueId) : Nat :=
  match (s.glue k).settings with
  | some c => if (s.glue k).state = .off then (s.glue k).target else s.chooseTarget k c
  | none => (s.glue k).target

theorem State.onGlue_fixed {s : State} {k : GlueId} {f : GlueStation → GlueStation} (h : f (s.glue k) = s.glue k) : s.onGlue k f = s := by
  unfold State.glue at h
  unfold State.onGlue modifyAt
  simp only [Fin.getElem_fin] at h
  rw [h, Vector.set_getElem_self]

/-- An evaluation takes the next target, and the movement rule follows it. -/
theorem State.evalGlue_movesGlue (s : State) (k : GlueId) :
    (s.onGlue k fun g => { g with target := s.nextTarget k }).MovesGlue k (s.evalGlue k) := by
  have same (h : s.nextTarget k = (s.glue k).target) : (s.onGlue k fun g => { g with target := s.nextTarget k }).MovesGlue k s := by
    rw [State.onGlue_fixed (by rw [h])]
    exact .refl k s
  rcases set : (s.glue k).settings with _ | c
  · simp only [State.evalGlue, set]
    exact same (by simp only [State.nextTarget, set])
  · by_cases off : (s.glue k).state = .off
    · simp only [State.evalGlue, set, if_pos off]
      exact same (by simp only [State.nextTarget, set, if_pos off])
    · have next : s.nextTarget k = s.chooseTarget k c := by simp only [State.nextTarget, set, if_neg off]
      by_cases standing : s.chooseTarget k c = (s.glue k).target
      · simp only [State.evalGlue, set, if_neg off, if_pos standing]
        exact same (next.trans standing)
      · simp only [State.evalGlue, set, if_neg off, if_neg standing, next]
        split
        · exact State.judgeGap_movesGlue ..
        · exact .refl k _

theorem State.evalGlue_target (s : State) (k : GlueId) : ((s.evalGlue k).glue k).target = s.nextTarget k := by
  rw [(s.evalGlue_movesGlue k).kept, State.onGlue_self]

theorem State.evalGlue_settings (s : State) (k : GlueId) : ((s.evalGlue k).glue k).settings = (s.glue k).settings := by
  rw [(s.evalGlue_movesGlue k).kept, State.onGlue_self]

theorem State.evalGlue_ne (s : State) {j k : GlueId} (h : j ≠ k) : (s.evalGlue k).glue j = s.glue j :=
  ((s.evalGlue_movesGlue k).others j h).trans (s.onGlue_ne k _ h)

theorem State.evalGlue_bnd (s : State) (k : GlueId) : (s.evalGlue k).bnd = { s.bnd with glues := (s.evalGlue k).bnd.glues } :=
  (s.evalGlue_movesGlue k).bnd

theorem State.evalGlue_sameLookups (s : State) (k : GlueId) : s.SameLookups (s.evalGlue k) where
  line := congrArg Lsv.line ((s.evalGlue_within k).same .lsv (by simp))
  lcu := (s.evalGlue_within k).same .lcu (by simp)
  obk := (s.evalGlue_within k).same .obk (by simp)
  dec := (s.evalGlue_within k).same .dec (by simp)
  bnd := by rw [s.evalGlue_bnd k]
  changes := (s.evalGlue_movesGlue k).changes
  bridges := s.evalGlue_bridges k
  zones n := by
    unfold State.zone
    rw [s.evalGlue_bnd k]
  glues j := by
    by_cases own : j = k
    · subst own
      exact s.evalGlue_settings j
    · rw [s.evalGlue_ne own]

/-! ### The evaluation of a setpoint (R84) -/

/-- A zone is evaluated in PARK, and outside it when it is set (R84, log 21). -/
def State.evaluates (s : State) (n : ZoneId) : Bool := (s.zone n).settings.isSome || decide (s.lsv.line = .park)

theorem State.evalZone_eq (s : State) (n : ZoneId) :
    s.evalZone n =
      if s.evaluates n then s.onZone n fun z => { z with setpoint := (s.chooseSetpoint n).1, feedForward := (s.chooseSetpoint n).2 }
      else s := rfl

theorem State.evalZone_self (s : State) (n : ZoneId) :
    (s.evalZone n).zone n =
      if s.evaluates n then { s.zone n with setpoint := (s.chooseSetpoint n).1, feedForward := (s.chooseSetpoint n).2 } else s.zone n := by
  rw [State.evalZone_eq]
  split
  · exact s.onZone_self n _
  · rfl

theorem State.evalZone_ne (s : State) {m n : ZoneId} (h : m ≠ n) : (s.evalZone n).zone m = s.zone m := by
  rw [State.evalZone_eq]
  split
  · exact s.onZone_ne n _ h
  · rfl

theorem State.evalZone_bnd (s : State) (n : ZoneId) : (s.evalZone n).bnd = { s.bnd with zones := (s.evalZone n).bnd.zones } := by
  rw [State.evalZone_eq]
  split <;> rfl

theorem State.evalZone_settings (s : State) (m n : ZoneId) : ((s.evalZone n).zone m).settings = (s.zone m).settings := by
  by_cases own : m = n
  · subst own
    rw [State.evalZone_self]
    split <;> rfl
  · rw [s.evalZone_ne own]

theorem State.evalZone_sameLookups (s : State) (n : ZoneId) : s.SameLookups (s.evalZone n) where
  line := congrArg Lsv.line ((s.evalZone_within n).same .lsv (by simp))
  lcu := (s.evalZone_within n).same .lcu (by simp)
  obk := (s.evalZone_within n).same .obk (by simp)
  dec := (s.evalZone_within n).same .dec (by simp)
  bnd := by rw [s.evalZone_bnd n]
  changes := by rw [(s.evalZone_within n).map_eq]
  bridges := by rw [(s.evalZone_within n).map_eq]
  zones m := s.evalZone_settings m n
  glues k := by
    unfold State.glue
    rw [s.evalZone_bnd n]

theorem State.SameLookups.evaluates {s t : State} (h : s.SameLookups t) (n : ZoneId) : t.evaluates n = s.evaluates n := by
  unfold State.evaluates
  rw [h.zones, h.line]

/-! ### All setpoints and targets -/

/-- A stretch of the evaluation: the lookups stand, and so does zone `n`. -/
structure State.EvaluatesBeside (n : ZoneId) (s t : State) : Prop where
  lookups : s.SameLookups t
  zone : t.zone n = s.zone n

theorem State.evalZones_self (s : State) (n : ZoneId) :
    (s.forAll 12 State.evalZone).zone n =
      if s.evaluates n then { s.zone n with setpoint := (s.chooseSetpoint n).1, feedForward := (s.chooseSetpoint n).2 } else s.zone n := by
  obtain ⟨x, before, after⟩ := State.forAll_turn (R := State.EvaluatesBeside n) (fun s => ⟨.refl s, rfl⟩)
    (fun h h' => ⟨h.lookups.trans h'.lookups, h'.zone.trans h.zone⟩) (i := n)
    (fun t m hm => ⟨t.evalZone_sameLookups m, t.evalZone_ne hm.symm⟩) s
  rw [after.zone, State.evalZone_self, before.lookups.evaluates, before.lookups.chooseSetpoint, before.zone]

theorem State.evalZones_sameLookups (s : State) : s.SameLookups (s.forAll 12 State.evalZone) :=
  State.forAll_keep (P := s.SameLookups) (fun t n h => h.trans (t.evalZone_sameLookups n)) (.refl s)

theorem State.evalGlues_sameLookups (s : State) : s.SameLookups (s.forAll 4 State.evalGlue) :=
  State.forAll_keep (P := s.SameLookups) (fun t k h => h.trans (t.evalGlue_sameLookups k)) (.refl s)

theorem State.evalBonds_sameLookups (s : State) : s.SameLookups s.evalBonds :=
  s.evalZones_sameLookups.trans (State.evalGlues_sameLookups _)

/-- The setpoints that the evaluation leaves (R84). -/
theorem State.evalBonds_zone (s : State) (n : ZoneId) :
    s.evalBonds.zone n =
      if s.evaluates n then { s.zone n with setpoint := (s.chooseSetpoint n).1, feedForward := (s.chooseSetpoint n).2 } else s.zone n := by
  rw [← s.evalZones_self n]
  refine State.forAll_keep (P := fun t => t.zone n = (s.forAll 12 State.evalZone).zone n) (fun t k h => ?_) rfl
  rw [← h]
  unfold State.zone
  rw [t.evalGlue_bnd k]

/-- A stretch of the evaluation: the lookups stand, and so does glue station `k`. -/
structure State.EvaluatesPast (k : GlueId) (s t : State) : Prop where
  lookups : s.SameLookups t
  glue : t.glue k = s.glue k

/-- The target that the evaluation leaves a set station that is not OFF (R92). -/
theorem State.evalBonds_target {s : State} {k : GlueId} {c : GlueSettings} (set : (s.glue k).settings = some c)
    (on : (s.glue k).state ≠ .off) : (s.evalBonds.glue k).target = s.chooseTarget k c := by
  have zones : s.EvaluatesPast k (s.forAll 12 State.evalZone) := by
    refine ⟨s.evalZones_sameLookups, State.forAll_keep (P := fun t => t.glue k = s.glue k) (fun t n h => ?_) rfl⟩
    rw [← h]
    unfold State.glue
    rw [t.evalZone_bnd n]
  obtain ⟨x, before, after⟩ := State.forAll_turn (R := State.EvaluatesPast k) (fun s => ⟨.refl s, rfl⟩)
    (fun h h' => ⟨h.lookups.trans h'.lookups, h'.glue.trans h.glue⟩) (i := k)
    (fun t j hj => ⟨t.evalGlue_sameLookups j, t.evalGlue_ne hj.symm⟩) (s.forAll 12 State.evalZone)
  have lookups := zones.lookups.trans before.lookups
  have glue := before.glue.trans zones.glue
  unfold State.evalBonds
  rw [after.glue, State.evalGlue_target]
  unfold State.nextTarget
  rw [glue, set]
  dsimp only
  rw [if_neg on, lookups.chooseTarget (.inl (by rw [glue]))]

/-! ### A change of the line state in a standing line (R148, R170) -/

/-- Work that leaves the silence monitor's count leaves the link port but for its notices. -/
theorem State.Touches.quiet {bs cs : List Block} {s t : State} (h : s.Touches cs t) (hs : cs ⊆ .lnk :: bs)
    (he : t.lnk.expiries = s.lnk.expiries) : s.Touches bs t where
  same b hb := h.same b fun mem => hb ((List.mem_cons.mp mem).elim (fun e => e ▸ List.mem_cons_self) fun m => hs m)
  link := h.link
  expiries _ := he
  reply := h.reply
  held := h.held
  fresh := h.fresh
  pending := h.pending
  flag := h.flag
  thread := h.thread
  lcu := h.lcu
  levels := h.levels
  map := h.map
  ahead := h.ahead

/-- The line state put with its two entries. -/
def State.entered (s : State) (new : LineState) : State := (s.putLine new).setLineEntries

theorem State.entered_lsv (s : State) (new : LineState) :
    (s.entered new).lsv =
      { (s.putLine new).lsv with
        ceiling := { s.lsv.ceiling with stop := new.stopEntry, hold := new.holdEntry s.lsv.thread } } := by
  unfold State.entered State.setLineEntries
  rw [State.setCeiling_lsv]
  rfl

theorem State.entered_expiries (s : State) (new : LineState) :
    (s.entered new).lnk.expiries = if s.lsv.line.monitored = new.monitored then s.lnk.expiries else 0 := by
  unfold State.entered State.setLineEntries State.setCeiling
  dsimp only
  split <;> rfl

theorem State.changeLine_expiries (s : State) (new : LineState) :
    (s.changeLine new).lnk.expiries = if s.lsv.line.monitored = new.monitored then s.lnk.expiries else 0 := by
  have announced := ((State.announceSplice_within (s.entered new) new).expiries (by simp)).trans (s.entered_expiries new)
  have told := (State.announceBond_within ((s.entered new).announceSplice new) s.lsv.line new).expiries (by simp)
  exact told.trans announced

theorem State.entered_touches {s : State} {new : LineState} (h : s.lsv.line.monitored = new.monitored) :
    s.Touches [.lsv] (s.entered new) :=
  (s.enterLine_touches new).quiet (by simp) (by rw [← State.entered, State.entered_expiries, if_pos h])

/-- Between standing states that are not PARK a change of the line state tells the host alone. -/
theorem State.changeLine_ready_of_setup {s : State} (h : s.lsv.line = .setup) :
    s.changeLine .ready = (s.entered .ready).raiseLine .setup := by
  simp [State.changeLine, State.announceBond, State.announceSplice, State.entered, h]

theorem State.changeLine_park_of_ready {s : State} (h : s.lsv.line = .ready) :
    s.changeLine .park = (s.entered .park).evalBonds.raiseLine .ready := by
  simp [State.changeLine, State.announceBond, State.announceSplice, State.entered, h]

theorem State.changeLine_ready_of_park {s : State} (h : s.lsv.line = .park) :
    s.changeLine .ready = (s.entered .ready).evalBonds.raiseLine .park := by
  simp [State.changeLine, State.announceBond, State.announceSplice, State.entered, h]

theorem State.changeLine_standing_touches {s : State} {new : LineState} (ho : s.lsv.line.monitored = new.monitored)
    (hn : new = .ready ∨ new = .park ∨ new = .setup) : s.Touches [.map, .bnd, .lsv] (s.changeLine new) := by
  have announce (t : State) : t.announceSplice new = t := by rcases hn with rfl | rfl | rfl <;> rfl
  unfold State.changeLine
  dsimp only
  rw [announce, ← State.entered]
  exact (((State.entered_touches ho).mono (by simp)).step (State.announceBond_within ..) (by simp)).step (State.raiseLine_within ..) (by simp)

/-! ### Commit's checks (R17, R63, R82, R103, R149) -/

theorem checkNone_eq_none {n block check : Nat} {p : Fin n → Bool} {name : Fin n → Subject} :
    checkNone block check ((allIds n).filter p) name = none ↔ ∀ i, p i = false := by
  simp [checkNone, allIds]

theorem State.lcuChecks_pass (s : State) :
    (∀ f ∈ s.lcuChecks, f = none) ↔
      s.lcu.walls ≠ none ∧ s.lcu.width ≠ 0 ∧ firstFailing (geometryChecks s.lcu.geometry) = none ∧
        ∀ i : CounterId, i.val ≤ s.walls → (s.counter i).faulted = false := by
  simp only [State.lcuChecks, List.forall_mem_cons, List.not_mem_nil, false_imp_iff, implies_true, and_true, checkNone_eq_none,
    Bool.and_eq_false_imp, State.counterInUse_iff]
  simp [and_assoc]

theorem State.spcChecks_pass (s : State) :
    (∀ f ∈ s.spcChecks, f = none) ↔ ∀ i : SpliceId, s.spliceInUse i = true → (s.splice i).settings ≠ none := by
  simp only [State.spcChecks, List.forall_mem_cons, List.not_mem_nil, false_imp_iff, implies_true, and_true, checkNone_eq_none,
    Bool.and_eq_false_imp, Option.isNone_eq_false_iff, Option.isSome_iff_ne_none]

theorem State.channelTwice_eq_false {s : State} {n : ZoneId} :
    s.channelTwice n = false ↔
      ∀ (m : ZoneId) (y z : ZoneSettings), m < n → (s.zone m).settings = some y → (s.zone n).settings = some z → y.channel ≠ z.channel := by
  unfold State.channelTwice
  rcases set : (s.zone n).settings with _ | c
  · simp
  · simp only [allIds, List.any_eq_false, List.mem_finRange, true_imp_iff]
    constructor
    · intro apart m y z less first second same
      cases second
      exact apart m (by simp [less, first, same])
    · intro apart m twice
      simp only [Bool.and_eq_true, decide_eq_true_eq, Option.any_eq_true] at twice
      obtain ⟨less, y, first, same⟩ := twice
      exact apart m y c less first rfl same

theorem State.terminalTwice_eq_false {s : State} {k : GlueId} :
    s.terminalTwice k = false ↔
      ∀ (j : GlueId) (y z : GlueSettings), j < k → (s.glue j).settings = some y → (s.glue k).settings = some z →
        y.channel ≠ z.channel ∧ y.rollRun ≠ z.rollRun := by
  unfold State.terminalTwice
  rcases set : (s.glue k).settings with _ | c
  · simp
  · simp only [allIds, List.any_eq_false, List.mem_finRange, true_imp_iff]
    constructor
    · intro apart j y z less first second
      cases second
      exact ⟨fun same => apart j (by simp [less, first, same]), fun same => apart j (by simp [less, first, same])⟩
    · intro apart j twice
      simp only [Bool.and_eq_true, decide_eq_true_eq, Option.any_eq_true, Bool.or_eq_true] at twice
      obtain ⟨less, y, first, same⟩ := twice
      obtain ⟨channel, rollRun⟩ := apart j y c less first rfl
      exact same.elim channel rollRun

theorem State.bndChecks_pass (s : State) :
    (∀ f ∈ s.bndChecks, f = none) ↔
      (∀ (n : ZoneId) (z : ZoneSettings), (s.zone n).settings = some z → z.dOut < s.dSlit) ∧
      (∀ (m n : ZoneId) (y z : ZoneSettings), m < n → (s.zone m).settings = some y → (s.zone n).settings = some z →
        y.channel ≠ z.channel) ∧
      (∀ k : GlueId, s.glueInUse k = true → (s.glue k).settings ≠ none) ∧
      ∀ (j k : GlueId) (y z : GlueSettings), j < k → (s.glue j).settings = some y → (s.glue k).settings = some z →
        y.channel ≠ z.channel ∧ y.rollRun ≠ z.rollRun := by
  have exits : (∀ n : ZoneId, ((s.zone n).settings.any fun c => decide (s.dSlit ≤ c.dOut)) = false) ↔
      ∀ (n : ZoneId) (z : ZoneSettings), (s.zone n).settings = some z → z.dOut < s.dSlit := by
    refine forall_congr' fun n => ?_
    cases (s.zone n).settings <;> simp
  simp only [State.bndChecks, List.forall_mem_cons, List.not_mem_nil, false_imp_iff, implies_true, and_true, checkNone_eq_none, exits,
    State.channelTwice_eq_false, State.terminalTwice_eq_false, Bool.and_eq_false_imp, Option.isNone_eq_false_iff,
    Option.isSome_iff_ne_none]
  exact and_congr_right' (and_congr forall_comm (and_congr_right' forall_comm))

theorem State.dstChecks_pass (s : State) :
    (∀ f ∈ s.dstChecks, f = none) ↔ ∀ o : OutputId, s.ownerStatus o ≠ .conflict ∧ s.ownerStatus o ≠ .modeMismatch := by
  simp only [State.dstChecks, List.forall_mem_cons, List.not_mem_nil, false_imp_iff, implies_true, and_true, checkNone_eq_none,
    decide_eq_false_iff_not, forall_and]

theorem State.commitFailure_eq_none (s : State) :
    s.commitFailure = none ↔
      (∀ f ∈ s.lcuChecks, f = none) ∧ (∀ f ∈ s.spcChecks, f = none) ∧ (∀ f ∈ s.bndChecks, f = none) ∧ ∀ f ∈ s.dstChecks, f = none := by
  unfold State.commitFailure
  rw [List.findSome?_eq_none_iff]
  simp only [List.forall_mem_append, id, and_assoc]

/-! ### Park's pending work (R156) -/

theorem State.pendingWork_eq_nil (s : State) :
    s.pendingWork = [] ↔
      (∀ i : SpliceId, (s.splice i).phase = .idle ∨ (s.splice i).phase = .standby ∨ (s.splice i).phase = .blocked) ∧
      (∀ i : SlitId, (s.slit i).state ≠ .positioning) ∧
      (∀ j : StackerId, (s.stacker j).state = .stacking ∧ (s.stacker j).holdback = []) ∧
      (∀ o ∈ s.obk.orders, o.phase ≠ .draining) ∧
      (∀ n : ZoneId, (s.zone n).span = none ∧ s.lostSpan (.zone n) = false) ∧
      ∀ k : GlueId, (s.glue k).span = none ∧ s.lostSpan (.glue k) = false := by
  have rests (p : SplicePhase) : p.pends = false ↔ p = .idle ∨ p = .standby ∨ p = .blocked := by cases p <;> simp [SplicePhase.pends]
  simp only [State.pendingWork, State.ordersIn, List.append_eq_nil_iff, List.map_eq_nil_iff, List.filter_eq_nil_iff, allIds,
    List.mem_finRange, true_imp_iff, Bool.not_eq_true, rests, decide_eq_true_eq, Bool.or_eq_false_iff,
    Bool.not_eq_false', List.isEmpty_iff, Option.isSome_eq_false_iff, Option.isNone_iff_eq_none, and_assoc]

/-! ### The commands -/

theorem State.entered_bnd (s : State) (new : LineState) : (s.entered new).bnd = s.bnd := (s.enterLine_touches new).same .bnd (by simp)

theorem State.entered_line (s : State) (new : LineState) : (s.entered new).lsv.line = new := by
  rw [State.entered_lsv]
  rfl

theorem State.changeLine_standing_lsv (s : State) (new : LineState) (h : new.stands = true) :
    (s.changeLine new).lsv.line = new ∧ (s.changeLine new).lsv.speedRef = 0 := by
  rw [State.changeLine_lsv]
  exact ⟨rfl, if_pos h⟩

theorem State.raiseLine_zone (s : State) (old : LineState) (n : ZoneId) : (s.raiseLine old).zone n = s.zone n := rfl

theorem State.raiseLine_glue (s : State) (old : LineState) (k : GlueId) : (s.raiseLine old).glue k = s.glue k := rfl

theorem State.raiseLine_sameLookups (s : State) (old : LineState) : s.SameLookups (s.raiseLine old) :=
  ⟨rfl, rfl, rfl, rfl, rfl, rfl, rfl, fun _ => rfl, fun _ => rfl⟩

/-- Settles O46. Each command is refused by its own checks; what it does otherwise is one change of the line state, which evaluates the
setpoints and targets on the way into PARK and out of it. -/
theorem commitAndPark : Obligations.CommitAndPark := by
  unfold Obligations.CommitAndPark
  intro s tag serves
  refine ⟨⟨fun line => ?commitState, fun line bad => ?commitRange, fun line good => ?committed⟩,
    ⟨fun line => ?parkState, fun line busy => ?parkPending, fun line idle => ?parked⟩, fun line => ?unparkState, fun line => ?unparked⟩
  case commitState =>
    exact State.answers_of_refuse serves rfl (if_pos (State.not_lineIn_iff.mpr (by simpa using line))) s.lineReply_head
  case commitRange =>
    obtain ⟨f, failure⟩ : ∃ f, s.commitFailure = some f := Option.ne_none_iff_exists'.mp fun passed => bad (by
      rw [State.commitFailure_eq_none, State.lcuChecks_pass, State.spcChecks_pass, State.bndChecks_pass, State.dstChecks_pass] at passed
      simpa only [and_assoc] using passed)
    refine State.answers_of_refuse serves rfl (reply := f.reply) ?_ rfl
    unfold State.commit
    rw [if_neg (mt State.not_lineIn_iff.mp (by simp [line])), failure]
  case committed =>
    have passed : s.commitFailure = none := by
      rw [State.commitFailure_eq_none, State.lcuChecks_pass, State.spcChecks_pass, State.bndChecks_pass, State.dstChecks_pass]
      simpa only [and_assoc] using good
    have effect : s.commit = (s.changeLine .ready, okReply []) := by
      unfold State.commit
      rw [if_neg (mt State.not_lineIn_iff.mp (by simp [line])), passed]
    refine ⟨s.changeLine .ready, ?_, ?_, ?_⟩
    · change hostCommand tag 0x01 State.commit s = _
      rw [hostCommand_serves _ _ _ serves, effect]
      rfl
    · rw [State.changeLine_ready_of_setup line]
      exact s.entered_lsv .ready
    · rw [State.changeLine_ready_of_setup line]
      exact ((State.entered_touches (by rw [line]; rfl)).step (State.raiseLine_within ..) (by simp)).keepsBut
  case parkState =>
    exact State.answers_of_refuse serves rfl (if_pos (State.not_lineIn_iff.mpr (by simpa using line))) s.lineReply_head
  case parkPending =>
    refine State.answers_of_refuse serves rfl (reply := itemsReply stPending s.pendingWork) ?_ rfl
    unfold State.park
    rw [if_neg (mt State.not_lineIn_iff.mp (by simp [line]))]
    split
    · next empty => exact absurd (s.pendingWork_eq_nil.mp empty) busy
    · rfl
  case parked =>
    have effect : s.park = (s.changeLine .park, okReply []) := by
      unfold State.park
      rw [if_neg (mt State.not_lineIn_iff.mp (by simp [line])), s.pendingWork_eq_nil.mpr idle]
    obtain ⟨parked, standing⟩ := s.changeLine_standing_lsv .park rfl
    have there := s.entered_line .park
    have bnd := s.entered_bnd .park
    refine ⟨s.changeLine .park, ?_, parked, standing, fun n => ?_, fun k z set on => ?_, ?_⟩
    · change hostCommand tag 0x07 State.park s = _
      rw [hostCommand_serves _ _ _ serves, effect]
      rfl
    · rw [State.changeLine_park_of_ready line]
      rw [State.raiseLine_zone, State.evalBonds_zone, if_pos (by simp [State.evaluates, there])]
      dsimp only
      rw [State.chooseSetpoint, if_pos there, bnd]
    · rw [State.changeLine_park_of_ready line]
      have glue : (s.entered .park).glue k = s.glue k := by
        unfold State.glue
        rw [bnd]
      rw [State.raiseLine_glue, State.evalBonds_target (by rw [glue]; exact set) (by rw [glue]; exact on), State.chooseTarget,
        if_pos there]
    · exact (State.changeLine_standing_touches (by rw [line]; rfl) (by simp)).keepsBut
  case unparkState =>
    exact State.answers_of_refuse serves rfl (if_pos (State.not_lineIn_iff.mpr (by simpa using line))) s.lineReply_head
  case unparked =>
    have effect : s.unpark = (s.changeLine .ready, okReply []) := if_neg (mt State.not_lineIn_iff.mp (by simp [line]))
    obtain ⟨ready, standing⟩ := s.changeLine_standing_lsv .ready rfl
    have there := s.entered_line .ready
    have zone (n : ZoneId) : (s.entered .ready).zone n = s.zone n := by
      unfold State.zone
      rw [s.entered_bnd]
    have glue (k : GlueId) : (s.entered .ready).glue k = s.glue k := by
      unfold State.glue
      rw [s.entered_bnd]
    have lookups := (s.entered .ready).evalBonds_sameLookups.trans (State.raiseLine_sameLookups _ .park)
    refine ⟨s.changeLine .ready, ?_, ready, standing, fun n set => ?_, fun n unset => ?_, fun k z set on => ?_, ?_⟩
    · change hostCommand tag 0x08 State.unpark s = _
      rw [hostCommand_serves _ _ _ serves, effect]
      rfl
    · rw [State.changeLine_ready_of_park line]
      rw [lookups.chooseSetpoint, State.raiseLine_zone, State.evalBonds_zone,
        if_pos (by simp [State.evaluates, zone, Option.isSome_iff_ne_none, set])]
    · rw [State.changeLine_ready_of_park line]
      rw [State.raiseLine_zone, State.evalBonds_zone, if_neg (by simp [State.evaluates, zone, unset, there]), zone]
    · rw [State.changeLine_ready_of_park line]
      have target := State.evalBonds_target (s := s.entered .ready) (by rw [glue]; exact set) (by rw [glue]; exact on)
      rw [lookups.chooseTarget (.inr (by rw [State.raiseLine_glue, target])), State.raiseLine_glue, target]
    · exact (State.changeLine_standing_touches (by rw [line]; rfl) (by simp)).keepsBut

end Sys2Proof.Machine
end


section
/-! PROOF. What the reading commands answer (O55): the same bytes as the model's reply of each block, field by field. -/

namespace Sys2Proof.Machine

/-! ### Replies -/

/-- A served command is answered with the reply that its block makes. -/
theorem State.gives_of_answer {s s' : State} {c : Instr} {tag code : Nat} {cmd : State → State × List Byte} {p q : List Byte}
    (serves : s.serves) (meaning : exec c s = hostCommand tag code cmd s) (answer : cmd s = (s', q)) (bytes : q = p)
    (head : q.head? = some 0#8) : exec c s = .next (s'.replied tag code p) ∧ p.head? = some 0#8 := by
  subst bytes
  exact ⟨by rw [meaning, hostCommand_serves _ _ _ serves, answer], head⟩

theorem okReply_eq (content : List Byte) : okReply content = [0#8] ++ content := rfl

theorem idOf_succ {n : Nat} (i : Fin n) : idOf n (i.val + 1) = some i := dif_pos ⟨by omega, i.isLt⟩

theorem State.takeFresh_if (s : State) (runs : Bool) :
    (if runs = true then s.takeFresh else s) = { s with fresh := if runs = true then s.fresh + 1 else s.fresh } := by
  cases runs <;> rfl

theorem State.takeFresh_twice_if (s : State) (runs : Bool) :
    (if runs = true then s.takeFresh.takeFresh else s) = { s with fresh := if runs = true then s.fresh + 2 else s.fresh } := by
  cases runs <;> rfl

/-! ### Fields of the replies -/

theorem absentBytes_eq (w : Nat) : absentBytes w = List.replicate w 0xFF#8 := rfl

/-- An optional stop cause goes as its optional code. -/
theorem stopCauseByte_eq (c : Option StopCause) : stopCauseByte c = optBytes 1 (c.map fun x => x.ctorIdx) := by
  cases c <;> rfl

theorem optSubjectBytes_eq (x : Option Subject) : optSubjectBytes x = (x.map Subject.bytes).getD (List.replicate 3 0xFF#8) := by
  cases x <;> rfl

/-- What stands at the indices of a vector, in rising order, is its list. -/
theorem flatMap_allIds_getElem {α β : Type} {n : Nat} (v : Vector α n) (f : α → List β) :
    (allIds n).flatMap (fun i => f v[i]) = v.toList.flatMap f := by
  have listed : (allIds n).map (fun i => v[i]) = v.toList := by
    refine List.ext_getElem (by simp [allIds]) fun k h1 h2 => ?_
    simp [allIds]
  rw [← listed, List.flatMap_map]

/-- A splice station claims in the phases of R69. -/
theorem SplicePhase.claims_eq (p : SplicePhase) : p.claims = decide (p = .matching ∨ p = .matched ∨ p = .confirming) := by
  cases p <;> rfl

theorem GlueStation.atPark_eq (g : GlueStation) : g.atPark = g.settings.any fun c => decide (c.parkGap = g.target) := by
  unfold GlueStation.atPark
  cases g.settings <;> rfl

theorem Order.placed_iff (o : Order) : o.placed = true ↔ o.phase = .running ∨ o.phase = .draining ∨ o.phase = .done := by
  unfold Order.placed
  cases o.phase <;> simp

theorem Order.stationByte_eq (o : Order) :
    o.stationByte = optBytes 1 (if o.phase = .staged ∨ o.phase = .running then o.station.map fun i => i.val + 1 else none) := by
  unfold Order.stationByte
  cases o.phase <;> rfl

theorem CutLane.endPoint_eq (l : CutLane) :
    l.endPoint = if l.mode = .scrap then l.scrapEnd else if l.mode = .idle then l.resume else none := by
  unfold CutLane.endPoint
  cases l.mode <;> rfl

/-! ### The book (R60) -/

theorem insertByStart_perm (o : Order) (l : List Order) : (insertByStart o l).Perm (o :: l) := by
  induction l with
  | nil => exact .refl _
  | cons x xs ih =>
    unfold insertByStart
    split
    · exact .refl _
    · exact (ih.cons x).trans (.swap o x xs)

theorem insertByStart_sorted (o : Order) {l : List Order} (sorted : l.Pairwise fun x y => x.start ≤ y.start) :
    (insertByStart o l).Pairwise fun x y => x.start ≤ y.start := by
  induction sorted with
  | nil => exact List.pairwise_singleton _ _
  | @cons x xs first rest ih =>
    unfold insertByStart
    split
    case isTrue before =>
      refine List.pairwise_cons.mpr ⟨fun y hy => ?_, List.pairwise_cons.mpr ⟨first, rest⟩⟩
      rcases List.mem_cons.mp hy with rfl | hy
      · omega
      · have := first y hy
        omega
    case isFalse after =>
      refine List.pairwise_cons.mpr ⟨fun y hy => ?_, ih⟩
      rcases List.mem_cons.mp ((insertByStart_perm o xs).mem_iff.mp hy) with rfl | hy
      · omega
      · exact first y hy

/-- Inserting orders one by one into a sorted list keeps them all, sorted. -/
theorem foldl_insertByStart (l : List Order) {acc : List Order} (sorted : acc.Pairwise fun x y => x.start ≤ y.start) :
    (l.foldl (fun a o => insertByStart o a) acc).Perm (l ++ acc) ∧
      (l.foldl (fun a o => insertByStart o a) acc).Pairwise fun x y => x.start ≤ y.start := by
  induction l generalizing acc with
  | nil => exact ⟨.refl _, sorted⟩
  | cons o l ih =>
    obtain ⟨perm, inOrder⟩ := ih (insertByStart_sorted o sorted)
    exact ⟨perm.trans (((insertByStart_perm o acc).append_left l).trans List.perm_middle), inOrder⟩

/-! ### The owners of an output (R103, R116) -/

theorem State.zoneOwns_eq (s : State) (o : OutputId) (n : ZoneId) :
    s.zoneOwns o n = (s.zone n).settings.any fun z => decide (z.output = o) := by
  unfold State.zoneOwns
  cases (s.zone n).settings <;> rfl

/-- A glue station's subject stands once for each side of its pair that is the output. -/
theorem State.glueOwns_subjects (s : State) (o : OutputId) (k : GlueId) :
    (s.glueOwns o k).map Owner.subject = (s.glue k).settings.toList.flatMap fun g =>
      if s.glueInUse k = true then ([g.outA, g.outB].filter fun p => p = o).map fun _ => ⟨.glueStation, k.val + 1⟩ else [] := by
  unfold State.glueOwns
  cases (s.glue k).settings with
  | none => rfl
  | some g =>
    cases s.glueInUse k
    · rfl
    · by_cases a : g.outA = o <;> by_cases b : g.outB = o <;> simp [a, b, Owner.subject]

theorem State.owners_subjects (s : State) (o : OutputId) :
    (s.owners o).map Owner.subject =
      ((allIds 12).filter fun n => (s.zone n).settings.any fun z => z.output = o).map (fun n => ⟨.heatZone, n.val + 1⟩) ++
        (allIds 4).flatMap fun k => (s.glueOwns o k).map Owner.subject := by
  rw [State.owners, List.map_append, List.map_map, List.map_flatMap]
  simp only [funext (s.zoneOwns_eq o)]
  rfl

/-- An output is owned by a zone in PWM mode, by a side of a glue station in CONTINUOUS mode. -/
theorem State.ownership_cases (s : State) (o : OutputId) :
    (s.ownerStatus o ≠ .owned ∧ s.ownedBy o = none) ∨
      (s.ownerStatus o = .owned ∧ (s.output o).mode = .pwm ∧ ∃ n, s.ownedBy o = some (.zone n)) ∨
        (s.ownerStatus o = .owned ∧ (s.output o).mode = .continuous ∧ ∃ w, s.ownedBy o = some w ∧ ∀ n, w ≠ .zone n) := by
  unfold State.ownerStatus State.ownedBy State.ownership
  split
  · exact .inl ⟨by decide, rfl⟩
  · split
    case isTrue h => exact .inr (.inl ⟨rfl, h, _, rfl⟩)
    case isFalse => exact .inl ⟨by decide, rfl⟩
  case h_3 w notZone _ =>
    split
    case isTrue h => exact .inr (.inr ⟨rfl, h, w, rfl, fun n e => notZone n (e ▸ rfl)⟩)
    case isFalse => exact .inl ⟨by decide, rfl⟩
  · exact .inl ⟨by decide, rfl⟩

/-- The command of an output: absent without an owner, the demand in PWM mode, the level in CONTINUOUS mode. -/
theorem State.commandBytes_eq (s : State) (o : OutputId) :
    s.commandBytes o = if s.ownerStatus o ≠ .owned then List.replicate 3 0xFF#8
      else if (s.output o).mode = .pwm then natBytes 2 (s.demandOf o) ++ [0xFF#8]
      else List.replicate 2 0xFF#8 ++ natBytes 1 (s.levelOf o).ctorIdx := by
  unfold State.commandBytes
  rcases s.ownership_cases o with ⟨status, owner⟩ | ⟨status, mode, n, owner⟩ | ⟨status, mode, w, owner, notZone⟩
  · rw [owner, if_pos status]
    rfl
  · rw [owner, if_neg (not_not.mpr status), if_pos mode]
    rfl
  · rw [owner, if_neg (not_not.mpr status), if_neg (by rw [mode]; decide)]
    cases w with
    | zone n => exact absurd rfl (notZone n)
    | sideA k => rfl
    | sideB k => rfl

theorem State.mapped_eq (s : State) (g : GenId) (o : OutputId) :
    s.mapped g o = decide ((s.output o).mode = .pwm ∧ (s.output o).generator = some g) := by
  simp [State.mapped]

theorem flatMap_allIds_four {β : Type} (f : Fin 4 → List β) : (allIds 4).flatMap f = f 0 ++ (f 1 ++ (f 2 ++ f 3)) := by
  simp [allIds, List.finRange_succ]

theorem vector_toList_two {α : Type} (v : Vector α 2) : v.toList = [v[0], v[1]] :=
  List.ext_getElem (by simp) fun k h1 h2 => by
    match k, h2 with
    | 0, _ => simp
    | 1, _ => simp

theorem optBytes_ite (w v : Nat) (p : Prop) [Decidable p] :
    optBytes w (if p then some v else none) = if p then natBytes w v else absentBytes w := by
  split <;> rfl

/-- A counter's fields, which ReadLength gives in this order. -/
def State.counterFields (s : State) (i : CounterId) : List Byte :=
  flagBytes (!s.counterInUse i) ++ flagBytes (s.counter i).faulted ++ natBytes 6 (s.counter i).pos ++ natBytes 6 (s.counter i).c ++
    natBytes 4 (s.counter i).debt ++ natBytes 1 (s.counter i).tally ++ natBytes 6 (s.counter i).tallyBase ++
    faultBytes (s.counter i).faultRecord ++ natBytes 1 (s.counter i).faultCount ++ natBytes 4 (s.counter i).scale

theorem State.counterBytes_line (s : State) : s.counterBytes 0 = s.counterFields 0 := List.append_nil _

theorem State.counterBytes_web (s : State) (k : WebId) :
    s.counterBytes k.succ = s.counterFields k.succ ++ flagBytes s.lcu.webPresent[k] := by
  unfold State.counterBytes
  rw [dif_neg (Fin.succ_ne_zero k)]
  simp only [Fin.pred_succ]
  rfl

/-- Of two numbers out of range the first index is named. -/
theorem firstFailing_pair {p q : Prop} [Decidable p] [Decidable q] (m n : Nat) :
    (p → q → firstFailing [(decide p, m), (decide q, n)] = none) ∧
      (¬(p ∧ q) → ∃ r, firstFailing [(decide p, m), (decide q, n)] = some r) := by
  by_cases hp : p <;> by_cases hq : q <;> simp [firstFailing, hp, hq]

/-- ReadMap with both numbers in range. -/
theorem State.readMap_ok (s : State) {first count : Nat} (hf : first ≤ 127) (hc : count ≤ 16) :
    s.readMap first count = okReply (natBytes 1 s.map.marks.length ++ natBytes 2 s.map.changeCount ++ optBytes 6 s.map.ra ++
      natBytes 2 s.map.lostMarks ++ bitSetBytes 2 (s.map.lostZone.toList ++ s.map.lostGlue.toList) ++ natBytes 6 s.linePos ++
      listBytes s.markBytes ((s.map.marks.drop first).take count)) := by
  unfold State.readMap
  rw [(firstFailing_pair 1 2).1 hf hc]

theorem State.readMap_range (s : State) {first count : Nat} (out : 127 < first ∨ 16 < count) :
    ∃ n, s.readMap first count = rangeReply n := by
  obtain ⟨n, failing⟩ := (firstFailing_pair (p := first ≤ 127) (q := count ≤ 16) 1 2).2 (by omega)
  refine ⟨n, ?_⟩
  unfold State.readMap
  rw [failing]

/-- A reading command whose reply is a refusal. -/
theorem State.answers_of_reply {s : State} {c : Instr} {tag code status : Nat} {reply : State → List Byte} (serves : s.serves)
    (meaning : exec c s = hostCommand tag code (fun t => (t, reply t)) s)
    (head : (reply s).head? = some (BitVec.ofNat 8 status)) : s.answers c tag code status :=
  ⟨reply s, by rw [meaning, hostCommand_serves _ _ _ serves], head⟩

theorem State.timeBytes_one (s : State) (runs : Bool) (limit : Nat) :
    s.timeBytes runs 1 limit = if runs = true then natBytes 1 (s.timeLeft limit) else [0xFF#8] := rfl

theorem subjectBytes_fun : Subject.bytes = fun x => natBytes 1 x.type.ctorIdx ++ natBytes 2 x.number := rfl

theorem itemBytes_fun : itemBytes = fun w => natBytes 1 w.1.type.ctorIdx ++ natBytes 2 w.1.number ++ natBytes 2 w.2 := rfl

/-- The bytes of a bridge in use that is read within its range. -/
theorem State.readBridge_eq (s : State) (k : WebId) (first count : Nat) :
    s.readBridge (k.val + 1) first count =
      if !s.webInUse k then stateReply (bridgeSubject k) unusedState
      else if first ≤ 31 ∧ count ≤ 16 then
        okReply (natBytes 6 (s.webPos k) ++ natBytes 6 (s.bridge k).content ++ natBytes 6 (s.mergeCoord k) ++
          natBytes 6 (s.bridge k).shortfall ++ flagBytes (s.bridgeClaims k) ++ natBytes 1 (inMetres (s.bridge k).slow) ++
          natBytes 2 (inMetres (s.bridge k).high) ++ natBytes 2 (s.bridge k).crawl ++
          natBytes 1 (s.bridge k).entries.length ++
          listBytes (s.bridgeEntryBytes k) (((s.bridge k).entries.drop first).take count))
      else rangeReply (if first ≤ 31 then 3 else 2) := by
  unfold State.readBridge
  rw [idOf_succ]
  by_cases hf : first ≤ 31 <;> by_cases hc : count ≤ 16 <;> simp [firstFailing, hf, hc]

theorem State.orderFlags_eq (s : State) (o : Order) :
    s.orderFlags o = bitSetBytes 1
      [o.cancelled, o.cutShort, decide (o.phase = .running ∧ s.obk.deferral = true), (o.run 0).complete, (o.run 1).complete,
        decide (o.phase = .staged ∧ s.obk.endStatus = .locked)] := by
  simp [State.orderFlags]

theorem reelBytes_eq (r : Option Reel) : reelBytes r = r.toList.flatMap Reel.bytes := by
  cases r <;> simp [reelBytes]

/-- A station in use is read; its timer takes a free value while it runs. -/
theorem State.readStation_used (s : State) {i : SpliceId} (used : s.spliceInUse i = true) :
    s.readStation (i.val + 1) =
      ({ s with fresh := if decide ((s.splice i).phase = .matching) = true then s.fresh + 1 else s.fresh }, s.stationReply i) := by
  rw [State.readStation, idOf_succ, ← State.takeFresh_if]
  simp only [decide_eq_true_eq]
  exact if_neg (by simp [used])

/-- A glue station in use is read; its two timers take free values while either runs. -/
theorem State.readGlue_used (s : State) {k : GlueId} (used : s.glueInUse k = true) :
    s.readGlue (k.val + 1) =
      ({ s with fresh := if (decide ((s.glue k).state = .moving) || (s.glue k).rollRun) = true then s.fresh + 2 else s.fresh },
        s.gluePayload k) := by
  rw [State.readGlue, idOf_succ, ← State.takeFresh_twice_if]
  exact if_neg (by simp [used])

theorem State.readSlitter_eq (s : State) :
    s.readSlitter =
      ({ s with fresh := if decide ((s.slit 0).state = .positioning ∨ (s.slit 1).state = .positioning) = true then s.fresh + 2
                         else s.fresh },
        okReply (s.slitBytes 0 ++ s.takeFresh.slitBytes 1 ++ natBytes 1 s.dec.posLimit)) := by
  rw [← State.takeFresh_twice_if]
  simp [State.readSlitter]

theorem State.readStackers_eq (s : State) :
    s.readStackers =
      ({ s with fresh := if (decide ((s.stacker 0).state = .ejecting) || decide ((s.stacker 1).state = .ejecting)) = true
                         then s.fresh + 2 else s.fresh },
        okReply (s.stackerBytes 0 ++ s.takeFresh.stackerBytes 1 ++ s.gateBytes 0 ++ s.gateBytes 1 ++ optBytes 2 s.lsv.ceiling.stacker ++
          natBytes 4 s.stk.scrapPieces ++ natBytes 6 s.stk.scrapLength)) := by
  rw [← State.takeFresh_twice_if]
  rfl

theorem listBytes_map {α β : Type} (f : β → List Byte) (g : α → β) (l : List α) :
    listBytes f (l.map g) = listBytes (fun x => f (g x)) l := by
  simp [listBytes, List.flatMap_map]

/-- Settles O55: every reply is the model's reply of its block, its bytes taken apart field by field. -/
theorem reads : Obligations.Reads := by
  unfold Obligations.Reads
  intro s tag serves gives timed subject left channel
  have reply {c : Instr} {code : Nat} {cmd : State → List Byte} {content p : List Byte}
      (meaning : exec c s = hostCommand tag code (fun t => (t, cmd t)) s) (made : cmd s = okReply content)
      (bytes : okReply content = p) : gives c code p :=
    State.gives_of_answer serves meaning (congrArg (Prod.mk s) made) bytes rfl
  have timedReply {runs : Bool} {n : Nat} {c : Instr} {code : Nat} {cmd : State → State × List Byte} {content p : List Byte}
      (meaning : exec c s = hostCommand tag code cmd s)
      (made : cmd s = ({ s with fresh := if runs = true then s.fresh + n else s.fresh }, okReply content))
      (bytes : okReply content = p) : timed runs n c code p :=
    State.gives_of_answer serves meaning made bytes rfl
  refine ⟨fun limit => Nat.min_le_left _ _, ?status, ?length, fun first count => ⟨fun hf hc => ?map, fun out => ?mapRange⟩,
    fun k first count => ⟨fun unused => ?bridgeUnused, fun used out => ?bridgeRange, fun used hf hc => ?bridge⟩,
    fun order => ⟨fun o found => ⟨?order, ?tally⟩, fun absent => ⟨?orderAbsent, ?tallyAbsent⟩⟩, ?book,
    fun i => ⟨fun used => ?station, fun unused => ?stationUnused⟩,
    fun g => ⟨fun i hi => ?grade, fun out => ?gradeRange⟩, fun n => ?zone,
    fun k => ⟨fun used => ?glue, fun unused => ?glueUnused⟩, ?bond, ?drive, ?slitter, ?lanes, ?stackers, fun bytes => ?ping,
    ?identify, ?link⟩
  case status =>
    refine reply (cmd := State.statusReply) rfl rfl ?_
    cases s.lsv.stopRec <;>
      simp only [okReply_eq, stopRecordBytes, stopCauseByte_eq, optSubjectBytes_eq, HoldSet.bytes, allEntries, Ceiling.get,
        listBytes, absentBytes_eq, subject, subjectBytes_fun, itemBytes_fun, List.append_assoc, List.flatMap_cons, List.flatMap_nil,
        optBytes, Option.map_some]
  case length =>
    intro counter g
    refine reply (cmd := State.lengthReply) rfl rfl ?_
    have joints : (allIds 7).flatMap channel = s.lcu.joints.toList.flatMap JointChannel.bytes :=
      flatMap_allIds_getElem s.lcu.joints JointChannel.bytes
    have line : s.counterBytes 0 = counter 0 := s.counterBytes_line
    have web (k : WebId) : s.counterBytes k.succ = counter k.succ ++ flagBytes s.lcu.webPresent[k] := s.counterBytes_web k
    rw [joints, flatMap_allIds_four, line, show s.counterBytes 1 = _ from web 0, show s.counterBytes 2 = _ from web 1,
      show s.counterBytes 3 = _ from web 2, vector_toList_two s.lcu.eyes, vector_toList_two s.lcu.knifeIndex]
    simp only [okReply_eq, List.append_assoc, List.flatMap_cons, List.flatMap_nil, List.append_nil]
    rfl
  case map =>
    refine reply (cmd := fun t => t.readMap first count) rfl (s.readMap_ok hf hc) ?_
    simp only [okReply_eq, List.append_assoc]
  case mapRange =>
    obtain ⟨n, refused⟩ := s.readMap_range out
    exact State.answers_of_reply (reply := fun t => t.readMap first count) serves rfl (by rw [refused]; rfl)
  case bridgeUnused =>
    refine State.answers_of_reply (reply := fun t => t.readBridge (k.val + 1) first count) serves rfl ?_
    rw [s.readBridge_eq, if_pos (by simpa [State.webInUse] using unused)]
    rfl
  case bridgeRange =>
    refine State.answers_of_reply (reply := fun t => t.readBridge (k.val + 1) first count) serves rfl ?_
    rw [s.readBridge_eq, if_neg (by simpa [State.webInUse] using used), if_neg (by omega)]
    rfl
  case bridge =>
    have inUse : s.webInUse k = true := decide_eq_true used
    refine reply (cmd := fun t => t.readBridge (k.val + 1) first count) rfl
      ((s.readBridge_eq k first count).trans ((if_neg (by simp [inUse])).trans (if_pos ⟨hf, hc⟩))) ?_
    simp only [okReply_eq, State.bridgeClaims, inUse, Bool.true_and, ← List.append_assoc]
    rfl
  case order =>
    have made : s.readOrder order = okReply (s.orderBytes o) := by rw [State.readOrder, found]
    refine reply (cmd := fun t => t.readOrder order) rfl made ?_
    rw [State.orderBytes, State.runtimeBytes, Order.stationByte_eq, State.orderFlags_eq, ← optBytes_ite, ← optBytes_ite]
    simp only [okReply_eq, o.placed_iff, ← List.append_assoc]
    rfl
  case tally =>
    have made : s.readTally order = okReply (natBytes 2 o.tag ++ o.lanes.flatMap fun j =>
        o.tallyBytes j ++ natBytes 2 (o.run j).makeup ++ natBytes 4 (o.run j).short) := by rw [State.readTally, found]
    refine reply (cmd := fun t => t.readTally order) rfl made ?_
    simp only [okReply_eq, Order.tallyBytes, List.flatMap_cons, List.flatMap_nil, List.append_nil, ← List.append_assoc]
    rfl
  case orderAbsent =>
    exact State.answers_of_reply (reply := fun t => t.readOrder order) serves rfl (by rw [State.readOrder, absent]; rfl)
  case tallyAbsent =>
    exact State.answers_of_reply (reply := fun t => t.readTally order) serves rfl (by rw [State.readTally, absent]; rfl)
  case book =>
    intro entry those
    obtain ⟨perm, sorted⟩ := foldl_insertByStart (s.ordersIn .draining) .nil
    refine ⟨_, perm.trans (.of_eq (List.append_nil _)), sorted, reply (cmd := State.bookReply) rfl rfl ?_⟩
    simp only [okReply_eq, ← List.append_assoc]
    rfl
  case station =>
    refine timedReply (cmd := fun t => t.readStation (i.val + 1)) rfl (s.readStation_used used) ?_
    simp only [okReply_eq, SpliceStation.armBytes, reelBytes_eq, SplicePhase.claims_eq, State.timeBytes_one, List.flatMap_cons,
      List.flatMap_nil, List.append_nil, ← List.append_assoc]
    rfl
  case stationUnused =>
    refine State.answers_of_refuse (cmd := fun t => t.readStation (i.val + 1)) (reply := s.spliceStateReply i) serves rfl ?_ rfl
    rw [State.readStation, idOf_succ]
    exact if_pos (by simp [unused])
  case grade =>
    subst hi
    refine reply (cmd := fun t => t.readGrade i.val) rfl (by rw [State.readGrade, codeOf_val]) ?_
    simp only [okReply_eq, List.append_assoc]
    rfl
  case gradeRange =>
    refine State.answers_of_reply (reply := fun t => t.readGrade g) serves rfl ?_
    rw [State.readGrade, codeOf, dif_neg (by omega)]
    rfl
  case zone =>
    refine reply (cmd := fun t => t.readZone (n.val + 1)) rfl (by rw [State.readZone, idOf_succ]; rfl) ?_
    simp only [okReply_eq, List.append_assoc]
    rfl
  case glue =>
    refine timedReply (cmd := fun t => t.readGlue (k.val + 1)) rfl (s.readGlue_used used) ?_
    simp only [okReply_eq, GlueStation.atPark_eq, State.timeBytes_one, decide_eq_true_eq, ← List.append_assoc]
    rfl
  case glueUnused =>
    refine State.answers_of_refuse (cmd := fun t => t.readGlue (k.val + 1)) (reply := s.glueStateReply k) serves rfl ?_ rfl
    rw [State.readGlue, idOf_succ]
    exact if_pos (by simp [unused])
  case bond =>
    refine reply (cmd := State.bondReply) rfl rfl ?_
    simp only [okReply_eq, List.append_assoc]
    rfl
  case drive =>
    intro owners demanded duty output generator input
    refine reply (cmd := State.driveReply) rfl rfl ?_
    have inputs : (allIds 4).flatMap input = s.dst.inputs.toList.flatMap FaultInput.bytes :=
      flatMap_allIds_getElem s.dst.inputs FaultInput.bytes
    have listed (o : OutputId) : listBytes (fun w => w.subject.bytes) (s.owners o) = listBytes subject (owners o) := by
      have subjects : (s.owners o).map Owner.subject = owners o := by
        rw [s.owners_subjects]
        simp only [s.glueOwns_subjects, owners]
      rw [← subjects, listBytes_map]
      rfl
    have outputs : s.outputBytes = output := funext fun o => by
      rw [State.outputBytes, listed, s.commandBytes_eq]
      rfl
    have generators : s.generatorBytes = generator := funext fun g => by
      simp only [State.generatorBytes, State.duty, State.demandedDuty, funext (s.mapped_eq g)]
      rfl
    rw [inputs, ← outputs, ← generators]
    simp only [okReply_eq, ← List.append_assoc]
  case slitter =>
    refine timedReply (cmd := State.readSlitter) rfl s.readSlitter_eq ?_
    simp only [okReply_eq, State.slitBytes, State.timeBytes_one, left, decide_eq_true_eq, ← List.append_assoc]
    rfl
  case lanes =>
    refine reply (cmd := State.lanesReply) rfl rfl ?_
    simp only [okReply_eq, State.laneBytes, CutLane.endPoint_eq, ← List.append_assoc]
    rfl
  case stackers =>
    refine timedReply (cmd := State.readStackers) rfl s.readStackers_eq ?_
    simp only [okReply_eq, ← List.append_assoc]
    rfl
  case ping => exact hostCommand_serves tag 0xF0 (fun t => (t, okReply bytes)) serves
  case identify => exact hostCommand_serves tag 0xF1 State.identify serves
  case link =>
    refine timedReply (cmd := State.readLink) rfl (congrArg (Prod.mk · _) (s.takeFresh_if _)) ?_
    simp only [okReply_eq, List.flatMap_cons, List.flatMap_nil, List.append_nil, ← List.append_assoc]
    rfl

end Sys2Proof.Machine
end


section
/-! PROOF. Spans opened and closed in the map, and the reports that a change of owners or of faulted outputs sends (R22, R24, R87, R94,
R103, R109). -/

namespace Sys2Proof.Machine

/-! ### A span closed (R24) -/

theorem Mark.finish_of_isOpenSpan {m : Mark} {x : BondSource} (h : m.isOpenSpan x = true) : m.finish = none := by
  unfold Mark.isOpenSpan at h
  split at h
  · simp_all
  · cases h

/-- A mark is the open span of one source at most. -/
theorem Mark.isOpenSpan_unique {m : Mark} {x y : BondSource} (hx : m.isOpenSpan x = true) (hy : m.isOpenSpan y = true) : x = y := by
  unfold Mark.isOpenSpan at hx hy
  split at hx
  · next body =>
    rw [body] at hy
    simp only [Bool.and_eq_true, decide_eq_true_eq] at hx hy
    exact hx.2.symm.trans hy.2
  · cases hx

theorem Mark.isOpenSpan_ended (m : Mark) (e : Nat) (x : BondSource) : ({ m with finish := some e } : Mark).isOpenSpan x = false := by
  unfold Mark.isOpenSpan
  split <;> rfl

/-- A close leaves every mark that is no open span of its source. -/
theorem mem_closeFirst_of_mem {x : BondSource} {e : Nat} {m : Mark} {ms : List Mark} (h : m ∈ ms) (other : m.isOpenSpan x = false) :
    m ∈ closeFirst x e ms := by
  induction ms with
  | nil => cases h
  | cons y ys ih =>
    unfold closeFirst
    rcases List.mem_cons.mp h with rfl | h
    · simp [other]
    · split
      · exact List.mem_cons_of_mem _ h
      · exact List.mem_cons_of_mem _ (ih h)

/-- A close gives the first open span of its source its end. -/
theorem mem_closeFirst_of_find {x : BondSource} (e : Nat) {m : Mark} {ms : List Mark} (h : ms.find? (·.isOpenSpan x) = some m) :
    { m with finish := some (max m.start e) } ∈ closeFirst x e ms := by
  induction ms with
  | nil => cases h
  | cons y ys ih =>
    unfold closeFirst
    rw [List.find?_cons] at h
    by_cases opened : y.isOpenSpan x = true
    · simp only [opened, Option.some.injEq] at h
      subst h
      simp [opened]
    · simp only [opened] at h
      rw [if_neg opened]
      exact List.mem_cons_of_mem _ (ih h)

/-- A close of one source's span leaves the first open span of another. -/
theorem find_closeFirst {x y : BondSource} (apart : y ≠ x) (e : Nat) (ms : List Mark) :
    (closeFirst y e ms).find? (·.isOpenSpan x) = ms.find? (·.isOpenSpan x) := by
  induction ms with
  | nil => rfl
  | cons m ms ih =>
    unfold closeFirst
    split
    · next opened =>
      have other : m.isOpenSpan x = false := Bool.eq_false_iff.mpr fun own => apart (Mark.isOpenSpan_unique opened own)
      simp only [List.find?_cons, other, Mark.isOpenSpan_ended]
    · simp only [List.find?_cons, ih]

/-- The open span of a source that the map holds, the one that a close would end. -/
def State.openSpanOf (s : State) (x : BondSource) : Option Mark := s.map.marks.find? (·.isOpenSpan x)

/-- A span is closed as soon as the first open span of the source has its end, or the lost-span flag of a source without one is clear. -/
theorem State.spanClosed_of {s u : State} {x : BondSource} {e : Nat}
    (ended : ∀ m, s.openSpanOf x = some m → { m with finish := some (max m.start e) } ∈ u.map.marks)
    (cleared : s.openSpanOf x = none → u.lostSpan x = false) : s.spanClosed u x e := by
  refine ⟨fun pre m post split before opened => ended m ?_, fun none => cleared ?_⟩
  · refine List.find?_eq_some_iff_append.mpr ⟨opened, pre, post, split, fun y hy => ?_⟩
    rw [before y hy]
    rfl
  · exact List.find?_eq_none.mpr fun m hm => by simp [none m hm]

/-! ### What stands of the spans -/

/-- Of the spans of `x`: its first open span and its lost-span flag are the same, and every mark that has an end stays. -/
structure State.SpansStand (x : BondSource) (s t : State) : Prop where
  first : t.openSpanOf x = s.openSpanOf x
  lost : t.lostSpan x = s.lostSpan x
  ended : ∀ m ∈ s.map.marks, m.finish.isSome → m ∈ t.map.marks

theorem State.lostSpan_setLostSpan (s : State) (x : BondSource) (b : Bool) : (s.setLostSpan x b).lostSpan x = b := by
  cases x <;> simp [State.setLostSpan, State.lostSpan, modifyAt]

theorem State.lostSpan_setLostSpan_ne (s : State) {x y : BondSource} (apart : y ≠ x) (b : Bool) :
    (s.setLostSpan y b).lostSpan x = s.lostSpan x := by
  cases x with
  | zone n =>
    cases y with
    | zone m => exact getElem_modifyAt_ne s.map.lostZone _ fun e => apart (e ▸ rfl)
    | glue k => rfl
  | glue k =>
    cases y with
    | zone n => rfl
    | glue j => exact getElem_modifyAt_ne s.map.lostGlue _ fun e => apart (e ▸ rfl)

theorem State.setMarks_lostSpan (s : State) (ms : List Mark) (x : BondSource) : (s.setMarks ms).lostSpan x = s.lostSpan x := by
  cases x <;> rfl

/-- A close for another source leaves the spans of this one. -/
theorem State.closeSpan_spansStand (s : State) {x y : BondSource} (apart : y ≠ x) (e : Nat) : s.SpansStand x (s.closeSpan y e) := by
  unfold State.closeSpan
  split
  · refine ⟨find_closeFirst apart e _, s.setMarks_lostSpan _ x, fun m hm end_ => mem_closeFirst_of_mem hm ?_⟩
    refine Bool.eq_false_iff.mpr fun opened => ?_
    rw [Mark.finish_of_isOpenSpan opened] at end_
    cases end_
  · split
    · refine ⟨?_, s.lostSpan_setLostSpan_ne apart _, fun m hm _ => ?_⟩
      · unfold State.openSpanOf
        rw [State.setLostSpan_marks]
      · rwa [State.setLostSpan_marks]
    · exact ⟨rfl, rfl, fun _ h _ => h⟩

/-- A close ends the source's first open span, or clears the flag of a source that has none. -/
theorem State.closeSpan_self (s : State) (x : BondSource) (e : Nat) :
    (∀ m, s.openSpanOf x = some m → { m with finish := some (max m.start e) } ∈ (s.closeSpan x e).map.marks) ∧
      (s.openSpanOf x = none → (s.closeSpan x e).lostSpan x = false) := by
  unfold State.closeSpan
  refine ⟨fun m found => ?_, fun none => ?_⟩
  · rw [if_pos (List.any_eq_true.mpr ⟨m, List.mem_of_find?_eq_some found, List.find?_some found⟩)]
    exact mem_closeFirst_of_find e found
  · rw [if_neg fun some => ?_]
    · split
      · exact s.lostSpan_setLostSpan x false
      · next kept => exact Bool.eq_false_iff.mpr kept
    · obtain ⟨m, hm, opened⟩ := List.any_eq_true.mp some
      exact List.find?_eq_none.mp none m hm opened

/-! ### A span opened (R22, R24) -/

/-- From `s` to `t` at most spans of `x` have been opened. -/
structure State.Opens (x : BondSource) (s t : State) : Prop where
  marks : ∀ m ∈ s.map.marks, m ∈ t.map.marks
  count : s.map.marks.length ≤ t.map.marks.length
  lost : ∀ y, s.lostSpan y = true → t.lostSpan y = true
  others : ∀ y, y ≠ x → t.lostSpan y = s.lostSpan y
  bridges : t.map.bridges = s.map.bridges

theorem State.Opens.refl (x : BondSource) (s : State) : s.Opens x s :=
  ⟨fun _ h => h, le_refl _, fun _ h => h, fun _ _ => rfl, rfl⟩

theorem State.Opens.of_map {x : BondSource} {s t : State} (h : t.map = s.map) : s.Opens x t := by
  have lost (y : BondSource) : t.lostSpan y = s.lostSpan y := by
    unfold State.lostSpan
    rw [h]
  exact ⟨fun m hm => h ▸ hm, by rw [h], fun y hy => (lost y).trans hy, fun y _ => lost y, by rw [h]⟩

theorem State.Opens.trans {x : BondSource} {s t u : State} (h : s.Opens x t) (h' : t.Opens x u) : s.Opens x u where
  marks m hm := h'.marks m (h.marks m hm)
  count := h.count.trans h'.count
  lost y hy := h'.lost y (h.lost y hy)
  others y hy := (h'.others y hy).trans (h.others y hy)
  bridges := h'.bridges.trans h.bridges

theorem State.Opens.spanOpened {x y : BondSource} {s t : State} (h : s.Opens x t) {p : Nat} (opened : s.spanOpened y p) :
    t.spanOpened y p := by
  rcases opened with stored | ⟨full, lost⟩
  · exact .inl (h.marks _ stored)
  · exact .inr ⟨full.trans h.count, h.lost y lost⟩

theorem State.lowerRa_marks (s : State) (p : Nat) : (s.lowerRa p).map.marks = s.map.marks := by
  unfold State.lowerRa
  split
  · split <;> rfl
  · rfl

theorem State.lowerRa_lostSpan (s : State) (p : Nat) (x : BondSource) : (s.lowerRa p).lostSpan x = s.lostSpan x := by
  unfold State.lowerRa
  split
  · split <;> cases x <;> rfl
  · cases x <;> rfl

/-- An open span that a full map refuses sets the lost-span flag of its source. -/
theorem State.loseMark_span (s : State) (x : BondSource) (p : Nat) :
    let t := s.loseMark { start := p, finish := none, body := .bondRisk x }
    t.map.marks = s.map.marks ∧ t.lostSpan x = true ∧ ∀ y, y ≠ x → t.lostSpan y = s.lostSpan y := by
  refine ⟨?_, State.lostSpan_setLostSpan _ x true, fun y apart => ?_⟩
  · exact (State.setLostSpan_marks ..).trans (s.lowerRa_marks p)
  · refine (State.lostSpan_setLostSpan_ne _ apart.symm true).trans (Eq.trans ?_ (s.lowerRa_lostSpan p y))
    cases y <;> rfl

theorem State.openSpan_eq (s : State) (x : BondSource) (p : Nat) :
    s.openSpan x p =
      if s.map.marks.length < Config.mapCapacity then
        s.setMarks (insertSorted { start := p, finish := none, body := .bondRisk x } s.map.marks)
      else s.loseMark { start := p, finish := none, body := .bondRisk x } := by
  simp only [State.openSpan, State.insertMark, Mark.isChange]
  split <;> rfl

theorem State.openSpan_opens (s : State) (x : BondSource) (p : Nat) : s.Opens x (s.openSpan x p) := by
  have bridges : (s.openSpan x p).map.bridges = s.map.bridges := s.insertMark_bridges _
  rw [State.openSpan_eq] at bridges ⊢
  split at bridges
  · next room =>
    rw [if_pos room]
    refine ⟨fun m hm => mem_insertSorted.mpr (.inr hm), ?_, fun y hy => (s.setMarks_lostSpan _ y).trans hy,
      fun y _ => s.setMarks_lostSpan _ y, bridges⟩
    exact (Nat.le_succ _).trans (insertSorted_length ..).ge
  · next full =>
    rw [if_neg full]
    obtain ⟨marks, lost, others⟩ := s.loseMark_span x p
    refine ⟨fun m hm => marks ▸ hm, by rw [marks], fun y hy => ?_, others, bridges⟩
    by_cases own : y = x
    · exact own ▸ lost
    · exact (others y own).trans hy

theorem State.openSpan_spanOpened (s : State) (x : BondSource) (p : Nat) : (s.openSpan x p).spanOpened x p := by
  rw [State.openSpan_eq]
  split
  · exact .inl (mem_insertSorted.mpr (.inl rfl))
  · next full =>
    obtain ⟨marks, lost, -⟩ := s.loseMark_span x p
    exact .inr ⟨by rw [marks]; omega, lost⟩

/-! ### One report to one owner -/

/-- What a report to `x` leaves: the other zones but for their claims, the other glue stations, all settings and switches, the bridges and the
BRIDGE entry. -/
structure State.Reports (x : BondSource) (s t : State) : Prop where
  within : s.Within [.map, .bnd, .lsv] t
  opens : s.Opens x t
  zones : ∀ n, x ≠ .zone n → t.zone n = { s.zone n with claim := (t.zone n).claim }
  glues : ∀ k, x ≠ .glue k → t.glue k = s.glue k
  zoneSet : ∀ n, (t.zone n).settings = (s.zone n).settings ∧ (t.zone n).enabled = (s.zone n).enabled
  glueSet : ∀ k, (t.glue k).settings = (s.glue k).settings
  entry : t.lsv.ceiling.bridge = s.lsv.ceiling.bridge

theorem State.Reports.refl (x : BondSource) (s : State) : s.Reports x s :=
  ⟨.refl s, .refl x s, fun _ _ => rfl, fun _ _ => rfl, fun _ => ⟨rfl, rfl⟩, fun _ => rfl, rfl⟩

theorem State.Reports.trans {x : BondSource} {s t u : State} (h : s.Reports x t) (h' : t.Reports x u) : s.Reports x u where
  within := h.within.trans h'.within
  opens := h.opens.trans h'.opens
  zones n hn := by rw [h'.zones n hn, h.zones n hn]
  glues k hk := (h'.glues k hk).trans (h.glues k hk)
  zoneSet n := ⟨(h'.zoneSet n).1.trans (h.zoneSet n).1, (h'.zoneSet n).2.trans (h.zoneSet n).2⟩
  glueSet k := (h'.glueSet k).trans (h.glueSet k)
  entry := h'.entry.trans h.entry

theorem State.onZone_reports (s : State) (n : ZoneId) (f : Zone → Zone)
    (hf : (f (s.zone n)).settings = (s.zone n).settings ∧ (f (s.zone n)).enabled = (s.zone n).enabled) :
    s.Reports (.zone n) (s.onZone n f) where
  within := (s.bnd_within _).mono (by simp)
  opens := .of_map rfl
  zones m hm := by rw [s.onZone_ne n f fun e => hm (e ▸ rfl)]
  glues _ _ := rfl
  zoneSet m := by
    by_cases own : m = n
    · subst own
      rwa [State.onZone_self]
    · rw [s.onZone_ne n f own]
      exact ⟨rfl, rfl⟩
  glueSet _ := rfl
  entry := rfl

theorem State.onGlue_reports (s : State) (k : GlueId) (f : GlueStation → GlueStation)
    (hf : (f (s.glue k)).settings = (s.glue k).settings) : s.Reports (.glue k) (s.onGlue k f) where
  within := (s.bnd_within _).mono (by simp)
  opens := .of_map rfl
  zones _ _ := rfl
  glues j hj := s.onGlue_ne k f fun e => hj (e ▸ rfl)
  zoneSet _ := ⟨rfl, rfl⟩
  glueSet j := by
    by_cases own : j = k
    · subst own
      rwa [State.onGlue_self]
    · rw [s.onGlue_ne k f own]
  entry := rfl

theorem State.raise_reports (x : BondSource) (s : State) (k : NoticeKind) (y : Subject) (d : List Byte) : s.Reports x (s.raise k y d) where
  within := (s.raise_within k y d).mono (by simp)
  opens := .of_map rfl
  zones _ _ := rfl
  glues _ _ := rfl
  zoneSet _ := ⟨rfl, rfl⟩
  glueSet _ := rfl
  entry := rfl

theorem State.openSpan_reports (s : State) (x : BondSource) (p : Nat) : s.Reports x (s.openSpan x p) := by
  have within := s.openSpan_within x p
  have bnd : (s.openSpan x p).bnd = s.bnd := within.same .bnd (by simp)
  have lsv : (s.openSpan x p).lsv = s.lsv := within.same .lsv (by simp)
  have zone (n : ZoneId) : (s.openSpan x p).zone n = s.zone n := by unfold State.zone; rw [bnd]
  have glue (k : GlueId) : (s.openSpan x p).glue k = s.glue k := by unfold State.glue; rw [bnd]
  exact ⟨within.mono (by simp), s.openSpan_opens x p, fun n _ => by rw [zone], fun k _ => glue k, fun n => by rw [zone]; exact ⟨rfl, rfl⟩,
    fun k => by rw [glue], by rw [lsv]⟩

theorem State.onClaim_reports (x : BondSource) (s : State) (n : ZoneId) (c : Option Nat) :
    s.Reports x (s.onZone n fun z => { z with claim := c }) where
  within := (s.bnd_within _).mono (by simp)
  opens := .of_map rfl
  zones m _ := by
    by_cases own : m = n
    · subst own
      rw [State.onZone_self]
    · rw [s.onZone_ne n _ own]
  glues _ _ := rfl
  zoneSet m := by
    by_cases own : m = n
    · subst own
      rw [State.onZone_self]
      exact ⟨rfl, rfl⟩
    · rw [s.onZone_ne n _ own]
      exact ⟨rfl, rfl⟩
  glueSet _ := rfl
  entry := rfl

theorem State.setEntry_bond_reports (x : BondSource) (s : State) (v : Option Nat) : s.Reports x (s.setEntry .bond v) := by
  have within := s.setEntry_within .bond v
  have bnd : (s.setEntry .bond v).bnd = s.bnd := within.same .bnd (by simp)
  have zone (n : ZoneId) : (s.setEntry .bond v).zone n = s.zone n := by unfold State.zone; rw [bnd]
  have glue (k : GlueId) : (s.setEntry .bond v).glue k = s.glue k := by unfold State.glue; rw [bnd]
  refine ⟨within.mono (by simp), .of_map (within.same .map (by simp)), fun n _ => by rw [zone], fun k _ => glue k,
    fun n => by rw [zone]; exact ⟨rfl, rfl⟩, fun k => by rw [glue], ?_⟩
  rw [State.setEntry, setCeiling_lsv]
  rfl

/-- The evaluation of the BOND claims changes claims and the BOND entry alone. -/
theorem State.evalBond_reports (x : BondSource) (s : State) : s.Reports x s.evalBond :=
  .trans (State.forAll_keep (P := s.Reports x) (fun _ n h => h.trans (State.onClaim_reports x _ n _)) (.refl x s))
    (State.setEntry_bond_reports x _ _)

theorem State.evalBond_zone (s : State) (n : ZoneId) : s.evalBond.zone n = { s.zone n with claim := (s.evalBond.zone n).claim } :=
  (s.evalBond_reports (.glue 0)).zones n (by simp)

theorem State.Within.linePos {bs : List Block} {s t : State} (h : s.Within bs t) : t.linePos = s.linePos :=
  congrArg Counter.pos (h.counter 0)

/-- A zone opens its span at LINE − D_out (R88). -/
theorem State.openZoneSpan_spec (s : State) (n : ZoneId) :
    s.Reports (.zone n) (s.openZoneSpan n) ∧ (s.openZoneSpan n).spanOpened (.zone n) (s.linePos - s.zoneOut n) ∧
      (s.openZoneSpan n).zone n = { s.zone n with span := some (s.linePos - s.zoneOut n) } := by
  have opened := State.openSpan_reports s (.zone n) (s.linePos - s.zoneOut n)
  have zone : (s.openSpan (.zone n) (s.linePos - s.zoneOut n)).zone n = s.zone n := by
    have bnd : (s.openSpan (.zone n) (s.linePos - s.zoneOut n)).bnd = s.bnd := (s.openSpan_within ..).same .bnd (by simp)
    unfold State.zone
    rw [bnd]
  refine ⟨opened.trans (State.onZone_reports _ n _ ⟨rfl, rfl⟩), s.openSpan_spanOpened _ _, ?_⟩
  rw [State.openZoneSpan, State.onZone_self, zone]

/-- What an entry to FAULT from another state does before the span: the state, the demand, the notice. -/
def State.zoneFaulted (s : State) (n : ZoneId) : State :=
  let t := s.onZone n fun z => { z with state := .fault, demand := 0 }
  t.raise .zoneFault (zoneSubject n) (t.zone n).causeBytes

theorem State.zoneFaulted_spec (s : State) (n : ZoneId) :
    s.Reports (.zone n) (s.zoneFaulted n) ∧ (s.zoneFaulted n).zone n = { s.zone n with state := .fault, demand := 0 } :=
  ⟨(s.onZone_reports n _ ⟨rfl, rfl⟩).trans (State.raise_reports ..), s.onZone_self n _⟩

theorem State.enterZone_fault (s : State) (n : ZoneId) :
    s.enterZone n .fault =
      if (s.zone n).state = .fault then s
      else (if ((s.zoneFaulted n).zone n).span.isSome then s.zoneFaulted n else (s.zoneFaulted n).openZoneSpan n).evalBond := rfl

/-- An entry to FAULT, and the span that it opens. -/
theorem State.enterZone_fault_spec (s : State) (n : ZoneId) :
    s.Reports (.zone n) (s.enterZone n .fault) ∧ ((s.enterZone n .fault).zone n).state = .fault ∧
      ((s.enterZone n .fault).zone n).output = (s.zone n).output ∧
      ((s.zone n).state ≠ .fault → (s.zone n).span = none → (s.enterZone n .fault).spanOpened (.zone n) (s.linePos - s.zoneOut n)) := by
  obtain ⟨faulted, zone⟩ := s.zoneFaulted_spec n
  have out : (s.zoneFaulted n).zoneOut n = s.zoneOut n := by
    unfold State.zoneOut
    rw [zone]
  rw [State.enterZone_fault, zone]
  by_cases standing : (s.zone n).state = .fault
  · rw [if_pos standing]
    exact ⟨.refl _ s, standing, rfl, fun h => absurd standing h⟩
  · rw [if_neg standing]
    by_cases spans : (s.zone n).span.isSome = true
    · rw [if_pos spans, State.evalBond_zone, zone]
      refine ⟨faulted.trans (State.evalBond_reports ..), rfl, rfl, fun _ none => ?_⟩
      rw [none] at spans
      cases spans
    · obtain ⟨opening, opened, zone'⟩ := (s.zoneFaulted n).openZoneSpan_spec n
      rw [if_neg spans, State.evalBond_zone, zone', zone]
      refine ⟨(faulted.trans opening).trans (State.evalBond_reports ..), rfl, rfl, fun _ _ => ?_⟩
      rw [faulted.within.linePos, out] at opened
      exact (State.evalBond_reports (.zone n) _).opens.spanOpened opened

/-- The OUTPUT cause of a zone set or cleared. -/
def State.zoneTold (s : State) (n : ZoneId) (b : Bool) : State := s.onZone n fun z => { z with output := b }

theorem State.zoneTold_self (s : State) (n : ZoneId) (b : Bool) : (s.zoneTold n b).zone n = { s.zone n with output := b } :=
  s.onZone_self n _

theorem State.zoneReport_eq (s : State) (n : ZoneId) (b : Bool) :
    s.zoneReport n b = if (b && (s.zone n).enabled) = true then (s.zoneTold n b).enterZone n .fault else s.zoneTold n b := by
  have enabled : ((s.zoneTold n b).zone n).enabled = (s.zone n).enabled := by rw [State.zoneTold_self]
  rw [← enabled]
  rfl

/-- A report to a zone (R87). -/
theorem State.zoneReport_spec (s : State) (n : ZoneId) (b : Bool) :
    s.Reports (.zone n) (s.zoneReport n b) ∧ ((s.zoneReport n b).zone n).output = b ∧
      (b = false → (s.zoneReport n b).zone n = { s.zone n with output := false } ∧ (s.zoneReport n b).map = s.map) ∧
      (b = true → (s.zone n).enabled = true → ((s.zoneReport n b).zone n).state = .fault ∧
        ((s.zone n).state ≠ .fault → (s.zone n).span = none →
          (s.zoneReport n b).spanOpened (.zone n) (s.linePos - s.zoneOut n))) := by
  have told : s.Reports (.zone n) (s.zoneTold n b) := s.onZone_reports n _ ⟨rfl, rfl⟩
  have zone := s.zoneTold_self n b
  have out : (s.zoneTold n b).zoneOut n = s.zoneOut n := by
    unfold State.zoneOut
    rw [zone]
  rw [State.zoneReport_eq]
  split
  · next both =>
    obtain ⟨isFault, enabled⟩ := Bool.and_eq_true_iff.mp both
    obtain ⟨entering, state, output, opened⟩ := (s.zoneTold n b).enterZone_fault_spec n
    rw [zone] at output opened
    rw [out] at opened
    exact ⟨told.trans entering, output, fun clear => absurd isFault (by rw [clear]; decide), fun _ _ => ⟨state, opened⟩⟩
  · next some =>
    refine ⟨told, by rw [zone], fun clear => ⟨by rw [zone, clear], rfl⟩, fun isFault enabled => absurd ?_ some⟩
    rw [isFault, enabled]
    rfl

/-- A fault at a glue station that is not in FAULT yet, before its span and its notice. -/
def State.glueFaulted (s : State) (k : GlueId) (c : GlueCause) : State :=
  ((s.onGlue k (·.addCause c)).setGlueState k .fault).setPair k .off .off

theorem State.glueFaulted_self (s : State) {k : GlueId} (h : (s.glue k).state ≠ .fault) :
    (s.glueFaulted k .output).glue k =
      { s.glue k with output := true, state := .fault, keepWet := none, levelA := .off, levelB := .off } := by
  simp [State.glueFaulted, State.setPair, State.setGlueState, GlueStation.addCause, GlueState.resting, h]

theorem State.glueFaulted_reports (s : State) (k : GlueId) : s.Reports (.glue k) (s.glueFaulted k .output) :=
  ((s.onGlue_reports k _ rfl).trans (State.onGlue_reports _ k _ (by split <;> rfl))).trans (State.onGlue_reports _ k _ rfl)

/-- The station with its span, its start the glue point. -/
theorem State.openGlueSpan_spec (s : State) (k : GlueId) :
    s.Reports (.glue k) (s.openGlueSpan k) ∧
      (s.openGlueSpan k).glue k = { s.glue k with span := some ((s.glue k).span.getD (s.gluePoint k)) } ∧
      ((s.glue k).span = none → (s.openGlueSpan k).spanOpened (.glue k) (s.gluePoint k)) := by
  have opening := State.openSpan_reports s (.glue k) (s.gluePoint k)
  have glue : (s.openSpan (.glue k) (s.gluePoint k)).glue k = s.glue k := by
    have bnd : (s.openSpan (.glue k) (s.gluePoint k)).bnd = s.bnd := (s.openSpan_within ..).same .bnd (by simp)
    unfold State.glue
    rw [bnd]
  unfold State.openGlueSpan
  rcases span : (s.glue k).span with _ | p
  · rw [if_neg (by simp), State.onGlue_self, glue]
    exact ⟨opening.trans (State.onGlue_reports _ k _ rfl), rfl, fun _ => s.openSpan_spanOpened _ _⟩
  · rw [if_pos Option.isSome_some]
    refine ⟨.refl _ s, ?_, fun h => absurd h (by simp)⟩
    rw [Option.getD_some, ← span]

theorem State.gluePoint_congr {s t : State} (lcu : t.lcu = s.lcu) (bridges : t.map.bridges = s.map.bridges) (k : GlueId) :
    t.gluePoint k = s.gluePoint k := by
  unfold State.gluePoint State.linePos State.counter State.bridge
  rw [lcu, bridges]

theorem State.Reports.gluePoint {x : BondSource} {s t : State} (h : s.Reports x t) (k : GlueId) : t.gluePoint k = s.gluePoint k :=
  State.gluePoint_congr (h.within.same .lcu (by simp)) h.opens.bridges k

/-- A station that is OFF takes no report. -/
theorem State.glueReport_off (s : State) {k : GlueId} (off : (s.glue k).state = .off) (b : Bool) : s.glueReport k b = s := by
  unfold State.glueReport State.glueFault
  rw [off]
  cases b <;> rfl

theorem State.glueReport_clear (s : State) {k : GlueId} (on : (s.glue k).state ≠ .off) :
    s.glueReport k false = s.onGlue k fun g => { g with output := false } := by
  unfold State.glueReport
  rw [if_neg (by decide), if_neg on]

theorem State.glueReport_joins (s : State) {k : GlueId} (faulted : (s.glue k).state = .fault) :
    s.glueReport k true = s.onGlue k fun g => { g with output := true } := by
  unfold State.glueReport State.glueFault
  rw [if_pos rfl, faulted]
  rfl

theorem State.glueReport_faults (s : State) {k : GlueId} (on : (s.glue k).state ≠ .off) (sound : (s.glue k).state ≠ .fault) :
    s.glueReport k true =
      ((s.glueFaulted k .output).openGlueSpan k).raise .glueFault (glueSubject k) (natBytes 1 GlueCause.output.ctorIdx) := by
  unfold State.glueReport State.glueFault
  rw [if_pos rfl]
  cases state : (s.glue k).state
  case off => exact absurd state on
  case fault => exact absurd state sound
  all_goals rfl

/-- The station after a report of one of its outputs (R94). -/
def GlueStation.told (g : GlueStation) (point : Nat) (b : Bool) : GlueStation :=
  if g.state = .off then g
  else if b = false then { g with output := false }
  else if g.state = .fault then { g with output := true }
  else { g with output := true, state := .fault, keepWet := none, levelA := .off, levelB := .off, span := some (g.span.getD point) }

/-- A report to a glue station (R94). -/
theorem State.glueReport_spec (s : State) (k : GlueId) (b : Bool) :
    s.Reports (.glue k) (s.glueReport k b) ∧ (s.glueReport k b).glue k = (s.glue k).told (s.gluePoint k) b ∧
      (b = false ∨ (s.glue k).state = .off → (s.glueReport k b).map = s.map) ∧
      (b = true → (s.glue k).state ≠ .off → (s.glue k).state ≠ .fault → (s.glue k).span = none →
        (s.glueReport k b).spanOpened (.glue k) (s.gluePoint k)) := by
  unfold GlueStation.told
  by_cases off : (s.glue k).state = .off
  · rw [s.glueReport_off off, if_pos off]
    exact ⟨.refl _ s, rfl, fun _ => rfl, fun _ on => absurd off on⟩
  · rw [if_neg off]
    cases b
    · rw [s.glueReport_clear off, if_pos rfl, State.onGlue_self]
      exact ⟨s.onGlue_reports k _ rfl, rfl, fun _ => rfl, fun h => by cases h⟩
    · rw [if_neg (by decide)]
      by_cases faulted : (s.glue k).state = .fault
      · rw [s.glueReport_joins faulted, if_pos faulted, State.onGlue_self]
        exact ⟨s.onGlue_reports k _ rfl, rfl, fun _ => rfl, fun _ _ h => absurd faulted h⟩
      · have faults := s.glueFaulted_reports k
        obtain ⟨opening, glue, opened⟩ := (s.glueFaulted k .output).openGlueSpan_spec k
        rw [s.glueFaulted_self faulted, faults.gluePoint] at glue
        rw [s.glueFaulted_self faulted, faults.gluePoint] at opened
        rw [s.glueReport_faults off faulted, if_neg faulted]
        refine ⟨(faults.trans opening).trans (State.raise_reports ..), glue, fun h => ?_, fun _ _ _ none => opened none⟩
        rcases h with h | h
        · cases h
        · exact absurd h off

/-! ### The reports of a change, one after another -/

/-- The source of BOND_RISK spans that an owner is. -/
def Owner.source : Owner → BondSource
  | .zone n => .zone n
  | .sideA k => .glue k
  | .sideB k => .glue k

theorem Owner.source_zone {w : Owner} {n : ZoneId} : w.source = .zone n ↔ w = .zone n := by
  cases w <;> simp [Owner.source]

theorem Owner.source_glue {w : Owner} {k : GlueId} : w.source = .glue k ↔ w = .sideA k ∨ w = .sideB k := by
  cases w <;> simp [Owner.source]

theorem State.ownerReport_reports (s : State) (w : Owner) (b : Bool) : s.Reports w.source (s.ownerReport w b) := by
  cases w with
  | zone n => exact (s.zoneReport_spec n b).1
  | sideA k => exact (s.glueReport_spec k b).1
  | sideB k => exact (s.glueReport_spec k b).1

theorem State.ownerReport_zone (s : State) {w : Owner} {n : ZoneId} (h : w.source = .zone n) (b : Bool) :
    s.ownerReport w b = s.zoneReport n b := by
  rw [Owner.source_zone.mp h]
  rfl

theorem State.ownerReport_glue (s : State) {w : Owner} {k : GlueId} (h : w.source = .glue k) (b : Bool) :
    s.ownerReport w b = s.glueReport k b := by
  rcases Owner.source_glue.mp h with rfl | rfl <;> rfl

/-- Reports sent one after another. -/
def State.takeReports (s : State) (rs : List (Owner × Bool)) : State := rs.foldl (fun t r => t.ownerReport r.1 r.2) s

theorem State.sendReports_eq (new old : State) : new.sendReports old = new.takeReports (changeReports old new) := rfl

theorem State.takeReports_append (s : State) (rs qs : List (Owner × Bool)) :
    s.takeReports (rs ++ qs) = (s.takeReports rs).takeReports qs := List.foldl_append ..

theorem State.takeReports_cons (s : State) (r : Owner × Bool) (rs : List (Owner × Bool)) :
    s.takeReports (r :: rs) = (s.ownerReport r.1 r.2).takeReports rs := rfl

/-- A relation that every report of the list makes, and that chains, holds from the first state to the last. -/
theorem State.takeReports_chain {R : State → State → Prop} (refl : ∀ s, R s s) (trans : ∀ {s t u}, R s t → R t u → R s u)
    {rs : List (Owner × Bool)} (h : ∀ t, ∀ r ∈ rs, R t (t.ownerReport r.1 r.2)) (s : State) : R s (s.takeReports rs) :=
  List.foldlRecOn rs _ (refl s) fun t ht r hr => trans ht (h t r hr)

/-- What any reports leave. -/
structure State.Sends (s t : State) : Prop where
  within : s.Within [.map, .bnd, .lsv] t
  marks : ∀ m ∈ s.map.marks, m ∈ t.map.marks
  opened : ∀ x p, s.spanOpened x p → t.spanOpened x p
  bridges : t.map.bridges = s.map.bridges
  zones : ∀ n, (t.zone n).settings = (s.zone n).settings ∧ (t.zone n).enabled = (s.zone n).enabled
  glues : ∀ k, (t.glue k).settings = (s.glue k).settings
  entry : t.lsv.ceiling.bridge = s.lsv.ceiling.bridge

theorem State.Sends.refl (s : State) : s.Sends s :=
  ⟨.refl s, fun _ h => h, fun _ _ h => h, rfl, fun _ => ⟨rfl, rfl⟩, fun _ => rfl, rfl⟩

theorem State.Sends.trans {s t u : State} (h : s.Sends t) (h' : t.Sends u) : s.Sends u where
  within := h.within.trans h'.within
  marks m hm := h'.marks m (h.marks m hm)
  opened x p hx := h'.opened x p (h.opened x p hx)
  bridges := h'.bridges.trans h.bridges
  zones n := ⟨(h'.zones n).1.trans (h.zones n).1, (h'.zones n).2.trans (h.zones n).2⟩
  glues k := (h'.glues k).trans (h.glues k)
  entry := h'.entry.trans h.entry

theorem State.Reports.sends {x : BondSource} {s t : State} (h : s.Reports x t) : s.Sends t :=
  ⟨h.within, h.opens.marks, fun _ _ => h.opens.spanOpened, h.opens.bridges, h.zoneSet, h.glueSet, h.entry⟩

theorem State.takeReports_sends (s : State) (rs : List (Owner × Bool)) : s.Sends (s.takeReports rs) :=
  State.takeReports_chain State.Sends.refl State.Sends.trans (fun t r _ => (t.ownerReport_reports r.1 r.2).sends) s

theorem State.Sends.gluePoint {s t : State} (h : s.Sends t) (k : GlueId) : t.gluePoint k = s.gluePoint k :=
  State.gluePoint_congr (h.within.same .lcu (by simp)) h.bridges k

theorem State.Sends.spanStart {s t : State} (h : s.Sends t) (n : ZoneId) : t.linePos - t.zoneOut n = s.linePos - s.zoneOut n := by
  unfold State.zoneOut
  rw [h.within.linePos, (h.zones n).1]

/-! #### A zone -/

/-- Clear reports leave all but the OUTPUT cause of a zone, its claim aside. -/
structure State.ZoneCleared (n : ZoneId) (s t : State) : Prop where
  zone : t.zone n = { s.zone n with output := (t.zone n).output, claim := (t.zone n).claim }
  output : (s.zone n).output = false → (t.zone n).output = false

theorem State.takeReports_zoneCleared {n : ZoneId} {rs : List (Owner × Bool)} (clear : ∀ r ∈ rs, r.1.source = .zone n → r.2 = false)
    (s : State) : s.ZoneCleared n (s.takeReports rs) := by
  refine State.takeReports_chain (fun _ => ⟨rfl, id⟩) (fun h h' => ⟨by rw [h'.zone, h.zone], fun off => h'.output (h.output off)⟩)
    (fun t r hr => ?_) s
  by_cases own : r.1.source = .zone n
  · obtain ⟨-, -, cleared, -⟩ := t.zoneReport_spec n r.2
    rw [t.ownerReport_zone own]
    obtain ⟨zone, -⟩ := cleared (clear r hr own)
    exact ⟨by rw [zone], fun _ => by rw [zone]⟩
  · have zone := (t.ownerReport_reports r.1 r.2).zones n own
    exact ⟨by rw [zone], fun off => by rw [zone]; exact off⟩

/-- OUTPUT is among the causes of the zone, which is in FAULT if it is enabled. -/
def State.ZoneFaulted (s : State) (n : ZoneId) : Prop :=
  (s.zone n).output = true ∧ ((s.zone n).enabled = true → (s.zone n).state = .fault)

theorem State.zoneReport_faulted (s : State) (n : ZoneId) : (s.zoneReport n true).ZoneFaulted n := by
  obtain ⟨reported, output, -, faults⟩ := s.zoneReport_spec n true
  exact ⟨output, fun enabled => (faults rfl ((reported.zoneSet n).2 ▸ enabled)).1⟩

/-- Fault reports keep a zone faulted. -/
theorem State.takeReports_zoneFaulted {n : ZoneId} {rs : List (Owner × Bool)} (faults : ∀ r ∈ rs, r.2 = true) {s : State}
    (h : s.ZoneFaulted n) : (s.takeReports rs).ZoneFaulted n := by
  refine State.takeReports_chain (R := fun t u => t.ZoneFaulted n → u.ZoneFaulted n) (fun _ h => h) (fun h h' x => h' (h x))
    (fun t r hr holds => ?_) s h
  by_cases own : r.1.source = .zone n
  · rw [t.ownerReport_zone own, faults r hr]
    exact t.zoneReport_faulted n
  · unfold State.ZoneFaulted
    rw [(t.ownerReport_reports r.1 r.2).zones n own]
    exact holds

/-! #### A glue station -/

/-- Clear reports leave all but the OUTPUT cause of a glue station. -/
structure State.GlueCleared (k : GlueId) (s t : State) : Prop where
  glue : t.glue k = { s.glue k with output := (t.glue k).output }
  output : (s.glue k).output = false → (t.glue k).output = false

theorem State.takeReports_glueCleared {k : GlueId} {rs : List (Owner × Bool)} (clear : ∀ r ∈ rs, r.1.source = .glue k → r.2 = false)
    (s : State) : s.GlueCleared k (s.takeReports rs) := by
  refine State.takeReports_chain (fun _ => ⟨rfl, id⟩) (fun h h' => ⟨by rw [h'.glue, h.glue], fun off => h'.output (h.output off)⟩)
    (fun t r hr => ?_) s
  by_cases own : r.1.source = .glue k
  · rw [t.ownerReport_glue own, clear r hr own]
    obtain ⟨-, glue, -⟩ := t.glueReport_spec k false
    unfold GlueStation.told at glue
    split at glue
    · exact ⟨by rw [glue], fun off => by rw [glue]; exact off⟩
    · exact ⟨by rw [glue]; rfl, fun _ => by rw [glue]; rfl⟩
  · have glue := (t.ownerReport_reports r.1 r.2).glues k own
    exact ⟨by rw [glue], fun off => by rw [glue]; exact off⟩

/-- OUTPUT is among the causes of the glue station, which is in FAULT. -/
def State.GlueFaulted (s : State) (k : GlueId) : Prop := (s.glue k).output = true ∧ (s.glue k).state = .fault

theorem State.glueReport_faulted (s : State) {k : GlueId} (on : (s.glue k).state ≠ .off) : (s.glueReport k true).GlueFaulted k := by
  obtain ⟨-, glue, -⟩ := s.glueReport_spec k true
  unfold State.GlueFaulted
  rw [glue, GlueStation.told, if_neg on, if_neg (by decide)]
  split
  · next faulted => exact ⟨rfl, faulted⟩
  · exact ⟨rfl, rfl⟩

theorem State.takeReports_glueFaulted {k : GlueId} {rs : List (Owner × Bool)} (faults : ∀ r ∈ rs, r.2 = true) {s : State}
    (h : s.GlueFaulted k) : (s.takeReports rs).GlueFaulted k := by
  refine State.takeReports_chain (R := fun t u => t.GlueFaulted k → u.GlueFaulted k) (fun _ h => h) (fun h h' x => h' (h x))
    (fun t r hr holds => ?_) s h
  by_cases own : r.1.source = .glue k
  · rw [t.ownerReport_glue own, faults r hr]
    exact t.glueReport_faulted (by rw [holds.2]; decide)
  · unfold State.GlueFaulted
    rw [(t.ownerReport_reports r.1 r.2).glues k own]
    exact holds

/-- A station that is OFF takes no report, and its lost-span flag stands. -/
theorem State.takeReports_glueOff {k : GlueId} (rs : List (Owner × Bool)) {s : State} (off : (s.glue k).state = .off) :
    (s.takeReports rs).glue k = s.glue k ∧ (s.takeReports rs).lostSpan (.glue k) = s.lostSpan (.glue k) := by
  refine State.takeReports_chain
    (R := fun t u => (t.glue k).state = .off → u.glue k = t.glue k ∧ u.lostSpan (.glue k) = t.lostSpan (.glue k))
    (fun _ _ => ⟨rfl, rfl⟩) (fun h h' off => ?_) (fun t r _ off => ?_) s off
  · obtain ⟨glue, lost⟩ := h off
    obtain ⟨glue', lost'⟩ := h' (by rw [glue]; exact off)
    exact ⟨glue'.trans glue, lost'.trans lost⟩
  · by_cases own : r.1.source = .glue k
    · rw [t.ownerReport_glue own, t.glueReport_off off]
      exact ⟨rfl, rfl⟩
    · have reported := t.ownerReport_reports r.1 r.2
      exact ⟨reported.glues k own, reported.opens.others _ (Ne.symm own)⟩

/-- No report moves a target or a reading, and outputs that are OFF stay OFF. -/
structure State.GlueRests (k : GlueId) (s t : State) : Prop where
  target : (t.glue k).target = (s.glue k).target
  lastValid : (t.glue k).lastValid = (s.glue k).lastValid
  pair : (s.glue k).levelA = .off ∧ (s.glue k).levelB = .off → (t.glue k).levelA = .off ∧ (t.glue k).levelB = .off

theorem GlueStation.told_rests (g : GlueStation) (p : Nat) (b : Bool) :
    (g.told p b).target = g.target ∧ (g.told p b).lastValid = g.lastValid ∧
      (g.levelA = .off ∧ g.levelB = .off → (g.told p b).levelA = .off ∧ (g.told p b).levelB = .off) := by
  unfold GlueStation.told
  split
  · exact ⟨rfl, rfl, id⟩
  · split
    · exact ⟨rfl, rfl, id⟩
    · split
      · exact ⟨rfl, rfl, id⟩
      · exact ⟨rfl, rfl, fun _ => ⟨rfl, rfl⟩⟩

theorem State.takeReports_glueRests (k : GlueId) (rs : List (Owner × Bool)) (s : State) : s.GlueRests k (s.takeReports rs) := by
  refine State.takeReports_chain (fun _ => ⟨rfl, rfl, id⟩)
    (fun h h' => ⟨h'.target.trans h.target, h'.lastValid.trans h.lastValid, fun off => h'.pair (h.pair off)⟩) (fun t r _ => ?_) s
  by_cases own : r.1.source = .glue k
  · rw [t.ownerReport_glue own]
    obtain ⟨-, glue, -⟩ := t.glueReport_spec k r.2
    obtain ⟨target, lastValid, pair⟩ := (t.glue k).told_rests (t.gluePoint k) r.2
    exact ⟨by rw [glue, target], by rw [glue, lastValid], by rw [glue]; exact pair⟩
  · have glue := (t.ownerReport_reports r.1 r.2).glues k own
    exact ⟨by rw [glue], by rw [glue], by rw [glue]; exact id⟩

/-! ### The reports that a change sends (R103, R109) -/

theorem mem_outputReports {old new : State} {o : OutputId} {w : Owner} {b : Bool} (h : (w, b) ∈ outputReports old new o) :
    (b = true → new.ownedBy o = some w ∧ new.faulted o = true) := by
  intro isFault
  subst isFault
  unfold outputReports at h
  dsimp only at h
  split at h
  · split at h
    · next owner =>
      split at h
      · cases h
      · simp only [List.mem_singleton, Prod.mk.injEq] at h
        exact ⟨owner.trans (congrArg some h.1.symm), h.2.symm⟩
    · cases h
  · rcases List.mem_append.mp h with h | h
    · split at h
      · split at h <;> simp at h
      · cases h
    · split at h
      · next owner =>
        split at h
        · next faulted =>
          simp only [List.mem_singleton, Prod.mk.injEq, and_true] at h
          exact ⟨owner.trans (congrArg some h.symm), faulted⟩
        · cases h
      · cases h

/-- The clear reports of a change, and its fault reports, which come behind them. -/
def reportsOf (old new : State) (b : Bool) : List (Owner × Bool) := ((allIds 16).flatMap (outputReports old new)).filter fun r => r.2 == b

theorem changeReports_eq (old new : State) : changeReports old new = reportsOf old new false ++ reportsOf old new true := by
  simp only [changeReports, reportsOf]
  congr 1 <;> refine List.filter_congr fun r _ => ?_ <;> cases r.2 <;> rfl

theorem mem_reportsOf {old new : State} {b : Bool} {r : Owner × Bool} :
    r ∈ reportsOf old new b ↔ (∃ o, r ∈ outputReports old new o) ∧ r.2 = b := by
  simp [reportsOf, allIds]

/-- A new owner of a faulted output gets a fault report. -/
theorem outputReports_gained {old new : State} {o : OutputId} {w : Owner} (before : old.ownedBy o ≠ some w)
    (after : new.ownedBy o = some w) (faulted : new.faulted o = true) : (w, true) ∈ outputReports old new o := by
  unfold outputReports
  dsimp only
  rw [if_neg (by rw [after]; exact before), after]
  simp [faulted]

/-- An owner that loses a faulted output gets a clear report. -/
theorem outputReports_left {old new : State} {o : OutputId} {w : Owner} (before : old.ownedBy o = some w)
    (after : new.ownedBy o ≠ some w) (faulted : old.faulted o = true) : (w, false) ∈ outputReports old new o := by
  unfold outputReports
  dsimp only
  rw [if_neg (by rw [before]; exact Ne.symm after), before]
  simp [faulted]

/-- Nothing faulted before and behind a change: it sends no report. -/
theorem changeReports_of_sound {old new : State} (ho : ∀ o, old.faulted o = false) (hn : ∀ o, new.faulted o = false) :
    changeReports old new = [] := by
  have silent : (allIds 16).flatMap (outputReports old new) = [] := by
    refine List.flatMap_eq_nil_iff.mpr fun o _ => ?_
    unfold outputReports
    cases new.ownedBy o <;> cases old.ownedBy o <;> simp [ho o, hn o]
  simp [changeReports, silent]

/-- A change that sends a source a fault report: only clear reports reach the source before the first one, and only fault reports behind it. -/
theorem changeReports_split {old new : State} {x : BondSource} {r : Owner × Bool} (sent : r ∈ reportsOf old new true)
    (own : r.1.source = x) :
    ∃ pre w post, changeReports old new = pre ++ (w, true) :: post ∧ w.source = x ∧ (∀ q ∈ pre, q.1.source = x → q.2 = false) ∧
      ∀ q ∈ post, q.2 = true := by
  obtain ⟨q, found⟩ : ∃ q, (reportsOf old new true).find? (fun q => decide (q.1.source = x)) = some q :=
    Option.isSome_iff_exists.mp (List.find?_isSome.mpr ⟨r, sent, decide_eq_true own⟩)
  obtain ⟨first, pre, post, split, before⟩ := List.find?_eq_some_iff_append.mp found
  have isFault (p : Owner × Bool) (hp : p ∈ reportsOf old new true) : p.2 = true := (mem_reportsOf.mp hp).2
  have here : q = (q.1, true) := Prod.ext rfl (isFault q (split ▸ by simp))
  refine ⟨reportsOf old new false ++ pre, q.1, post, ?_, of_decide_eq_true first, fun p hp own => ?_,
    fun p hp => isFault p (split ▸ by simp [hp])⟩
  · rw [changeReports_eq, split, ← here, List.append_assoc]
  · rcases List.mem_append.mp hp with clear | fault
    · exact (mem_reportsOf.mp clear).2
    · exact absurd own (by simpa using before p fault)

/-- The OUTPUT fault that a change sends a zone (R87, R88). -/
theorem State.sendReports_zoneFault {old new : State} {o : OutputId} {n : ZoneId} (sent : (.zone n, true) ∈ outputReports old new o) :
    (new.sendReports old).ZoneFaulted n ∧
      ((new.zone n).enabled = true → (new.zone n).state ≠ .fault → (new.zone n).span = none →
        (new.sendReports old).spanOpened (.zone n) (new.linePos - new.zoneOut n)) := by
  obtain ⟨pre, w, post, split, own, before, behind⟩ :=
    changeReports_split (mem_reportsOf.mpr ⟨⟨o, sent⟩, rfl⟩) (x := .zone n) rfl
  rw [State.sendReports_eq, split, State.takeReports_append, State.takeReports_cons]
  dsimp only
  rw [State.ownerReport_zone _ own]
  have cleared := State.takeReports_zoneCleared before new
  have start := (new.takeReports_sends pre).spanStart n
  obtain ⟨-, -, -, faults⟩ := (new.takeReports pre).zoneReport_spec n true
  refine ⟨State.takeReports_zoneFaulted behind ((new.takeReports pre).zoneReport_faulted n), fun enabled sound none => ?_⟩
  rw [cleared.zone, start] at faults
  exact (State.takeReports_sends _ post).opened _ _ ((faults rfl enabled).2 sound none)

/-- The OUTPUT fault that a change sends a glue station that is not OFF (R94, R95). -/
theorem State.sendReports_glueFault {old new : State} {o : OutputId} {w : Owner} {k : GlueId} (sent : (w, true) ∈ outputReports old new o)
    (own : w.source = .glue k) (on : (new.glue k).state ≠ .off) :
    (new.sendReports old).GlueFaulted k ∧
      ((new.glue k).state ≠ .fault → (new.glue k).span = none → (new.sendReports old).spanOpened (.glue k) (new.gluePoint k)) := by
  obtain ⟨pre, v, post, split, own, before, behind⟩ := changeReports_split (mem_reportsOf.mpr ⟨⟨o, sent⟩, rfl⟩) own
  rw [State.sendReports_eq, split, State.takeReports_append, State.takeReports_cons]
  dsimp only
  rw [State.ownerReport_glue _ own]
  have cleared := (State.takeReports_glueCleared before new).glue
  have point := (new.takeReports_sends pre).gluePoint k
  have stillOn : ((new.takeReports pre).glue k).state ≠ .off := by
    rw [cleared]
    exact on
  obtain ⟨-, -, -, opened⟩ := (new.takeReports pre).glueReport_spec k true
  refine ⟨State.takeReports_glueFaulted behind ((new.takeReports pre).glueReport_faulted stillOn), fun sound none => ?_⟩
  rw [cleared, point] at opened
  exact (State.takeReports_sends _ post).opened _ _ (opened rfl on sound none)

/-- A change that sends a source no fault report sends it clear reports alone. -/
theorem changeReports_clear {old new : State} {x : BondSource}
    (sound : ∀ o w, w.source = x → new.ownedBy o = some w → new.faulted o = false) :
    ∀ r ∈ changeReports old new, r.1.source = x → r.2 = false := by
  intro r sent own
  rw [changeReports_eq] at sent
  rcases List.mem_append.mp sent with clear | fault
  · exact (mem_reportsOf.mp clear).2
  · obtain ⟨⟨o, reported⟩, isFault⟩ := mem_reportsOf.mp fault
    obtain ⟨owned, faulted⟩ := mem_outputReports (w := r.1) (b := r.2) reported isFault
    rw [sound o r.1 own owned] at faulted
    cases faulted

/-- A report that a change sends, with those before and behind it. -/
theorem changeReports_mem {old new : State} {o : OutputId} {r : Owner × Bool} (sent : r ∈ outputReports old new o) :
    ∃ pre post, changeReports old new = pre ++ r :: post := by
  refine List.append_of_mem ?_
  rw [changeReports_eq]
  obtain ⟨w, b⟩ := r
  cases b
  · exact List.mem_append_left _ (mem_reportsOf.mpr ⟨⟨o, sent⟩, rfl⟩)
  · exact List.mem_append_right _ (mem_reportsOf.mpr ⟨⟨o, sent⟩, rfl⟩)

/-- The OUTPUT cause that a change takes from a zone (R87). -/
theorem State.sendReports_zoneClear {old new : State} {o : OutputId} {n : ZoneId} (sent : (.zone n, false) ∈ outputReports old new o)
    (sound : ∀ p, new.ownedBy p = some (.zone n) → new.faulted p = false) : ((new.sendReports old).zone n).output = false := by
  have clear := changeReports_clear (old := old) (x := .zone n) fun p w own owned => sound p (Owner.source_zone.mp own ▸ owned)
  obtain ⟨pre, post, split⟩ := changeReports_mem sent
  rw [State.sendReports_eq, split, State.takeReports_append, State.takeReports_cons]
  rw [split] at clear
  refine (State.takeReports_zoneCleared (fun q hq => clear q (by simp [hq])) _).output ?_
  exact ((new.takeReports pre).zoneReport_spec n false).2.1

/-- The OUTPUT cause that a change takes from a glue station that is not OFF (R94). -/
theorem State.sendReports_glueClear {old new : State} {o : OutputId} {w : Owner} {k : GlueId}
    (sent : (w, false) ∈ outputReports old new o) (own : w.source = .glue k) (on : (new.glue k).state ≠ .off)
    (sound : ∀ p v, v.source = .glue k → new.ownedBy p = some v → new.faulted p = false) :
    ((new.sendReports old).glue k).output = false := by
  have clear := changeReports_clear (old := old) sound
  obtain ⟨pre, post, split⟩ := changeReports_mem sent
  rw [State.sendReports_eq, split, State.takeReports_append, State.takeReports_cons]
  rw [split] at clear
  have cleared := (State.takeReports_glueCleared (fun q hq => clear q (by simp [hq])) new (rs := pre)).glue
  refine (State.takeReports_glueCleared (fun q hq => clear q (by simp [hq])) _).output ?_
  have stillOn : ((new.takeReports pre).glue k).state ≠ .off := by
    rw [cleared]
    exact on
  rw [State.ownerReport_glue _ own, State.glueReport_clear _ stillOn, State.onGlue_self]

end Sys2Proof.Machine
end


section
/-! PROOF. The settings of the length unit (R11, R14 to R16): SetGeometry, SetLineBuild and SetSheetEyes. -/

namespace Sys2Proof.Machine

/-! ### A glue station taken out of use or taken up (R91) -/

/-- The station OFF, without causes, commands and span. -/
def GlueStation.takenOut (g : GlueStation) : GlueStation :=
  if g.state = .off then g
  else
    { g with
      state := .off, timeout := false, output := false, sensor := false, levelA := .off, levelB := .off, keepWet := none, span := none }

/-- The station MOVING to its park gap, with the rules of its settings. -/
def GlueStation.takenUp (g : GlueStation) : GlueStation :=
  match g.settings with
  | some c =>
    { g with
      rules := c.moveRules, state := .moving, target := c.parkGap, lastValid := none, stale := 0, levelA := .off, levelB := .off
      keepWet := if g.state = .moving then g.keepWet else none }
  | none => g

theorem State.closeGlueSpan_self (s : State) (k : GlueId) : (s.closeGlueSpan k).glue k = { s.glue k with span := none } := by
  have glue : (s.closeSpan (.glue k) (s.gluePoint k)).glue k = s.glue k := by
    have bnd : (s.closeSpan (.glue k) (s.gluePoint k)).bnd = s.bnd := (State.closeSpan_within ..).same .bnd (by simp)
    unfold State.glue
    rw [bnd]
  unfold State.closeGlueSpan
  rcases span : (s.glue k).span with _ | p
  · rw [if_neg (by simp), ← span]
  · rw [if_pos Option.isSome_some, State.onGlue_self, glue]

theorem State.glueTakenOut_self (s : State) (k : GlueId) : (s.glueTakenOut k).glue k = (s.glue k).takenOut := by
  unfold State.glueTakenOut GlueStation.takenOut
  split
  · rfl
  · next on =>
    rw [State.onGlue_self, State.setPair, State.onGlue_self, State.setGlueState, State.onGlue_self, State.closeGlueSpan_self]
    simp only [if_neg on]
    rfl

theorem State.glueTakesUp_self (s : State) (k : GlueId) : (s.glueTakesUp k).glue k = (s.glue k).takenUp := by
  unfold State.glueTakesUp GlueStation.takenUp
  rcases set : (s.glue k).settings with _ | c
  · rfl
  · dsimp only
    rw [State.setPair, State.onGlue_self, State.setGlueState, State.onGlue_self, State.onGlue_self]
    simp only [GlueStation.takeRules, set]
    by_cases moving : (s.glue k).state = .moving <;> simp [moving, GlueState.resting]

theorem State.glueTakenOut_map (s : State) (k : GlueId) :
    (s.glueTakenOut k).map =
      if (s.glue k).state = .off ∨ (s.glue k).span = none then s.map else (s.closeSpan (.glue k) (s.gluePoint k)).map := by
  unfold State.glueTakenOut State.closeGlueSpan
  by_cases off : (s.glue k).state = .off
  · rw [if_pos off, if_pos (.inl off)]
  · by_cases span : (s.glue k).span = none
    · rw [if_neg off, if_pos (Or.inr span), if_neg (by simp [span] : ¬(s.glue k).span.isSome = true)]
      rfl
    · rw [if_neg off, if_neg (not_or.mpr ⟨off, span⟩), if_pos (Option.isSome_iff_ne_none.mpr span)]
      rfl

theorem State.glueTakesUp_map (s : State) (k : GlueId) : (s.glueTakesUp k).map = s.map :=
  (s.glueTakesUp_within k).same .map (by simp)

/-- What a change of the use of glue station `j` leaves of the others and of their spans. -/
structure State.Rebuilds (k : GlueId) (s t : State) : Prop where
  within : s.Within [.map, .bnd] t
  glue : t.glue k = s.glue k
  zones : t.bnd.zones = s.bnd.zones
  bridges : t.map.bridges = s.map.bridges
  spans : s.SpansStand (.glue k) t

theorem State.SpansStand.refl (x : BondSource) (s : State) : s.SpansStand x s := ⟨rfl, rfl, fun _ h _ => h⟩

theorem State.SpansStand.trans {x : BondSource} {s t u : State} (h : s.SpansStand x t) (h' : t.SpansStand x u) : s.SpansStand x u where
  first := h'.first.trans h.first
  lost := h'.lost.trans h.lost
  ended m hm he := h'.ended m (h.ended m hm he) he

theorem State.SpansStand.of_map {x : BondSource} {s t u : State} (h : s.SpansStand x t) (map : u.map = t.map) : s.SpansStand x u where
  first := by rw [← h.first]; unfold State.openSpanOf; rw [map]
  lost := by rw [← h.lost]; unfold State.lostSpan; rw [map]
  ended m hm he := map ▸ h.ended m hm he

theorem State.Rebuilds.refl (k : GlueId) (s : State) : s.Rebuilds k s := ⟨.refl s, rfl, rfl, rfl, .refl _ s⟩

theorem State.Rebuilds.trans {k : GlueId} {s t u : State} (h : s.Rebuilds k t) (h' : t.Rebuilds k u) : s.Rebuilds k u :=
  ⟨h.within.trans h'.within, h'.glue.trans h.glue, h'.zones.trans h.zones, h'.bridges.trans h.bridges, h.spans.trans h'.spans⟩

theorem State.glueTakenOut_ne (s : State) {j k : GlueId} (h : k ≠ j) : (s.glueTakenOut j).glue k = s.glue k := by
  unfold State.glueTakenOut
  split
  · rfl
  · exact (State.onGlue_ne _ j _ h).trans (((State.setPair_movesGlue _ j _ _).others k h).trans
      (((State.setGlueState_movesGlue _ j _).others k h).trans ((s.closeGlueSpan_movesGlue j).others k h)))

theorem State.glueTakesUp_ne (s : State) {j k : GlueId} (h : k ≠ j) : (s.glueTakesUp j).glue k = s.glue k := by
  unfold State.glueTakesUp
  split
  · exact ((State.setPair_movesGlue _ j _ _).others k h).trans (((State.setGlueState_movesGlue _ j _).others k h).trans
      (s.onGlue_ne j _ h))
  · rfl

theorem State.glueTakenOut_zones (s : State) (k : GlueId) : (s.glueTakenOut k).bnd.zones = s.bnd.zones := by
  unfold State.glueTakenOut
  split
  · rfl
  · have zones : (s.closeGlueSpan k).bnd.zones = s.bnd.zones := by rw [(s.closeGlueSpan_movesGlue k).bnd]
    exact zones

theorem State.glueTakesUp_zones (s : State) (k : GlueId) : (s.glueTakesUp k).bnd.zones = s.bnd.zones := by
  unfold State.glueTakesUp
  split <;> rfl

theorem State.glueTakenOut_bridges (s : State) (k : GlueId) : (s.glueTakenOut k).map.bridges = s.map.bridges := by
  unfold State.glueTakenOut
  split
  · rfl
  · exact s.closeGlueSpan_bridges k

theorem State.glueTakenOut_rebuilds (s : State) {j k : GlueId} (h : j ≠ k) : s.Rebuilds k (s.glueTakenOut j) where
  within := s.glueTakenOut_within j
  glue := s.glueTakenOut_ne h.symm
  zones := s.glueTakenOut_zones j
  bridges := s.glueTakenOut_bridges j
  spans := by
    have map := s.glueTakenOut_map j
    split at map
    · exact (State.SpansStand.refl _ s).of_map map
    · exact (s.closeSpan_spansStand (fun e => h (BondSource.glue.inj e)) _).of_map map

theorem State.glueTakesUp_rebuilds (s : State) {j k : GlueId} (h : j ≠ k) : s.Rebuilds k (s.glueTakesUp j) where
  within := (s.glueTakesUp_within j).mono (by simp)
  glue := s.glueTakesUp_ne h.symm
  zones := s.glueTakesUp_zones j
  bridges := by rw [s.glueTakesUp_map]
  spans := (State.SpansStand.refl _ s).of_map (s.glueTakesUp_map j)

theorem State.rebuildGlue_rebuilds (old s : State) {j k : GlueId} (h : j ≠ k) : s.Rebuilds k (old.rebuildGlue s j) := by
  unfold State.rebuildGlue
  split
  · exact s.glueTakenOut_rebuilds h
  · split
    · exact s.glueTakesUp_rebuilds h
    · exact .refl k s

/-! ### The glue stations of a new line build (R15, R91) -/

/-- The wall count and the width of a new line build. -/
def State.built (s : State) (walls width : Nat) : State := { s with lcu := { s.lcu with walls := some walls, width := width } }

/-- The glue stations of a new line build, taken out of use, taken up, or left. -/
def State.rebuilt (s : State) (walls width : Nat) : State := (s.built walls width).forAll 4 s.rebuildGlue

theorem State.glueInUse_congr {s t : State} (h : t.lcu = s.lcu) (k : GlueId) : t.glueInUse k = s.glueInUse k := by
  unfold State.glueInUse State.walls
  rw [h]

theorem State.rebuilt_within (s : State) (walls width : Nat) : (s.built walls width).Within [.map, .bnd] (s.rebuilt walls width) :=
  State.forAll_within fun t k => t.rebuildGlue_within s k

theorem State.rebuilt_zone (s : State) (walls width : Nat) (n : ZoneId) : (s.rebuilt walls width).zone n = s.zone n := by
  have zones : (s.rebuilt walls width).bnd.zones = s.bnd.zones := by
    refine State.forAll_keep (P := fun t => t.bnd.zones = s.bnd.zones) (fun t k h => Eq.trans ?_ h) rfl
    unfold State.rebuildGlue
    split
    · exact t.glueTakenOut_zones k
    · split
      · exact t.glueTakesUp_zones k
      · rfl
  unfold State.zone
  rw [zones]

theorem State.rebuilt_bridges (s : State) (walls width : Nat) : (s.rebuilt walls width).map.bridges = s.map.bridges := by
  refine State.forAll_keep (P := fun t => t.map.bridges = s.map.bridges) (fun t k h => Eq.trans ?_ h) rfl
  unfold State.rebuildGlue
  split
  · exact t.glueTakenOut_bridges k
  · split
    · rw [t.glueTakesUp_map]
    · rfl

/-- Station `k` at its turn: the stations before it leave it and its spans, those behind it leave what its turn makes. -/
theorem State.rebuilt_turn (s : State) (walls width : Nat) (k : GlueId) :
    ∃ x, (s.built walls width).Rebuilds k x ∧ (s.rebuildGlue x k).Rebuilds k (s.rebuilt walls width) :=
  State.forAll_turn (State.Rebuilds.refl k) State.Rebuilds.trans (fun t _ h => s.rebuildGlue_rebuilds t h) _

/-- The record of glue station `k` behind a new line build. -/
theorem State.rebuilt_glue (s : State) (walls width : Nat) (k : GlueId) :
    (s.rebuilt walls width).glue k =
      if s.glueInUse k && !(s.built walls width).glueInUse k then (s.glue k).takenOut
      else if !s.glueInUse k && (s.built walls width).glueInUse k then (s.glue k).takenUp
      else s.glue k := by
  obtain ⟨x, before, behind⟩ := s.rebuilt_turn walls width k
  have use : x.glueInUse k = (s.built walls width).glueInUse k := State.glueInUse_congr (before.within.same .lcu (by simp)) k
  have glue : x.glue k = s.glue k := before.glue
  rw [behind.glue, State.rebuildGlue, use]
  split
  · rw [State.glueTakenOut_self, glue]
  · split
    · rw [State.glueTakesUp_self, glue]
    · exact glue

/-- A station that is taken out of use with a span has it closed at its glue point. -/
theorem State.rebuilt_closed (s : State) (walls width : Nat) {k : GlueId} (was : s.glueInUse k = true)
    (out : (s.built walls width).glueInUse k = false) (on : (s.glue k).state ≠ .off) (spans : (s.glue k).span ≠ none) :
    (∀ m, s.openSpanOf (.glue k) = some m →
        { m with finish := some (max m.start (s.gluePoint k)) } ∈ (s.rebuilt walls width).map.marks) ∧
      (s.openSpanOf (.glue k) = none → (s.rebuilt walls width).lostSpan (.glue k) = false) := by
  obtain ⟨x, before, behind⟩ := s.rebuilt_turn walls width k
  have lcu : x.lcu = (s.built walls width).lcu := before.within.same .lcu (by simp)
  have glue : x.glue k = s.glue k := before.glue
  have turn : s.rebuildGlue x k = x.glueTakenOut k := by
    rw [State.rebuildGlue, State.glueInUse_congr lcu, was, out]
    rfl
  have point : x.gluePoint k = s.gluePoint k := by
    unfold State.gluePoint State.linePos State.counter State.bridge
    rw [before.bridges, lcu]
    rfl
  have map : (x.glueTakenOut k).map = (x.closeSpan (.glue k) (s.gluePoint k)).map := by
    rw [State.glueTakenOut_map, glue, point, if_neg (not_or.mpr ⟨on, spans⟩)]
  have first : x.openSpanOf (.glue k) = s.openSpanOf (.glue k) := before.spans.first
  obtain ⟨ended, cleared⟩ := x.closeSpan_self (.glue k) (s.gluePoint k)
  rw [turn] at behind
  rw [first] at ended cleared
  refine ⟨fun m found => behind.spans.ended _ ?_ rfl, fun none => behind.spans.lost.trans ?_⟩
  · rw [map]
    exact ended m found
  · rw [← cleared none]
    unfold State.lostSpan
    rw [map]

/-- No station is taken out of use with a span: the map stands. -/
theorem State.rebuilt_map (s : State) (walls width : Nat)
    (none : ∀ k, s.glueInUse k = true → (s.built walls width).glueInUse k = false → (s.glue k).state = .off ∨ (s.glue k).span = none) :
    (s.rebuilt walls width).map = s.map := by
  suffices kept : (s.rebuilt walls width).map = s.map ∧ (s.rebuilt walls width).lcu = (s.built walls width).lcu ∧
      ∀ k, s.glueInUse k = true → (s.built walls width).glueInUse k = false →
        ((s.rebuilt walls width).glue k).state = .off ∨ ((s.rebuilt walls width).glue k).span = .none from kept.1
  refine State.forAll_keep (P := fun t => t.map = s.map ∧ t.lcu = (s.built walls width).lcu ∧
    ∀ k, s.glueInUse k = true → (s.built walls width).glueInUse k = false → (t.glue k).state = .off ∨ (t.glue k).span = .none)
    (fun t j ⟨map, lcu, quiet⟩ => ?_) ⟨rfl, rfl, none⟩
  have lcu' : (s.rebuildGlue t j).lcu = (s.built walls width).lcu := Eq.trans ((t.rebuildGlue_within s j).same .lcu (by simp)) lcu
  have others (k : GlueId) (h : k ≠ j) : (s.rebuildGlue t j).glue k = t.glue k := (s.rebuildGlue_rebuilds t h.symm).glue
  unfold State.rebuildGlue at lcu' others ⊢
  rw [State.glueInUse_congr lcu] at lcu' others ⊢
  split
  · next out =>
    simp only [if_pos out] at lcu' others
    obtain ⟨was, out⟩ := Bool.and_eq_true_iff.mp out
    have rests := quiet j was (by simpa using out)
    refine ⟨by rw [State.glueTakenOut_map, if_pos rests, map], lcu', fun k hk hk' => ?_⟩
    by_cases own : k = j
    · subst own
      rw [State.glueTakenOut_self, GlueStation.takenOut]
      split
      · next off => exact .inl off
      · exact .inl rfl
    · rw [others k own]
      exact quiet k hk hk'
  · next stays =>
    simp only [if_neg stays] at lcu' others
    split
    · next up =>
      simp only [if_pos up] at lcu' others
      refine ⟨by rw [State.glueTakesUp_map, map], lcu', fun k hk hk' => ?_⟩
      have own : k ≠ j := fun own => by rw [← own, hk] at up; simp at up
      rw [others k own]
      exact quiet k hk hk'
    · exact ⟨map, lcu, quiet⟩

/-! ### The joint channels and the BRIDGE entry of a new line build (R16, R31) -/

theorem State.disarmUnused_joint (s : State) (i : SpliceId) :
    s.disarmUnused.lcu.joints[i] = if s.spliceInUse i then s.lcu.joints[i] else { s.lcu.joints[i] with armed := false } := by
  have use {t : State} (h : t.lcu.walls = s.lcu.walls) : t.spliceInUse i = s.spliceInUse i := by
    unfold State.spliceInUse State.walls
    rw [h]
  obtain ⟨x, before, behind⟩ := State.forAll_turn
    (R := fun t u => u.lcu.joints[i] = t.lcu.joints[i] ∧ u.lcu.walls = t.lcu.walls) (fun _ => ⟨rfl, rfl⟩)
    (fun h h' => ⟨h'.1.trans h.1, h'.2.trans h.2⟩)
    (f := fun t i => if t.spliceInUse i then t else t.disarmChannel i) (i := i)
    (fun t j apart => by
      split
      · exact ⟨rfl, rfl⟩
      · exact ⟨getElem_modifyAt_ne t.lcu.joints _ apart.symm, rfl⟩) s
  refine behind.1.trans ?_
  dsimp only
  rw [use before.2]
  split
  · exact before.1
  · refine (getElem_modifyAt_self x.lcu.joints i _).trans ?_
    rw [before.1]

theorem State.disarmUnused_lcu (s : State) : s.disarmUnused.lcu = { s.lcu with joints := s.disarmUnused.lcu.joints } := by
  refine State.forAll_keep (P := fun t => t.lcu = { s.lcu with joints := t.lcu.joints }) (fun t i h => ?_) rfl
  dsimp only
  split
  · exact h
  · exact congrArg (fun l : Lcu => { l with joints := modifyAt t.lcu.joints i fun c => { c with armed := false } }) h

theorem State.bridgeEntryOk_congr {s t : State} (walls : t.lcu.walls = s.lcu.walls) (bridges : t.map.bridges = s.map.bridges)
    (entry : t.lsv.ceiling.bridge = s.lsv.ceiling.bridge) (h : s.bridgeEntryOk) : t.bridgeEntryOk := by
  unfold State.bridgeEntryOk State.walls State.bridge at h ⊢
  rwa [walls, bridges, entry]

theorem State.bridgeClaim_eq_some {s : State} {k : WebId} {v : Nat} :
    (if s.bridgeClaims k then some (s.bridge k).crawl else none) = some v ↔
      k.val + 1 ≤ s.walls ∧ (s.bridge k).content < (s.bridge k).slow ∧ (s.bridge k).crawl = v := by
  simp [State.bridgeClaims, State.webInUse, and_assoc]

/-- The BRIDGE entry after its evaluation is the least claim. -/
theorem State.evalBridgeEntry_ok (s : State) : s.evalBridgeEntry.bridgeEntryOk := by
  have entry : s.evalBridgeEntry.lsv.ceiling.bridge =
      leastClaim ((allIds 3).map fun k => if s.bridgeClaims k then some (s.bridge k).crawl else none) := by
    simp [State.evalBridgeEntry, State.setEntry, Ceiling.put]
  have ok : IsLeastClaim s.evalBridgeEntry.lsv.ceiling.bridge fun (k : WebId) v =>
      k.val + 1 ≤ s.walls ∧ (s.bridge k).content < (s.bridge k).slow ∧ (s.bridge k).crawl = v := by
    simp only [entry, ← State.bridgeClaim_eq_some]
    constructor
    · intro k v claims
      exact leastClaim_le (List.mem_map.mpr ⟨k, List.mem_finRange k, claims⟩)
    · intro m h
      obtain ⟨k, -, claims⟩ := List.mem_map.mp (leastClaim_mem h)
      exact ⟨k, claims⟩
  have lcu : s.evalBridgeEntry.lcu = s.lcu := s.evalBridgeEntry_within.same .lcu (by simp)
  have map : s.evalBridgeEntry.map = s.map := s.evalBridgeEntry_within.same .map (by simp)
  unfold State.bridgeEntryOk State.walls State.bridge at ok ⊢
  rwa [lcu, map]

/-! ### The owners of outputs -/

/-- The owners of the outputs follow from the settings of the zones and the stations, the line build and the modes. -/
theorem State.ownedBy_congr {s t : State} (zones : ∀ n, (t.zone n).settings = (s.zone n).settings)
    (glues : ∀ k, (t.glue k).settings = (s.glue k).settings) (walls : t.lcu.walls = s.lcu.walls) (dst : t.dst = s.dst) (o : OutputId) :
    t.ownedBy o = s.ownedBy o := by
  have zoneOwns : t.zoneOwns o = s.zoneOwns o := funext fun n => by
    unfold State.zoneOwns
    rw [zones]
  have glueOwns : t.glueOwns o = s.glueOwns o := funext fun k => by
    unfold State.glueOwns State.glueInUse State.walls
    rw [glues, walls]
  unfold State.ownedBy State.ownership State.owners State.output
  rw [zoneOwns, glueOwns, dst]

theorem State.faulted_congr {s t : State} (dst : t.dst = s.dst) (o : OutputId) : t.faulted o = s.faulted o := by
  unfold State.faulted State.forced State.forcingCauses State.output State.input
  rw [dst]

theorem State.mem_owners_of_ownedBy {s : State} {o : OutputId} {w : Owner} (owned : s.ownedBy o = some w) : w ∈ s.owners o := by
  unfold State.ownedBy State.ownership at owned
  split at owned
  · cases owned
  · next h =>
    rw [h]
    split at owned <;> simp_all
  · next h =>
    rw [h]
    split at owned <;> simp_all
  · cases owned

/-- A zone owns the output of its settings alone. -/
theorem State.zone_of_ownedBy {s : State} {o : OutputId} {n : ZoneId} (owned : s.ownedBy o = some (.zone n)) :
    ∃ c, (s.zone n).settings = some c ∧ c.output = o := by
  have listed := State.mem_owners_of_ownedBy owned
  have owns : s.zoneOwns o n = true := by
    rcases List.mem_append.mp listed with zone | glue
    · obtain ⟨m, hm, same⟩ := List.mem_map.mp zone
      cases same
      exact (List.mem_filter.mp hm).2
    · obtain ⟨k, -, side⟩ := List.mem_flatMap.mp glue
      unfold State.glueOwns at side
      split at side
      · split at side
        · split at side <;> split at side <;> simp at side
        · cases side
      · cases side
  unfold State.zoneOwns at owns
  split at owns
  · next c set => exact ⟨c, set, of_decide_eq_true owns⟩
  · cases owns

/-- A side of a pair owns an output of its pair, of a station that is set and in use. -/
theorem State.glue_of_ownedBy {s : State} {o : OutputId} {w : Owner} {k : GlueId} (owned : s.ownedBy o = some w)
    (own : w.source = .glue k) : s.glueInUse k = true ∧ ∃ c, (s.glue k).settings = some c ∧ (c.outA = o ∨ c.outB = o) := by
  have listed := State.mem_owners_of_ownedBy owned
  rcases List.mem_append.mp listed with zone | glue
  · obtain ⟨m, -, rfl⟩ := List.mem_map.mp zone
    cases own
  · obtain ⟨j, -, side⟩ := List.mem_flatMap.mp glue
    unfold State.glueOwns at side
    split at side
    · next c set =>
      split at side
      · next use =>
        have sides : w.source = .glue j ∧ (c.outA = o ∨ c.outB = o) := by
          rcases List.mem_append.mp side with side | side
          · split at side <;> simp at side
            next out => exact ⟨by rw [side]; rfl, .inl out⟩
          · split at side <;> simp at side
            next out => exact ⟨by rw [side]; rfl, .inr out⟩
        obtain ⟨source, out⟩ := sides
        rw [source] at own
        cases own
        exact ⟨use, c, set, out⟩
      · cases side
    · cases side

/-! ### A new line build (R15) -/

/-- The state that a new line build leaves before its reports. -/
def State.rebuiltAll (s : State) (walls width : Nat) : State := ((s.rebuilt walls width).disarmUnused).evalBridgeEntry

/-- A new line build before its reports. -/
structure State.Built (s t : State) (walls width : Nat) : Prop where
  lcu : t.lcu = { s.lcu with walls := some walls, width := width, joints := t.lcu.joints }
  joints : ∀ i : SpliceId, t.lcu.joints[i] = if t.spliceInUse i then s.lcu.joints[i] else { s.lcu.joints[i] with armed := false }
  zone : ∀ n, t.zone n = s.zone n
  glue : ∀ k, t.glue k =
    if s.glueInUse k && !t.glueInUse k then (s.glue k).takenOut
    else if !s.glueInUse k && t.glueInUse k then (s.glue k).takenUp
    else s.glue k
  bridges : t.map.bridges = s.map.bridges
  dst : t.dst = s.dst
  entry : t.bridgeEntryOk
  closed : ∀ k, s.glueInUse k = true → t.glueInUse k = false → (s.glue k).state ≠ .off → (s.glue k).span ≠ none →
    (∀ m, s.openSpanOf (.glue k) = some m → { m with finish := some (max m.start (s.gluePoint k)) } ∈ t.map.marks) ∧
      (s.openSpanOf (.glue k) = none → t.lostSpan (.glue k) = false)
  map : (∀ k, s.glueInUse k = true → t.glueInUse k = false → (s.glue k).state = .off ∨ (s.glue k).span = none) → t.map = s.map
  touches : (s.built walls width).Touches [.lcu, .map, .bnd, .lsv] t

theorem State.rebuiltAll_built (s : State) (walls width : Nat) : s.Built (s.rebuiltAll walls width) walls width := by
  have rebuild := s.rebuilt_within walls width
  have disarm := (s.rebuilt walls width).disarmUnused_within
  have eval := (s.rebuilt walls width).disarmUnused.evalBridgeEntry_within
  have after : (s.rebuilt walls width).Within [.lcu, .lsv] (s.rebuiltAll walls width) :=
    (disarm.mono (by simp)).trans (eval.mono (by simp))
  have lcu : (s.rebuiltAll walls width).lcu = { (s.rebuilt walls width).lcu with joints := (s.rebuiltAll walls width).lcu.joints } := by
    have evaluated : (s.rebuiltAll walls width).lcu = (s.rebuilt walls width).disarmUnused.lcu := eval.same .lcu (by simp)
    rw [evaluated]
    exact State.disarmUnused_lcu _
  have lcu' : (s.rebuilt walls width).lcu = (s.built walls width).lcu := rebuild.same .lcu (by simp)
  have walls' : (s.rebuiltAll walls width).lcu.walls = (s.built walls width).lcu.walls := by rw [lcu, lcu']
  have use (k : GlueId) : (s.rebuiltAll walls width).glueInUse k = (s.built walls width).glueInUse k := by
    unfold State.glueInUse State.walls
    rw [walls']
  have map : (s.rebuiltAll walls width).map = (s.rebuilt walls width).map := after.same .map (by simp)
  have bnd : (s.rebuiltAll walls width).bnd = (s.rebuilt walls width).bnd := after.same .bnd (by simp)
  refine ⟨by rw [lcu, lcu']; rfl, fun i => ?_, fun n => ?_, fun k => ?_, ?_, ?_, State.evalBridgeEntry_ok _, fun k was out on spans => ?_,
    fun none => ?_, (rebuild.toTouches.mono (by simp)).trans (after.toTouches.mono (by simp))⟩
  · have spliceUse : (s.rebuiltAll walls width).spliceInUse i = (s.rebuilt walls width).spliceInUse i := by
      unfold State.spliceInUse State.walls
      rw [lcu]
    have evaluated : (s.rebuiltAll walls width).lcu = (s.rebuilt walls width).disarmUnused.lcu := eval.same .lcu (by simp)
    rw [spliceUse, evaluated, State.disarmUnused_joint, lcu']
    rfl
  · rw [← s.rebuilt_zone walls width n]
    unfold State.zone
    rw [bnd]
  · rw [use, ← s.rebuilt_glue walls width k]
    unfold State.glue
    rw [bnd]
  · rw [map, State.rebuilt_bridges]
  · exact Eq.trans (after.same .dst (by simp)) (rebuild.same .dst (by simp))
  · rw [use] at out
    have closed := s.rebuilt_closed walls width was out on spans
    unfold State.lostSpan at closed ⊢
    rwa [map]
  · rw [map]
    exact s.rebuilt_map walls width fun k was out => none k was (by rwa [use])

theorem State.setLineBuild_ok {s : State} {walls width : Nat} (line : s.lsv.line = .setup) (hw : 1 ≤ walls ∧ walls ≤ 3)
    (hd : 1000 ≤ width ∧ width ≤ 2800) :
    s.setLineBuild walls width = ((s.rebuiltAll walls width).sendReports s, okReply []) := by
  unfold State.setLineBuild
  rw [if_neg (mt State.not_lineIn_iff.mp (by simp [line])), within_iff.mpr hw, within_iff.mpr hd]
  rfl

section
variable {s t u : State} {walls width : Nat}

theorem State.Built.glue_settings (h : s.Built t walls width) (k : GlueId) : (t.glue k).settings = (s.glue k).settings := by
  rw [h.glue k]
  unfold GlueStation.takenOut GlueStation.takenUp
  split
  · split <;> rfl
  · split
    · split <;> rfl
    · rfl

theorem State.Built.gluePoint (h : s.Built t walls width) (k : GlueId) : t.gluePoint k = s.gluePoint k := by
  unfold State.gluePoint State.linePos State.counter State.bridge
  rw [h.bridges, h.lcu]

theorem State.Built.spanStart (h : s.Built t walls width) (n : ZoneId) : t.linePos - t.zoneOut n = s.spanStart (.zone n) := by
  unfold State.spanStart State.zoneOut State.linePos State.counter
  rw [h.zone n, h.lcu]

theorem State.Built.faulted (h : s.Built t walls width) (o : OutputId) : t.faulted o = s.faulted o := State.faulted_congr h.dst o

theorem State.Sends.ownedBy (h : t.Sends u) (o : OutputId) : u.ownedBy o = t.ownedBy o :=
  State.ownedBy_congr (fun n => (h.zones n).1) h.glues (congrArg Lcu.walls (h.within.same .lcu (by simp)))
    (h.within.same .dst (by simp)) o

theorem State.Sends.glueInUse (h : t.Sends u) (k : GlueId) : u.glueInUse k = t.glueInUse k :=
  State.glueInUse_congr (h.within.same .lcu (by simp)) k

/-- A station in use behind a new line build that was not in use, or not OFF, is not OFF if it is set. -/
theorem State.Built.glue_on (h : s.Built t walls width) {k : GlueId} (use : t.glueInUse k = true)
    (was : s.glueInUse k = false ∨ (s.glue k).state ≠ .off) (set : ∃ c, (s.glue k).settings = some c) :
    (t.glue k).state ≠ .off ∧ ((t.glue k).state = .fault → (s.glue k).state = .fault) ∧ (t.glue k).span = (s.glue k).span := by
  obtain ⟨c, set⟩ := set
  rw [h.glue k, use]
  cases used : s.glueInUse k
  · simp [GlueStation.takenUp, set]
  · have on := was.resolve_left (by simp [used])
    simp [on]

end

/-! ### The settings -/

theorem firstFailing_eq_none {cs : List (Bool × Nat)} : firstFailing cs = none ↔ ∀ c ∈ cs, c.1 = true := by
  induction cs with
  | nil => simp [firstFailing]
  | cons c cs ih =>
    obtain ⟨ok, n⟩ := c
    cases ok <;> simp [firstFailing, ih]

theorem geometryChecks_pass {slit cut rej stk1 stk2 : Nat} :
    firstFailing (geometryChecks ⟨mm slit, mm cut, mm rej, mm stk1, mm stk2⟩) = none ↔
      5000 ≤ slit ∧ slit ≤ 120000 ∧ slit + 2000 ≤ cut ∧ cut ≤ 150000 ∧ cut + 1000 ≤ rej ∧ rej < stk1 ∧ stk1 ≤ cut + 27000 ∧
        rej < stk2 ∧ stk2 ≤ cut + 27000 := by
  simp only [firstFailing_eq_none, geometryChecks, List.forall_mem_cons, List.not_mem_nil, false_implies, implies_true, and_true,
    Bool.and_eq_true, decide_eq_true_eq, within_iff]
  simp only [mm]
  omega

theorem edgeOf_ctorIdx (e : EdgeSelect) : edgeOf e.ctorIdx = some e := by cases e <;> rfl

theorem edgeOf_eq_none {v : Nat} (h : 2 < v) : edgeOf v = none := by
  match v, h with
  | n + 3, _ => rfl

theorem modifyAt_both {α : Type} (v : Vector α 2) (f g : α → α) : modifyAt (modifyAt v 0 f) 1 g = #v[f v[0], g v[1]] := by
  ext k hk
  match k, hk with
  | 0, _ => simp [modifyAt]
  | 1, _ => simp [modifyAt]

/-- The span of a station taken out of use is closed (R91). -/
theorem State.Built.spanClosed {s t u : State} {walls width : Nat} (h : s.Built t walls width) (sends : t.Sends u) {k : GlueId}
    (was : s.glueInUse k = true) (out : t.glueInUse k = false) (on : (s.glue k).state ≠ .off) (spans : (s.glue k).span ≠ none)
    (lost : u.lostSpan (.glue k) = t.lostSpan (.glue k)) : s.spanClosed u (.glue k) (s.gluePoint k) := by
  obtain ⟨ended, cleared⟩ := h.closed k was out on spans
  exact State.spanClosed_of (fun m found => sends.marks _ (ended m found)) fun none => lost.trans (cleared none)

/-- Settles O14: a line build is its glue stations rebuilt, its channels, its BRIDGE entry, and then the reports to the owners that change. -/
theorem lengthSettings : Obligations.LengthSettings := by
  unfold Obligations.LengthSettings
  intro s tag serves
  refine ⟨fun slit cut rej stk1 stk2 => ?geometry, fun walls width => ?build, fun edge1 edge2 => ?eyes⟩
  case geometry =>
    intro c fits
    have meaning : exec c s = hostCommand tag 0x11 (fun t => t.setGeometry ⟨mm slit, mm cut, mm rej, mm stk1, mm stk2⟩) s := rfl
    refine ⟨fun line => ?state, fun line out => ?range, fun line fit => ?taken⟩
    case state => exact State.answers_of_refuse serves meaning (if_pos (State.not_lineIn_iff.mpr (by simpa using line))) s.lineReply_head
    case range =>
      obtain ⟨n, failing⟩ := Option.ne_none_iff_exists'.mp (mt geometryChecks_pass.mp out)
      refine State.answers_of_refuse serves meaning ?_ (rangeReply_head n)
      unfold State.setGeometry
      rw [if_neg (mt State.not_lineIn_iff.mp (by simp [line])), failing]
    case taken =>
      have effect : s.setGeometry ⟨mm slit, mm cut, mm rej, mm stk1, mm stk2⟩ =
          ({ s with lcu := { s.lcu with geometry := ⟨mm slit, mm cut, mm rej, mm stk1, mm stk2⟩ } }, okReply []) := by
        unfold State.setGeometry
        rw [if_neg (mt State.not_lineIn_iff.mp (by simp [line])), geometryChecks_pass.mpr fit]
      rw [meaning, hostCommand_serves _ _ _ serves, effect]
      rfl
  case build =>
    intro c fits
    have meaning : exec c s = hostCommand tag 0x12 (fun t => t.setLineBuild walls width) s := rfl
    refine ⟨fun line => ?state, fun line out => ?range, fun line fit => ?taken⟩
    case state => exact State.answers_of_refuse serves meaning (if_pos (State.not_lineIn_iff.mpr (by simpa using line))) s.lineReply_head
    case range =>
      obtain ⟨n, failing⟩ : ∃ n, firstFailing [(within 1 3 walls, 1), (within 1000 2800 width, 2)] = some n := by
        refine Option.ne_none_iff_exists'.mp fun passes => out ?_
        simpa [firstFailing_eq_none, within_iff, and_assoc] using passes
      refine State.answers_of_refuse serves meaning ?_ (rangeReply_head n)
      unfold State.setLineBuild
      rw [if_neg (mt State.not_lineIn_iff.mp (by simp [line])), failing]
    case taken =>
      obtain ⟨hw1, hw2, hd1, hd2⟩ := fit
      have built := s.rebuiltAll_built walls width
      generalize made : s.rebuiltAll walls width = t at built
      have sends : t.Sends (t.sendReports s) := t.takeReports_sends _
      have effect : s.setLineBuild walls width = (t.sendReports s, okReply []) := by
        rw [State.setLineBuild_ok line ⟨hw1, hw2⟩ ⟨hd1, hd2⟩, made]
      have lcu : (t.sendReports s).lcu = t.lcu := sends.within.same .lcu (by simp)
      have silent (sound : ∀ o, s.faulted o = false) : t.sendReports s = t := by
        rw [State.sendReports_eq, changeReports_of_sound sound fun o => (built.faulted o).trans (sound o)]
        rfl
      refine ⟨t.sendReports s, by rw [meaning, hostCommand_serves _ _ _ serves, effect]; rfl, ?lcu, fun i => ?joints,
        fun k was out on => ?takenOut, fun k g was use set off => ?takenUp, fun k same sound => ?left,
        fun o n faulted => ⟨fun before after => ?zoneFault, fun before after => ?zoneClear⟩,
        fun o k w faulted side use was => ⟨fun before after => ?glueFault, fun before after sound => ?glueClear⟩,
        fun none sound => ?map, ?entry, fun k => ?bridges, ?keeps⟩
      case lcu => rw [lcu]; exact built.lcu
      case joints =>
        have spliceUse : (t.sendReports s).spliceInUse i = t.spliceInUse i := by
          unfold State.spliceInUse State.walls
          rw [lcu]
        rw [spliceUse, lcu]
        exact built.joints i
      case takenOut =>
        rw [sends.glueInUse] at out
        have glue : t.glue k = (s.glue k).takenOut := by
          rw [built.glue k, was, out]
          rfl
        have off : (t.glue k).state = .off := by
          rw [glue, GlueStation.takenOut, if_neg on]
        obtain ⟨stands, lost⟩ := State.takeReports_glueOff (changeReports s t) off
        refine ⟨?_, fun spans => built.spanClosed sends was out on spans lost⟩
        rw [State.sendReports_eq, stands, glue, GlueStation.takenOut, if_neg on]
      case takenUp =>
        rw [sends.glueInUse] at use
        have glue : t.glue k = (s.glue k).takenUp := by
          rw [built.glue k, was, use]
          rfl
        have rests := t.takeReports_glueRests k (changeReports s t)
        simp only [GlueStation.takenUp, set] at glue
        obtain ⟨levelA, levelB⟩ := rests.pair (by rw [glue]; exact ⟨rfl, rfl⟩)
        refine ⟨rests.target.trans (by rw [glue]), rests.lastValid.trans (by rw [glue]), levelA, levelB, fun sound => ?_⟩
        rw [silent sound, glue, if_neg (by rw [off]; decide), ← set]
        rfl
      case left =>
        rw [sends.glueInUse] at same
        rw [silent sound, built.glue k, same]
        simp
      case zoneFault =>
        rw [sends.ownedBy] at after
        have sent : (.zone n, true) ∈ outputReports s t o := outputReports_gained before after ((built.faulted o).trans faulted)
        obtain ⟨faults, opened⟩ := State.sendReports_zoneFault sent
        obtain ⟨output, state⟩ := faults
        rw [built.zone, built.spanStart] at opened
        refine ⟨output, fun enabled => ⟨state ?_, opened enabled⟩⟩
        rw [(sends.zones n).2, built.zone]
        exact enabled
      case zoneClear =>
        rw [sends.ownedBy] at after
        refine State.sendReports_zoneClear (outputReports_left before after faulted) fun p owned => absurd ?_ after
        obtain ⟨c, set, output⟩ := State.zone_of_ownedBy before
        obtain ⟨c', set', output'⟩ := State.zone_of_ownedBy owned
        rw [built.zone, set] at set'
        cases set'
        rwa [← output, output']
      case glueFault =>
        rw [sends.ownedBy] at after
        rw [sends.glueInUse] at use
        have own : w.source = .glue k := Owner.source_glue.mpr side
        obtain ⟨-, c, set, -⟩ := State.glue_of_ownedBy after own
        obtain ⟨on, fault, span⟩ := built.glue_on use was ⟨c, (built.glue_settings k).symm.trans set⟩
        have sent : (w, true) ∈ outputReports s t o := outputReports_gained before after ((built.faulted o).trans faulted)
        obtain ⟨⟨output, state⟩, opened⟩ := State.sendReports_glueFault sent own on
        rw [span, built.gluePoint] at opened
        exact ⟨output, state, fun sound => opened (mt fault sound)⟩
      case glueClear =>
        rw [sends.ownedBy] at after
        rw [sends.glueInUse] at use
        have own : w.source = .glue k := Owner.source_glue.mpr side
        obtain ⟨-, c, set, -⟩ := State.glue_of_ownedBy before own
        obtain ⟨on, -, -⟩ := built.glue_on use was ⟨c, set⟩
        refine State.sendReports_glueClear (outputReports_left before after faulted) own on fun p v hv owned => ?_
        refine Bool.eq_false_iff.mpr fun faulted => ?_
        obtain ⟨notA, notB⟩ := sound p ((built.faulted p).symm.trans faulted)
        rw [sends.ownedBy, owned] at notA notB
        rcases Owner.source_glue.mp hv with rfl | rfl
        · exact notA rfl
        · exact notB rfl
      case map =>
        rw [silent sound]
        exact built.map fun k was out => none k was (by rwa [sends.glueInUse])
      case entry => exact State.bridgeEntryOk_congr (by rw [lcu]) sends.bridges sends.entry built.entry
      case bridges =>
        unfold State.bridge
        rw [sends.bridges, built.bridges]
      case keeps =>
        obtain ⟨same, rest⟩ := (built.touches.trans (sends.within.toTouches.mono (by simp))).keepsBut
        refine ⟨fun b hb => ?_, rest⟩
        have kept := same b hb
        cases b <;> first | exact kept | simp at hb
  case eyes =>
    intro c
    have meaning : exec c s = hostCommand tag 0x13 (fun t => t.setSheetEyes edge1 edge2) s := rfl
    refine ⟨fun setup ready => ?state, fun line out => ?range, fun line e1 e2 first second => ?taken⟩
    case state =>
      exact State.answers_of_refuse serves meaning (if_pos (State.not_lineIn_iff.mpr (by simp [setup, ready]))) s.lineReply_head
    case range =>
      obtain ⟨n, refused⟩ : ∃ n, s.setSheetEyes edge1 edge2 = s.refuse (rangeReply n) := by
        unfold State.setSheetEyes
        rw [if_neg (mt State.not_lineIn_iff.mp (by rcases line with line | line <;> simp [line]))]
        rcases out with out | out <;> rw [edgeOf_eq_none out]
        · exact ⟨1, rfl⟩
        · cases edgeOf edge1
          · exact ⟨1, rfl⟩
          · exact ⟨2, rfl⟩
      exact State.answers_of_refuse serves meaning refused (rangeReply_head n)
    case taken =>
      subst first second
      have effect : s.setSheetEyes e1.ctorIdx e2.ctorIdx =
          ((s.onEye 0 fun e => { e with edge := e1 }).onEye 1 fun e => { e with edge := e2 }, okReply []) := by
        unfold State.setSheetEyes
        rw [if_neg (mt State.not_lineIn_iff.mp (by rcases line with line | line <;> simp [line])), edgeOf_ctorIdx, edgeOf_ctorIdx]
      have eyes : modifyAt (modifyAt s.lcu.eyes 0 fun e => { e with edge := e1 }) 1 (fun e => { e with edge := e2 }) =
          #v[{ s.lcu.eyes[0] with edge := e1 }, { s.lcu.eyes[1] with edge := e2 }] := modifyAt_both _ _ _
      rw [meaning, hostCommand_serves _ _ _ serves, effect, ← eyes]
      rfl

end Sys2Proof.Machine
end


section
/-! PROOF. AckStart and Restart (R160, R161): the evaluation on leaving PARK, and then block by block. -/

namespace Sys2Proof.Machine

/-! ### What an evaluation of setpoints and targets reads and writes (R84, R92) -/

/-- The blocks of `s` that setpoints and targets are evaluated from, with the rest of `r`. -/
def State.withRest (s r : State) : State := { r with lcu := s.lcu, map := s.map, obk := s.obk, bnd := s.bnd, dec := s.dec }

theorem State.withRest_sameLookups (s r : State) (line : r.lsv.line = s.lsv.line) : s.SameLookups (s.withRest r) :=
  ⟨line, rfl, rfl, rfl, rfl, rfl, rfl, fun _ => rfl, fun _ => rfl⟩

theorem State.evalZone_withRest (s r : State) (line : r.lsv.line = s.lsv.line) (n : ZoneId) :
    (s.withRest r).evalZone n = (s.evalZone n).withRest r := by
  have same := s.withRest_sameLookups r line
  rw [State.evalZone_eq, State.evalZone_eq, same.evaluates, same.chooseSetpoint]
  split <;> rfl

theorem State.ite_withRest (c : Prop) [Decidable c] (s t r : State) :
    (if c then s else t).withRest r = if c then s.withRest r else t.withRest r := apply_ite (State.withRest · r) ..

theorem State.closeSpan_withRest (s r : State) (x : BondSource) (e : Nat) :
    (s.withRest r).closeSpan x e = (s.closeSpan x e).withRest r := by
  unfold State.closeSpan
  rw [State.ite_withRest, State.ite_withRest]
  cases x <;> rfl

theorem State.closeGlueSpan_withRest (s r : State) (k : GlueId) : (s.withRest r).closeGlueSpan k = (s.closeGlueSpan k).withRest r := by
  unfold State.closeGlueSpan
  rw [State.closeSpan_withRest, State.ite_withRest]
  rfl

theorem State.setGlueState_withRest (s r : State) (k : GlueId) (new : GlueState) :
    (s.withRest r).setGlueState k new = (s.setGlueState k new).withRest r := rfl

theorem State.setPair_withRest (s r : State) (k : GlueId) (a b : Level) : (s.withRest r).setPair k a b = (s.setPair k a b).withRest r :=
  rfl

theorem State.driveToward_withRest (s r : State) (k : GlueId) (v : Nat) :
    (s.withRest r).driveToward k v = (s.driveToward k v).withRest r := by
  unfold State.driveToward
  rw [State.ite_withRest]
  rfl

theorem State.leavePair_withRest (s r : State) (k : GlueId) : (s.withRest r).leavePair k = (s.leavePair k).withRest r := by
  have same : ((s.withRest r).glue k).rules = (s.glue k).rules := rfl
  unfold State.leavePair
  rw [same]
  split <;> rfl

theorem State.judgeGap_withRest (s r : State) (k : GlueId) (v : Nat) : (s.withRest r).judgeGap k v = (s.judgeGap k v).withRest r := by
  have glue : (s.withRest r).glue k = s.glue k := rfl
  unfold State.judgeGap
  rw [glue]
  split
  · simp only [State.setGlueState_withRest, State.leavePair_withRest, State.driveToward_withRest, State.closeGlueSpan_withRest,
      State.ite_withRest]
  · rfl

/-- A new target taken by the movement rule (R92). -/
def State.retarget (s : State) (k : GlueId) (t : Nat) : State :=
  let s1 := s.onGlue k fun g => { g with target := t }
  match (s1.glue k).lastValid with
  | some r => s1.judgeGap k r
  | none => s1

theorem State.evalGlue_eq {s : State} {k : GlueId} {c : GlueSettings} (set : (s.glue k).settings = some c) :
    s.evalGlue k =
      if (s.glue k).state = .off then s
      else if s.chooseTarget k c = (s.glue k).target then s
      else s.retarget k (s.chooseTarget k c) := by
  simp only [State.evalGlue, set]
  rfl

theorem State.retarget_withRest (s r : State) (k : GlueId) (t : Nat) : (s.withRest r).retarget k t = (s.retarget k t).withRest r := by
  have moved : (s.withRest r).onGlue k (fun g => { g with target := t }) = (s.onGlue k fun g => { g with target := t }).withRest r := rfl
  have glue : ((s.onGlue k fun g => { g with target := t }).withRest r).glue k = (s.onGlue k fun g => { g with target := t }).glue k := rfl
  unfold State.retarget
  dsimp only
  rw [moved, glue]
  split
  · exact State.judgeGap_withRest ..
  · rfl

theorem State.evalGlue_withRest (s r : State) (line : r.lsv.line = s.lsv.line) (k : GlueId) :
    (s.withRest r).evalGlue k = (s.evalGlue k).withRest r := by
  have glue : (s.withRest r).glue k = s.glue k := rfl
  rcases set : (s.glue k).settings with _ | c
  · simp only [State.evalGlue, glue, set]
  · have chosen : (s.withRest r).chooseTarget k c = s.chooseTarget k c := (s.withRest_sameLookups r line).chooseTarget (.inl rfl)
    rw [State.evalGlue_eq (by rw [glue, set]), State.evalGlue_eq set, glue, chosen, State.retarget_withRest, State.ite_withRest,
      State.ite_withRest]

/-- An evaluation that the other blocks have no part in goes the same way beside other ones. -/
theorem State.forAll_withRest {n : Nat} {f : State → Fin n → State} {r : State}
    (line : ∀ s i, (f s i).lsv.line = s.lsv.line) (step : ∀ s i, r.lsv.line = s.lsv.line → f (s.withRest r) i = (f s i).withRest r)
    (s : State) (h : r.lsv.line = s.lsv.line) : (s.withRest r).forAll n f = (s.forAll n f).withRest r := by
  unfold State.forAll
  generalize allIds n = l
  induction l generalizing s with
  | nil => rfl
  | cons i l ih =>
    rw [List.foldl_cons, List.foldl_cons, step s i h]
    exact ih (f s i) (h.trans (line s i).symm)

theorem State.evalBonds_withRest (s r : State) (line : r.lsv.line = s.lsv.line) :
    (s.withRest r).evalBonds = s.evalBonds.withRest r := by
  have zoneLine (t : State) (n : ZoneId) : (t.evalZone n).lsv.line = t.lsv.line := (t.evalZone_sameLookups n).line
  have glueLine (t : State) (k : GlueId) : (t.evalGlue k).lsv.line = t.lsv.line := (t.evalGlue_sameLookups k).line
  unfold State.evalBonds
  rw [State.forAll_withRest zoneLine (fun t n h => t.evalZone_withRest r h n) s line,
    State.forAll_withRest glueLine (fun t k h => t.evalGlue_withRest r h k) _ (line.trans (s.evalZones_sameLookups.line).symm)]

/-! ### Work that leaves blocks and pending notices -/

theorem mem_raiseIn_of_mem {k : NoticeKind} {x : Subject} {d : List Byte} {e : NoticeEntry} {es : List NoticeEntry} (h : e ∈ es) :
    ∃ f ∈ raiseIn k x d es, f.kind = e.kind ∧ f.subject = e.subject := by
  induction es with
  | nil => cases h
  | cons y ys ih =>
    unfold raiseIn
    split
    · rcases List.mem_cons.mp h with rfl | h
      · exact ⟨_, List.mem_cons_self, rfl, rfl⟩
      · exact ⟨e, List.mem_cons_of_mem _ h, rfl, rfl⟩
    · rcases List.mem_cons.mp h with rfl | h
      · exact ⟨_, List.mem_cons_self, rfl, rfl⟩
      · obtain ⟨f, mem, same⟩ := ih h
        exact ⟨f, List.mem_cons_of_mem _ mem, same⟩

/-- What is noticed in `s` is noticed in `t`. -/
def State.KeepsNotices (s t : State) : Prop := ∀ k x n, s.noticed k x n → t.noticed k x n

theorem State.KeepsNotices.refl (s : State) : s.KeepsNotices s := fun _ _ _ h => h

theorem State.KeepsNotices.trans {s t u : State} (h : s.KeepsNotices t) (h' : t.KeepsNotices u) : s.KeepsNotices u :=
  fun k x n hn => h' k x n (h k x n hn)

theorem State.KeepsNotices.of_lnk {s t : State} (h : t.lnk.notices = s.lnk.notices) : s.KeepsNotices t := by
  intro k x n hn
  unfold State.noticed
  rw [h]
  exact hn

theorem State.raise_keepsNotices (s : State) (k : NoticeKind) (x : Subject) (d : List Byte) : s.KeepsNotices (s.raise k x d) := by
  rintro j y n ⟨e, mem, kind, subject⟩
  obtain ⟨f, mem', kind', subject'⟩ := mem_raiseIn_of_mem (k := k) (x := x) (d := d) mem
  exact ⟨f, mem', kind'.trans kind, subject'.trans subject⟩

theorem State.setCeiling_keepsNotices (s : State) (c : Ceiling) : s.KeepsNotices (s.setCeiling c) := by
  unfold State.setCeiling
  dsimp only
  split
  · exact .of_lnk rfl
  · exact State.raise_keepsNotices _ _ _ _

theorem State.setEntry_lsv (s : State) (e : Entry) (v : Option Nat) :
    (s.setEntry e v).lsv = { s.lsv with ceiling := s.lsv.ceiling.put e v } := setCeiling_lsv ..

/-- Work on the blocks listed, which leaves the others and what is noticed. -/
structure State.WorksIn (bs : List Block) (s t : State) : Prop where
  same : ∀ b, b ∉ Block.lnk :: bs → s.sameBlock t b
  link : s.sameButNotices t
  held : t.held = s.held
  fresh : t.fresh = s.fresh
  pending : t.pending = s.pending
  notices : s.KeepsNotices t

theorem State.WorksIn.trans {bs : List Block} {s t u : State} (h : s.WorksIn bs t) (h' : t.WorksIn bs u) : s.WorksIn bs u where
  same b hb := (h.same b hb).trans (h'.same b hb)
  link := Eq.trans h'.link (by rw [h.link])
  held := h'.held.trans h.held
  fresh := h'.fresh.trans h.fresh
  pending := h'.pending.trans h.pending
  notices := h.notices.trans h'.notices

theorem State.WorksIn.mono {bs cs : List Block} {s t : State} (h : s.WorksIn bs t) (hs : bs ⊆ cs) : s.WorksIn cs t where
  same b hb := h.same b fun mem => hb ((List.mem_cons.mp mem).elim (fun e => e ▸ List.mem_cons_self) fun m => List.mem_cons_of_mem _ (hs m))
  link := h.link
  held := h.held
  fresh := h.fresh
  pending := h.pending
  notices := h.notices

theorem State.Within.worksIn {bs : List Block} {s t : State} (h : s.Within bs t) (hb : Block.lnk ∉ bs) (notices : s.KeepsNotices t) :
    s.WorksIn bs t :=
  ⟨h.same, h.keepsBut.2.1 hb, h.held, h.fresh, h.pending, notices⟩

theorem State.WorksIn.keepsBut {bs : List Block} {s t : State} (h : s.WorksIn bs t) : s.keepsBut t bs :=
  ⟨h.same, fun _ => h.link, h.held, h.fresh, h.pending⟩

theorem State.setEntry_map (s : State) (e : Entry) (v : Option Nat) : (s.setEntry e v).map = s.map := by
  unfold State.setEntry State.setCeiling
  dsimp only
  split <;> rfl

theorem State.setEntry_obk (s : State) (e : Entry) (v : Option Nat) : (s.setEntry e v).obk = s.obk := by
  unfold State.setEntry State.setCeiling
  dsimp only
  split <;> rfl

theorem State.setEntry_spc (s : State) (e : Entry) (v : Option Nat) : (s.setEntry e v).spc = s.spc := by
  unfold State.setEntry State.setCeiling
  dsimp only
  split <;> rfl

theorem State.setEntry_dec (s : State) (e : Entry) (v : Option Nat) : (s.setEntry e v).dec = s.dec := by
  unfold State.setEntry State.setCeiling
  dsimp only
  split <;> rfl

theorem State.setEntry_stk (s : State) (e : Entry) (v : Option Nat) : (s.setEntry e v).stk = s.stk := by
  unfold State.setEntry State.setCeiling
  dsimp only
  split <;> rfl

theorem State.setEntry_worksIn (s : State) (e : Entry) (v : Option Nat) (hs : e ≠ .stop := by decide) (hh : e ≠ .hold := by decide) :
    s.WorksIn [.lsv] (s.setEntry e v) :=
  (s.setEntry_within e v hs hh).worksIn (by simp) (s.setCeiling_keepsNotices _)

/-! ### The blocks that Restart clears by themselves (R18, R38, R62, R79, R133, R147) -/

theorem State.restartLcu_worksIn (s : State) : s.WorksIn [.lcu] s.restartLcu :=
  ⟨fun b hb => by cases b <;> first | rfl | simp at hb, rfl, rfl, rfl, rfl, .of_lnk rfl⟩

theorem State.restartMap_worksIn (s : State) : s.WorksIn [.map, .lsv] s.restartMap :=
  .trans (t := { s with map :=
      { WebMap.initial with bridges := s.map.bridges.map fun b => { b with content := 0, entries := [], shortfall := 0 } } })
    ⟨fun b hb => by cases b <;> first | rfl | simp at hb, rfl, rfl, rfl, rfl, .of_lnk rfl⟩ ((State.setEntry_worksIn _ .bridge _).mono (by simp))

theorem State.restartObk_worksIn (s : State) : s.WorksIn [.obk, .lsv] s.restartObk :=
  .trans (t := { s with obk := { s.obk with orders := [], endStatus := .none, pendingIncoming := none, deferral := false, stray := 0 } })
    ⟨fun b hb => by cases b <;> first | rfl | simp at hb, rfl, rfl, rfl, rfl, .of_lnk rfl⟩
    (((State.setEntry_worksIn _ .setup none).trans (State.setEntry_worksIn _ .grade none)).mono (by simp))

theorem State.restartSpc_worksIn (s : State) : s.WorksIn [.spc, .lsv] s.restartSpc :=
  .trans (t := { s with spc := { s.spc with stations := s.spc.stations.map SpliceStation.restarted } })
    ⟨fun b hb => by cases b <;> first | rfl | simp at hb, rfl, rfl, rfl, rfl, .of_lnk rfl⟩ ((State.setEntry_worksIn _ .splice none).mono (by simp))

theorem State.restartDec_worksIn (s : State) : s.WorksIn [.dec, .lsv] s.restartDec :=
  .trans (t := { s with dec := { s.dec with
      stations := s.dec.stations.map SlitStation.restartKept, lanes := s.dec.lanes.map fun l => { CutLane.initial with fire := l.fire }
      queues := Vector.replicate 2 { accepted := [], unjudged := [] } } })
    ⟨fun b hb => by cases b <;> first | rfl | simp at hb, rfl, rfl, rfl, rfl, .of_lnk rfl⟩ ((State.setEntry_worksIn _ .knife none).mono (by simp))

theorem State.restartStk_worksIn (s : State) : s.WorksIn [.stk, .lsv] s.restartStk :=
  .trans (t := { s with stk :=
      { stackers := s.stk.stackers.map Stacker.restarted, gates := Vector.replicate 2 .reject, scrapPieces := 0, scrapLength := 0 } })
    ⟨fun b hb => by cases b <;> first | rfl | simp at hb, rfl, rfl, rfl, rfl, .of_lnk rfl⟩ ((State.setEntry_worksIn _ .stacker none).mono (by simp))

/-- Restart behind the LSV's part and before the BND's: six blocks at their restart values. -/
def State.cleared (s : State) : State := (((((s.restartLcu).restartMap).restartObk).restartSpc).restartDec).restartStk

/-- What the six blocks' parts of Restart leave. -/
structure State.Cleared (s t : State) : Prop where
  works : s.WorksIn [.lcu, .map, .obk, .spc, .dec, .stk, .lsv] t
  lcu : t.lcu = s.restartLcu.lcu
  map : t.map = { WebMap.initial with bridges := s.map.bridges.map fun b => { b with content := 0, entries := [], shortfall := 0 } }
  obk : t.obk = { s.obk with orders := [], endStatus := .none, pendingIncoming := none, deferral := false, stray := 0 }
  spc : t.spc = { s.spc with stations := s.spc.stations.map SpliceStation.restarted }
  dec : t.dec = { s.dec with
    stations := s.dec.stations.map SlitStation.restartKept, lanes := s.dec.lanes.map fun l => { CutLane.initial with fire := l.fire }
    queues := Vector.replicate 2 { accepted := [], unjudged := [] } }
  stk : t.stk =
    { stackers := s.stk.stackers.map Stacker.restarted, gates := Vector.replicate 2 .reject, scrapPieces := 0, scrapLength := 0 }
  lsv : t.lsv = { s.lsv with ceiling := { s.lsv.ceiling with
    grade := none, splice := none, setup := none, bridge := t.lsv.ceiling.bridge, knife := none, stacker := none } }
  entry : t.bridgeEntryOk

theorem State.restartMap_lsv (s : State) :
    s.restartMap.lsv = { s.lsv with ceiling := { s.lsv.ceiling with bridge := s.restartMap.lsv.ceiling.bridge } } := by
  have set : ∃ v, s.restartMap.lsv = { s.lsv with ceiling := { s.lsv.ceiling with bridge := v } } := ⟨_, State.setEntry_lsv ..⟩
  obtain ⟨v, set⟩ := set
  rw [set]

theorem State.restartObk_lsv (s : State) :
    s.restartObk.lsv = { s.lsv with ceiling := { s.lsv.ceiling with setup := none, grade := none } } := by
  unfold State.restartObk
  rw [State.setEntry_lsv, State.setEntry_lsv]
  rfl

theorem State.restartSpc_lsv (s : State) : s.restartSpc.lsv = { s.lsv with ceiling := { s.lsv.ceiling with splice := none } } :=
  State.setEntry_lsv ..

theorem State.restartDec_lsv (s : State) : s.restartDec.lsv = { s.lsv with ceiling := { s.lsv.ceiling with knife := none } } :=
  State.setEntry_lsv ..

theorem State.restartStk_lsv (s : State) : s.restartStk.lsv = { s.lsv with ceiling := { s.lsv.ceiling with stacker := none } } :=
  State.setEntry_lsv ..

theorem State.cleared_lsv (s : State) :
    s.cleared.lsv = { s.lsv with ceiling := { s.lsv.ceiling with
      grade := none, splice := none, setup := none, bridge := s.restartLcu.restartMap.lsv.ceiling.bridge, knife := none
      stacker := none } } := by
  unfold State.cleared
  rw [State.restartStk_lsv, State.restartDec_lsv, State.restartSpc_lsv, State.restartObk_lsv, State.restartMap_lsv]
  rfl

theorem State.restartObk_obk (s : State) :
    s.restartObk.obk = { s.obk with orders := [], endStatus := .none, pendingIncoming := none, deferral := false, stray := 0 } := by
  unfold State.restartObk
  rw [State.setEntry_obk, State.setEntry_obk]

theorem State.restartSpc_spc (s : State) : s.restartSpc.spc = { s.spc with stations := s.spc.stations.map SpliceStation.restarted } :=
  State.setEntry_spc ..

theorem State.restartDec_dec (s : State) :
    s.restartDec.dec = { s.dec with
      stations := s.dec.stations.map SlitStation.restartKept, lanes := s.dec.lanes.map fun l => { CutLane.initial with fire := l.fire }
      queues := Vector.replicate 2 { accepted := [], unjudged := [] } } := State.setEntry_dec ..

theorem State.restartStk_stk (s : State) :
    s.restartStk.stk =
      { stackers := s.stk.stackers.map Stacker.restarted, gates := Vector.replicate 2 .reject, scrapPieces := 0, scrapLength := 0 } :=
  State.setEntry_stk ..

theorem State.cleared_spec (s : State) : s.Cleared s.cleared := by
  have lcu := s.restartLcu_worksIn
  have map := s.restartLcu.restartMap_worksIn
  have obk := s.restartLcu.restartMap.restartObk_worksIn
  have spc := s.restartLcu.restartMap.restartObk.restartSpc_worksIn
  have dec := s.restartLcu.restartMap.restartObk.restartSpc.restartDec_worksIn
  have stk := s.restartLcu.restartMap.restartObk.restartSpc.restartDec.restartStk_worksIn
  have afterSpc := (dec.mono (cs := [.dec, .stk, .lsv]) (by simp)).trans (stk.mono (by simp))
  have afterObk := (spc.mono (cs := [.spc, .dec, .stk, .lsv]) (by simp)).trans (afterSpc.mono (by simp))
  have afterMap := (obk.mono (cs := [.obk, .spc, .dec, .stk, .lsv]) (by simp)).trans (afterObk.mono (by simp))
  have afterLcu := (map.mono (cs := [.map, .obk, .spc, .dec, .stk, .lsv]) (by simp)).trans (afterMap.mono (by simp))
  have entry : s.cleared.bridgeEntryOk := by
    refine State.bridgeEntryOk_congr (s := s.restartLcu.restartMap) ?_ ?_ (by rw [State.cleared_lsv])
      (State.evalBridgeEntry_ok _)
    · exact congrArg Lcu.walls (afterMap.same .lcu (by simp))
    · exact congrArg WebMap.bridges (afterMap.same .map (by simp))
  refine ⟨(lcu.mono (by simp)).trans (afterLcu.mono (by simp)), afterLcu.same .lcu (by simp), ?_, ?_, ?_, ?_, ?_, ?_, entry⟩
  · exact Eq.trans (afterMap.same .map (by simp)) (State.setEntry_map ..)
  · refine Eq.trans (afterObk.same .obk (by simp)) ((State.restartObk_obk _).trans ?_)
    rw [show s.restartLcu.restartMap.obk = s.obk from map.same .obk (by simp)]
  · refine Eq.trans (afterSpc.same .spc (by simp)) ((State.restartSpc_spc _).trans ?_)
    rw [show s.restartLcu.restartMap.restartObk.spc = s.spc from Eq.trans (obk.same .spc (by simp)) (map.same .spc (by simp))]
  · refine Eq.trans (stk.same .dec (by simp)) ((State.restartDec_dec _).trans ?_)
    rw [show s.restartLcu.restartMap.restartObk.restartSpc.dec = s.dec from
      Eq.trans (spc.same .dec (by simp)) (Eq.trans (obk.same .dec (by simp)) (map.same .dec (by simp)))]
  · refine (State.restartStk_stk _).trans ?_
    rw [show s.restartLcu.restartMap.restartObk.restartSpc.restartDec.stk = s.stk from
      Eq.trans (dec.same .stk (by simp)) (Eq.trans (spc.same .stk (by simp)) (Eq.trans (obk.same .stk (by simp)) (map.same .stk (by simp))))]
  · rw [State.cleared_lsv]

/-! ### The line supervisor's part (R160, R161) -/

theorem State.withRest_bnd (s r : State) : (s.withRest r).bnd = s.bnd := rfl

theorem State.withRest_self {s r : State} (lcu : r.lcu = s.lcu) (map : r.map = s.map) (obk : r.obk = s.obk) (bnd : r.bnd = s.bnd)
    (dec : r.dec = s.dec) : s.withRest r = r := by
  unfold State.withRest
  rw [← lcu, ← map, ← obk, ← bnd, ← dec]

/-- The run state of the line supervisor cleared, with the start flag and the cause. -/
def State.lsvCleared (s : State) : State :=
  State.setEntry { s with lsv := { s.lsv with
    holds := .empty, stopRec := none, startFlag := true, resetCause := .restart, speedRef := 0, stopped := 0 } } .request (some 0)

theorem State.restartLsv_eq (s : State) :
    s.restartLsv = (if s.lsv.line = .setup then s.lsvCleared else s.lsvCleared.changeLine .setup).raise .partStarted ⟨.part, 0⟩
      (natBytes 1 ResetCause.restart.ctorIdx) := by
  have line : s.lsvCleared.lsv.line = s.lsv.line := by
    unfold State.lsvCleared
    rw [State.setEntry_lsv]
  rw [← line]
  rfl

theorem State.lsvCleared_lsv (s : State) :
    s.lsvCleared.lsv = { s.lsv with
      holds := .empty, stopRec := none, startFlag := true, resetCause := .restart, speedRef := 0, stopped := 0
      ceiling := { s.lsv.ceiling with request := 0 } } := State.setEntry_lsv ..

theorem State.lsvCleared_worksIn (s : State) : s.WorksIn [.lsv] s.lsvCleared :=
  .trans (t := { s with lsv := { s.lsv with
    holds := .empty, stopRec := none, startFlag := true, resetCause := .restart, speedRef := 0, stopped := 0 } })
    ⟨fun b hb => by cases b <;> first | rfl | simp at hb, rfl, rfl, rfl, rfl, .of_lnk rfl⟩ (State.setEntry_worksIn ..)

/-- A change to SETUP tells the bond controller on leaving PARK, and then the host. -/
theorem State.changeLine_setup (s : State) :
    s.changeLine .setup = (if s.lsv.line = .park then (s.entered .setup).evalBonds else s.entered .setup).raiseLine s.lsv.line := by
  simp [State.changeLine, State.announceBond, State.announceSplice, State.entered]

/-- The line supervisor's part of Restart: the line in SETUP and PART_STARTED noticed; from PARK setpoints and targets are evaluated. -/
structure State.LsvRestarted (s t : State) : Prop where
  same : ∀ b, b ∉ [Block.map, .bnd, .lsv, .lnk] → s.sameBlock t b
  link : s.sameButNotices t
  held : t.held = s.held
  fresh : t.fresh = s.fresh
  pending : t.pending = s.pending
  bnd : t.bnd = (if s.lsv.line = .park then State.evalBonds { s with lsv := { s.lsv with line := .setup } } else s).bnd
  bridges : t.map.bridges = s.map.bridges
  lsv : t.lsv = { s.lsv with
    line := .setup, holds := .empty, stopRec := none, speedRef := 0, stopped := 0, startFlag := true, resetCause := .restart
    ceiling := { s.lsv.ceiling with request := 0, stop := t.lsv.ceiling.stop, hold := t.lsv.ceiling.hold } }
  noticed : t.noticed .partStarted .part 0

theorem State.raise_partStarted (s : State) (d : List Byte) : (s.raise .partStarted ⟨.part, 0⟩ d).noticed .partStarted .part 0 := by
  obtain ⟨e, mem, kind, subject, -⟩ := s.raise_noticedWith .partStarted .part 0 d
  exact ⟨e, mem, kind, subject⟩

/-- In SETUP already: no change of the line state. -/
theorem State.restartLsv_of_setup {s : State} (setup : s.lsv.line = .setup) : s.LsvRestarted s.restartLsv := by
  have cleared := s.lsvCleared_worksIn
  have works : s.WorksIn [.lsv] s.restartLsv := by
    rw [State.restartLsv_eq, if_pos setup]
    exact cleared.trans (((State.raise_within ..).mono (by simp)).worksIn (by simp) (State.raise_keepsNotices _ _ _ _))
  refine ⟨fun b hb => works.same b (by simp_all), works.link, works.held, works.fresh, works.pending, ?_,
    congrArg WebMap.bridges (works.same .map (by simp)), ?_, ?_⟩
  · rw [if_neg (by rw [setup]; decide)]
    exact works.same .bnd (by simp)
  · rw [State.restartLsv_eq, if_pos setup, State.raise_lsv, State.lsvCleared_lsv, ← setup]
  · rw [State.restartLsv_eq]
    exact State.raise_partStarted _ _

theorem State.evalBonds_bnd_congr {s r : State} (line : r.lsv.line = s.lsv.line) (lcu : r.lcu = s.lcu) (map : r.map = s.map)
    (obk : r.obk = s.obk) (bnd : r.bnd = s.bnd) (dec : r.dec = s.dec) : r.evalBonds.bnd = s.evalBonds.bnd := by
  have rest := State.withRest_self lcu map obk bnd dec
  calc r.evalBonds.bnd = (s.withRest r).evalBonds.bnd := by rw [rest]
    _ = (s.evalBonds.withRest r).bnd := by rw [State.evalBonds_withRest s r line]
    _ = s.evalBonds.bnd := State.withRest_bnd ..

/-- The evaluation on the way out of PARK reads and writes what it would with nothing but the line state changed. -/
theorem State.evalBonds_entered {s c : State} (cleared : s.WorksIn [.lsv] c) (entered : c.Touches [.lsv] (c.entered .setup)) :
    (c.entered .setup).evalBonds.bnd = (State.evalBonds { s with lsv := { s.lsv with line := .setup } }).bnd := by
  have base (b : Block) (hb : b ∉ [Block.lnk, .lsv]) : s.sameBlock (c.entered .setup) b := (cleared.same b hb).trans (entered.same b hb)
  exact State.evalBonds_bnd_congr (State.entered_line ..) (base .lcu (by simp)) (base .map (by simp)) (base .obk (by simp))
    (base .bnd (by simp)) (base .dec (by simp))

theorem State.restartLsv_of_change {s : State} (standing : s.lsv.line.monitored = false) (setup : s.lsv.line ≠ .setup) :
    s.LsvRestarted s.restartLsv := by
  have cleared := s.lsvCleared_worksIn
  have line : s.lsvCleared.lsv.line = s.lsv.line := by rw [State.lsvCleared_lsv]
  have still : s.lsvCleared.lsv.line.monitored = LineState.setup.monitored := by rw [line, standing]; rfl
  have entered : s.lsvCleared.Touches [.lsv] (s.lsvCleared.entered .setup) := State.entered_touches still
  have changed : s.lsvCleared.Touches [.map, .bnd, .lsv] s.restartLsv := by
    rw [State.restartLsv_eq, if_neg setup]
    exact (State.changeLine_standing_touches still (.inr (.inr rfl))).step (State.raise_within ..) (by simp)
  have blocks : ∃ d d', s.restartLsv =
      ((if s.lsv.line = .park then (s.lsvCleared.entered .setup).evalBonds else s.lsvCleared.entered .setup).raise
        .lineState lineSubject d).raise .partStarted ⟨.part, 0⟩ d' := by
    rw [State.restartLsv_eq, if_neg setup, State.changeLine_setup, line]
    exact ⟨_, _, rfl⟩
  obtain ⟨d, d', blocks⟩ := blocks
  have map : (s.lsvCleared.entered .setup).map = s.map := Eq.trans (entered.same .map (by simp)) (cleared.same .map (by simp))
  have bnd : (s.lsvCleared.entered .setup).bnd = s.bnd := Eq.trans (entered.same .bnd (by simp)) (cleared.same .bnd (by simp))
  refine ⟨fun b hb => (cleared.same b (by simp_all)).trans (changed.same b (by simp_all)), ?_, changed.held.trans cleared.held,
    changed.fresh.trans cleared.fresh, changed.pending.trans cleared.pending, ?_, ?_, ?_, ?_⟩
  · have link : s.lsvCleared.sameButNotices s.restartLsv := changed.keepsBut.2.1 (by simp)
    exact Eq.trans link (by rw [cleared.link])
  · rw [blocks, State.raise_bnd, State.raise_bnd]
    split
    · exact State.evalBonds_entered cleared entered
    · exact bnd
  · rw [blocks, State.raise_map, State.raise_map]
    split
    · rw [State.evalBonds_bridges, map]
    · rw [map]
  · have entry : (s.lsvCleared.entered .setup).lsv = { s.lsv with
        line := .setup, holds := .empty, stopRec := none, speedRef := 0, stopped := 0, startFlag := true, resetCause := .restart
        ceiling := { s.lsv.ceiling with
          request := 0, stop := LineState.setup.stopEntry, hold := LineState.setup.holdEntry s.lsv.thread } } := by
      rw [State.entered_lsv, State.putLine]
      simp only [State.lsvCleared_lsv]
      rfl
    have bonds : (s.lsvCleared.entered .setup).evalBonds.lsv = (s.lsvCleared.entered .setup).lsv :=
      (State.evalBonds_within _).same .lsv (by simp)
    rw [blocks, State.raise_lsv, State.raise_lsv, apply_ite State.lsv, bonds, ite_self, entry]
  · rw [State.restartLsv_eq]
    exact State.raise_partStarted _ _

theorem State.restartLsv_spec {s : State} (standing : s.lsv.line.monitored = false) : s.LsvRestarted s.restartLsv := by
  by_cases setup : s.lsv.line = .setup
  · exact State.restartLsv_of_setup setup
  · exact State.restartLsv_of_change standing setup

/-! ### The bond controller's part (R101) -/

theorem State.setLostSpan_lnk (s : State) (x : BondSource) (b : Bool) : (s.setLostSpan x b).lnk = s.lnk := by cases x <;> rfl

theorem State.lowerRa_lnk (s : State) (p : Nat) : (s.lowerRa p).lnk = s.lnk := by
  unfold State.lowerRa
  split
  · split <;> rfl
  · rfl

theorem State.openSpan_keepsNotices (s : State) (x : BondSource) (p : Nat) : s.KeepsNotices (s.openSpan x p) := by
  rw [State.openSpan_eq]
  split
  · exact .of_lnk rfl
  · have lowered : s.KeepsNotices (s.lowerRa p).countLostMark := .of_lnk (by rw [← s.lowerRa_lnk p]; rfl)
    have raised (d : List Byte) := lowered.trans (State.raise_keepsNotices _ .mapFull ⟨.map, 0⟩ d)
    exact (raised _).trans (.of_lnk (congrArg Lnk.notices (State.setLostSpan_lnk _ x true)))

theorem State.openGlueSpan_keepsNotices (s : State) (k : GlueId) : s.KeepsNotices (s.openGlueSpan k) := by
  unfold State.openGlueSpan
  split
  · exact .refl s
  · exact (s.openSpan_keepsNotices _ _).trans (.of_lnk rfl)

/-- A fault report leaves what is noticed, and notices the fault of a station that was not in FAULT. -/
theorem State.glueReport_notices (s : State) (k : GlueId) :
    s.KeepsNotices (s.glueReport k true) ∧
      ((s.glue k).state ≠ .off → (s.glue k).state ≠ .fault → (s.glueReport k true).noticed .glueFault .glueStation (k.val + 1)) := by
  by_cases off : (s.glue k).state = .off
  · rw [s.glueReport_off off]
    exact ⟨.refl s, fun on => absurd off on⟩
  · by_cases faulted : (s.glue k).state = .fault
    · rw [s.glueReport_joins faulted]
      exact ⟨.of_lnk rfl, fun _ sound => absurd faulted sound⟩
    · rw [s.glueReport_faults off faulted]
      have opened : s.KeepsNotices ((s.glueFaulted k .output).openGlueSpan k) :=
        KeepsNotices.trans (t := s.glueFaulted k .output) (.of_lnk rfl) (State.openGlueSpan_keepsNotices _ k)
      refine ⟨opened.trans (State.raise_keepsNotices _ _ _ _), fun _ _ => ?_⟩
      obtain ⟨e, mem, kind, subject, -⟩ := ((s.glueFaulted k .output).openGlueSpan k).raise_noticedWith .glueFault .glueStation (k.val + 1)
        (natBytes 1 GlueCause.output.ctorIdx)
      exact ⟨e, mem, kind, subject⟩

/-- A set glue station in use as the judgement of Restart leaves it. -/
def State.rejudgedSet (s : State) (k : GlueId) (c : GlueSettings) : GlueStation :=
  if !s.pairFree c then
    { s.glue k with
      output := true, state := .fault, keepWet := none, levelA := .off, levelB := .off
      span := some ((s.glue k).span.getD (s.gluePoint k)) }
  else if (s.glue k).holdsGap then { s.glue k with state := restState (s.glue k).target c.parkGap }
  else { s.glue k with state := .moving, target := c.parkGap }

/-- The station MOVING, as the judgement has it before a fault of its outputs. -/
def State.glueMoving (s : State) (k : GlueId) : State := s.onGlue k fun g => { g with state := .moving }

theorem State.glueMoving_self (s : State) (k : GlueId) : (s.glueMoving k).glue k = { s.glue k with state := .moving } := s.onGlue_self k _

/-- The judgement of a set station in use (R101): a faulted output is a fault report. -/
theorem State.rejudgeGlue_eq {s : State} {k : GlueId} {c : GlueSettings} (set : (s.glue k).settings = some c) :
    s.rejudgeGlue k =
      if !s.glueInUse k then s
      else if !s.pairFree c then (s.glueMoving k).glueReport k true
      else if (s.glue k).holdsGap then s.onGlue k fun g => { g with state := restState g.target c.parkGap }
      else s.onGlue k fun g => { g with state := .moving, target := c.parkGap } := by
  simp only [State.rejudgeGlue, set]
  rfl

theorem State.rejudgeGlue_unset {s : State} {k : GlueId} (unset : (s.glue k).settings = none) : s.rejudgeGlue k = s := by
  simp only [State.rejudgeGlue, unset]

theorem State.glueMoving_reports (s : State) (k : GlueId) : s.Reports (.glue k) (s.glueMoving k) := s.onGlue_reports k _ rfl

theorem State.rejudgeGlue_idle {s : State} {k : GlueId} (idle : (s.glue k).settings = none ∨ s.glueInUse k = false) :
    s.rejudgeGlue k = s := by
  rcases set : (s.glue k).settings with _ | c
  · simp only [State.rejudgeGlue, set]
  · rw [State.rejudgeGlue_eq set, idle.resolve_left (by simp [set])]
    rfl

/-- What the judgement of a set station in use leaves and makes. -/
theorem State.rejudgeGlue_spec {s : State} {k : GlueId} {c : GlueSettings} (set : (s.glue k).settings = some c)
    (use : s.glueInUse k = true) :
    s.Reports (.glue k) (s.rejudgeGlue k) ∧ (s.rejudgeGlue k).glue k = s.rejudgedSet k c ∧ s.KeepsNotices (s.rejudgeGlue k) ∧
      (s.pairFree c = false → (s.rejudgeGlue k).noticed .glueFault .glueStation (k.val + 1) ∧
        ((s.glue k).span = none → (s.rejudgeGlue k).spanOpened (.glue k) (s.gluePoint k))) := by
  unfold State.rejudgedSet
  rw [State.rejudgeGlue_eq set, if_neg (by simp [use])]
  split
  · obtain ⟨reported, glue, -, opened⟩ := (s.glueMoving k).glueReport_spec k true
    obtain ⟨notices, noticed⟩ := (s.glueMoving k).glueReport_notices k
    have moving := s.glueMoving_reports k
    rw [State.glueMoving_self] at glue opened noticed
    rw [moving.gluePoint] at glue opened
    have quiet : s.KeepsNotices (s.glueMoving k) := .of_lnk rfl
    exact ⟨moving.trans reported, glue, quiet.trans notices, fun _ => ⟨noticed (by simp) (by simp), opened rfl (by simp) (by simp)⟩⟩
  · next free =>
    have sound : s.pairFree c = true := by simpa using free
    split
    · exact ⟨s.onGlue_reports k _ rfl, s.onGlue_self k _, .of_lnk rfl, fun faulted => by simp [sound] at faulted⟩
    · exact ⟨s.onGlue_reports k _ rfl, s.onGlue_self k _, .of_lnk rfl, fun faulted => by simp [sound] at faulted⟩

/-- The judgement of a station, whatever its settings. -/
theorem State.rejudgeGlue_keeps (s : State) (k : GlueId) : s.Reports (.glue k) (s.rejudgeGlue k) ∧ s.KeepsNotices (s.rejudgeGlue k) := by
  by_cases idle : (s.glue k).settings = none ∨ s.glueInUse k = false
  · rw [State.rejudgeGlue_idle idle]
    exact ⟨.refl _ s, .refl s⟩
  · obtain ⟨set, use⟩ := not_or.mp idle
    obtain ⟨c, set⟩ := Option.ne_none_iff_exists'.mp set
    obtain ⟨reports, -, notices, -⟩ := State.rejudgeGlue_spec set (by simpa using use)
    exact ⟨reports, notices⟩

/-! #### The spans in the emptied map -/

/-- A map emptied by Restart, with at most the spans of faulted glue pairs opened since, at 0. -/
structure State.Emptied (s : State) : Prop where
  marks : ∀ m ∈ s.map.marks, ∃ k, m = { start := 0, finish := none, body := .bondRisk (.glue k) }
  ra : s.map.ra = none
  lostMarks : s.map.lostMarks = 0
  lost : ∀ x, s.lostSpan x = false
  points : ∀ k, s.gluePoint k = 0

theorem State.Emptied.of_map {s t : State} (h : s.Emptied) (lcu : t.lcu = s.lcu) (map : t.map = s.map) : t.Emptied where
  marks m hm := h.marks m (map ▸ hm)
  ra := by rw [map]; exact h.ra
  lostMarks := by rw [map]; exact h.lostMarks
  lost x := by
    rw [← h.lost x]
    unfold State.lostSpan
    rw [map]
  points k := (State.gluePoint_congr lcu (by rw [map]) k).trans (h.points k)

/-- The map behind one judgement: the same, or with the span of the station stored. -/
theorem State.rejudgeGlue_map (s : State) (k : GlueId) (room : s.map.marks.length < Config.mapCapacity) :
    (s.rejudgeGlue k).map = s.map ∨
      (s.rejudgeGlue k).map =
        (s.setMarks (insertSorted { start := s.gluePoint k, finish := none, body := .bondRisk (.glue k) } s.map.marks)).map := by
  rcases set : (s.glue k).settings with _ | c
  · rw [State.rejudgeGlue_idle (.inl set)]
    exact .inl rfl
  · rw [State.rejudgeGlue_eq set]
    split
    · exact .inl rfl
    · split
      · rw [(s.glueMoving k).glueReport_faults (by rw [State.glueMoving_self]; simp) (by rw [State.glueMoving_self]; simp), State.raise_map,
          State.openGlueSpan]
        split
        · exact .inl rfl
        · have point : ((s.glueMoving k).glueFaulted k .output).gluePoint k = s.gluePoint k := State.gluePoint_congr rfl rfl k
          have marks : ((s.glueMoving k).glueFaulted k .output).map = s.map := rfl
          rw [State.onGlue_map, State.openSpan_eq, point, if_pos (by rw [marks]; exact room)]
          exact .inr rfl
      · split <;> exact .inl rfl

theorem State.Emptied.rejudge {s : State} (h : s.Emptied) (k : GlueId) (room : s.map.marks.length < Config.mapCapacity) :
    (s.rejudgeGlue k).Emptied ∧ (s.rejudgeGlue k).map.marks.length ≤ s.map.marks.length + 1 := by
  have lcu : (s.rejudgeGlue k).lcu = s.lcu := (s.rejudgeGlue_within k).same .lcu (by simp)
  rcases s.rejudgeGlue_map k room with map | map
  · exact ⟨h.of_map lcu map, by rw [map]; omega⟩
  · have stored : (s.setMarks (insertSorted { start := s.gluePoint k, finish := none, body := .bondRisk (.glue k) } s.map.marks)).Emptied := by
      refine ⟨fun m hm => ?_, h.ra, h.lostMarks, fun x => (s.setMarks_lostSpan _ x).trans (h.lost x), fun j => h.points j⟩
      rcases mem_insertSorted.mp hm with rfl | hm
      · exact ⟨k, by rw [h.points k]⟩
      · exact h.marks m hm
    refine ⟨stored.of_map lcu map, ?_⟩
    rw [map]
    exact (insertSorted_length ..).le

/-- All judgements: as many spans at most as stations. -/
theorem State.Emptied.rejudgeAll {s : State} (h : s.Emptied) (l : List GlueId) (room : s.map.marks.length + l.length ≤ Config.mapCapacity) :
    (l.foldl State.rejudgeGlue s).Emptied := by
  induction l generalizing s with
  | nil => exact h
  | cons k l ih =>
    rw [List.length_cons] at room
    obtain ⟨next, count⟩ := h.rejudge k (by omega)
    exact ih next (by omega)

/-! #### All stations judged -/

/-- What the other judgements leave of station `k`, of its span, and of all that its own judgement reads. -/
structure State.JudgesPast (k : GlueId) (s t : State) : Prop where
  sends : s.Sends t
  glue : t.glue k = s.glue k
  notices : s.KeepsNotices t

theorem State.JudgesPast.refl (k : GlueId) (s : State) : s.JudgesPast k s := ⟨.refl s, rfl, .refl s⟩

theorem State.JudgesPast.trans {k : GlueId} {s t u : State} (h : s.JudgesPast k t) (h' : t.JudgesPast k u) : s.JudgesPast k u :=
  ⟨h.sends.trans h'.sends, h'.glue.trans h.glue, h.notices.trans h'.notices⟩

theorem State.rejudgeGlue_past (s : State) {j k : GlueId} (h : j ≠ k) : s.JudgesPast k (s.rejudgeGlue j) := by
  obtain ⟨reports, notices⟩ := s.rejudgeGlue_keeps j
  exact ⟨reports.sends, reports.glues k fun e => h (BondSource.glue.inj e), notices⟩

/-- Station `k` behind the judgements of all. -/
theorem State.rejudged_station (s : State) (k : GlueId) :
    (((s.glue k).settings = none ∨ s.glueInUse k = false) → (s.forAll 4 State.rejudgeGlue).glue k = s.glue k) ∧
      ∀ c, (s.glue k).settings = some c → s.glueInUse k = true →
        (s.forAll 4 State.rejudgeGlue).glue k = s.rejudgedSet k c ∧
          (s.pairFree c = false → (s.forAll 4 State.rejudgeGlue).noticed .glueFault .glueStation (k.val + 1) ∧
            ((s.glue k).span = none → (s.forAll 4 State.rejudgeGlue).spanOpened (.glue k) (s.gluePoint k))) := by
  obtain ⟨x, before, behind⟩ := State.forAll_turn (State.JudgesPast.refl k) State.JudgesPast.trans
    (fun t j h => t.rejudgeGlue_past h) s
  have use : x.glueInUse k = s.glueInUse k := before.sends.glueInUse k
  have point : x.gluePoint k = s.gluePoint k := before.sends.gluePoint k
  have free (c : GlueSettings) : x.pairFree c = s.pairFree c := by
    have faulted (o : OutputId) : x.faulted o = s.faulted o := State.faulted_congr (before.sends.within.same .dst (by simp)) o
    unfold State.pairFree
    rw [faulted, faulted]
  refine ⟨fun idle => ?_, fun c set used => ?_⟩
  · rw [behind.glue, State.rejudgeGlue_idle (by rwa [before.glue, use]), before.glue]
  · obtain ⟨-, glue, -, told⟩ := State.rejudgeGlue_spec (s := x) (k := k) (by rw [before.glue, set]) (by rw [use, used])
    rw [free, before.glue, point] at told
    refine ⟨?_, fun faulted => ?_⟩
    · rw [behind.glue, glue]
      unfold State.rejudgedSet
      rw [free, before.glue, point]
    · obtain ⟨noticed, opened⟩ := told faulted
      exact ⟨behind.notices _ _ _ noticed, fun none => behind.sends.opened _ _ (opened none)⟩

/-- The zones and the stations of the bond controller at their restart values, none judged yet. -/
def State.bndCleared (s : State) : State :=
  State.setEntry { s with bnd :=
    { s.bnd with zones := s.bnd.zones.map Zone.restarted, glues := s.bnd.glues.map GlueStation.restarted, zeroSpeed := 0 } } .bond none

theorem State.bndCleared_worksIn (s : State) : s.WorksIn [.bnd, .lsv] s.bndCleared :=
  .trans (t := { s with bnd :=
      { s.bnd with zones := s.bnd.zones.map Zone.restarted, glues := s.bnd.glues.map GlueStation.restarted, zeroSpeed := 0 } })
    ⟨fun b hb => by cases b <;> first | rfl | simp at hb, rfl, rfl, rfl, rfl, .of_lnk rfl⟩ ((State.setEntry_worksIn _ .bond none).mono (by simp))

theorem State.bndCleared_bnd (s : State) :
    s.bndCleared.bnd =
      { s.bnd with zones := s.bnd.zones.map Zone.restarted, glues := s.bnd.glues.map GlueStation.restarted, zeroSpeed := 0 } :=
  (State.setEntry_worksIn _ .bond none).same .bnd (by simp)

theorem State.bndCleared_zone (s : State) (n : ZoneId) : s.bndCleared.zone n = (s.zone n).restarted := by
  unfold State.zone
  rw [State.bndCleared_bnd]
  exact Vector.getElem_map ..

theorem State.bndCleared_glue (s : State) (k : GlueId) : s.bndCleared.glue k = (s.glue k).restarted := by
  unfold State.glue
  rw [State.bndCleared_bnd]
  exact Vector.getElem_map ..

theorem State.restartBnd_eq (s : State) : s.restartBnd = s.bndCleared.forAll 4 State.rejudgeGlue := rfl

theorem State.openGlueSpan_bnd (s : State) (k : GlueId) :
    (s.openGlueSpan k).bnd = { s.bnd with glues := (s.openGlueSpan k).bnd.glues } := by
  have opened : (s.openSpan (.glue k) (s.gluePoint k)).bnd = s.bnd := (State.openSpan_within ..).same .bnd (by simp)
  unfold State.openGlueSpan
  split
  · rfl
  · unfold State.onGlue
    rw [opened]

theorem State.rejudgeGlue_bnd (s : State) (k : GlueId) : (s.rejudgeGlue k).bnd = { s.bnd with glues := (s.rejudgeGlue k).bnd.glues } := by
  rcases set : (s.glue k).settings with _ | c
  · rw [State.rejudgeGlue_idle (.inl set)]
  · rw [State.rejudgeGlue_eq set]
    split
    · rfl
    · split
      · rw [(s.glueMoving k).glueReport_faults (by rw [State.glueMoving_self]; simp) (by rw [State.glueMoving_self]; simp), State.raise_bnd,
          State.openGlueSpan_bnd]
        rfl
      · split <;> rfl

theorem State.restartBnd_bnd (s : State) : s.restartBnd.bnd = { s.bndCleared.bnd with glues := s.restartBnd.bnd.glues } := by
  rw [State.restartBnd_eq]
  refine State.forAll_keep (P := fun t => t.bnd = { s.bndCleared.bnd with glues := t.bnd.glues }) (fun t k h => ?_) rfl
  rw [t.rejudgeGlue_bnd k, h]

theorem State.restartBnd_sends (s : State) : s.bndCleared.Sends s.restartBnd :=
  State.forAll_keep (P := s.bndCleared.Sends) (fun t k h => h.trans (t.rejudgeGlue_keeps k).1.sends) (.refl _)

theorem State.restartBnd_worksIn (s : State) : s.WorksIn [.map, .bnd, .lsv] s.restartBnd := by
  have within : s.bndCleared.Within [.map, .bnd] s.restartBnd := State.forAll_within fun t k => t.rejudgeGlue_within k
  have notices : s.bndCleared.KeepsNotices s.restartBnd :=
    State.forAll_keep (P := s.bndCleared.KeepsNotices) (fun t k h => h.trans (t.rejudgeGlue_keeps k).2) (.refl _)
  exact (s.bndCleared_worksIn.mono (by simp)).trans ((within.worksIn (by simp) notices).mono (by simp))

theorem State.restartBnd_lsv (s : State) : s.restartBnd.lsv = { s.lsv with ceiling := { s.lsv.ceiling with bond := none } } := by
  have within : s.bndCleared.Within [.map, .bnd] s.restartBnd := State.forAll_within fun t k => t.rejudgeGlue_within k
  exact Eq.trans (within.same .lsv (by simp)) (State.setEntry_lsv ..)

/-! ### The drive stage's part (R114, R117) -/

/-- From `s` to `t` OUTPUT causes of zones are the only change. -/
structure State.TellsZones (s t : State) : Prop where
  only : t = { s with bnd := { s.bnd with zones := t.bnd.zones } }
  zone : ∀ n, t.zone n = { s.zone n with output := (t.zone n).output }

theorem State.TellsZones.refl (s : State) : s.TellsZones s := ⟨rfl, fun _ => rfl⟩

theorem State.TellsZones.ownedBy {s t : State} (h : s.TellsZones t) (o : OutputId) : t.ownedBy o = s.ownedBy o :=
  State.ownedBy_congr (fun n => by rw [h.zone n]) (fun k => by rw [h.only]; rfl) (by rw [h.only]) (by rw [h.only]) o

theorem State.TellsZones.faulted {s t : State} (h : s.TellsZones t) (o : OutputId) : t.faulted o = s.faulted o :=
  State.faulted_congr (by rw [h.only]) o

/-- With every zone off and every station of a faulted output in FAULT by it, the kept faults reach zones alone. -/
structure State.KeptFaults (s : State) : Prop where
  zones : ∀ n, (s.zone n).enabled = false
  glues : ∀ o w k, s.ownedBy o = some w → w.source = .glue k → s.faulted o = true → s.GlueFaulted k

theorem State.reportKept_zone {s : State} (kept : s.KeptFaults) {o : OutputId} {n : ZoneId} (owned : s.ownedBy o = some (.zone n)) :
    s.reportKept o = if s.faulted o then s.zoneTold n true else s := by
  unfold State.reportKept
  rw [owned]
  dsimp only
  split
  · rw [show s.ownerReport (.zone n) true = s.zoneReport n true from rfl, State.zoneReport_eq, kept.zones n]
    rfl
  · rfl

theorem State.reportKept_other {s : State} (kept : s.KeptFaults) {o : OutputId} (other : ∀ n, s.ownedBy o ≠ some (.zone n)) :
    s.reportKept o = s := by
  unfold State.reportKept
  split
  · next w owned =>
    split
    · next faulted =>
      rcases source : w.source with n | k
      · exact absurd (owned.trans (congrArg some (Owner.source_zone.mp source))) (other n)
      · obtain ⟨output, state⟩ := kept.glues o w k owned source faulted
        rw [State.ownerReport_glue _ source, State.glueReport_joins _ state]
        exact State.onGlue_fixed (by rw [← output])
    · rfl
  · rfl

theorem State.KeptFaults.of_tells {s t : State} (kept : s.KeptFaults) (h : s.TellsZones t) : t.KeptFaults where
  zones n := by rw [h.zone n]; exact kept.zones n
  glues o w k owned source faulted := by
    have stands := kept.glues o w k ((h.ownedBy o).symm.trans owned) source ((h.faulted o).symm.trans faulted)
    unfold State.GlueFaulted State.glue at stands ⊢
    rw [h.only]
    exact stands

theorem State.TellsZones.told {s t : State} (h : s.TellsZones t) (n : ZoneId) : s.TellsZones (t.zoneTold n true) := by
  refine ⟨?_, fun m => ?_⟩
  · have only : t.zoneTold n true = { t with bnd := { t.bnd with zones := (t.zoneTold n true).bnd.zones } } := rfl
    rw [only, h.only]
  · by_cases own : m = n
    · subst own
      rw [State.zoneTold_self, h.zone m]
    · rw [show (t.zoneTold n true).zone m = t.zone m from t.onZone_ne n _ own, h.zone m]

/-- One output's kept fault, reported. -/
theorem State.reportKept_step {s t : State} (kept : s.KeptFaults) (h : s.TellsZones t) (o : OutputId) :
    s.TellsZones (t.reportKept o) ∧
      ∀ n, ((t.reportKept o).zone n).output = true ↔
        (t.zone n).output = true ∨ (s.ownedBy o = some (.zone n) ∧ s.faulted o = true) := by
  have keptHere := kept.of_tells h
  rw [← h.ownedBy o, ← h.faulted o]
  by_cases zone : ∃ n, t.ownedBy o = some (.zone n)
  · obtain ⟨n, owned⟩ := zone
    rw [State.reportKept_zone keptHere owned, owned]
    by_cases faulted : t.faulted o = true
    · rw [if_pos faulted]
      refine ⟨h.told n, fun m => ?_⟩
      by_cases own : m = n
      · subst own
        simp [State.zoneTold_self, faulted]
      · rw [show (t.zoneTold n true).zone m = t.zone m from t.onZone_ne n _ own]
        simp [Ne.symm own]
    · rw [if_neg faulted]
      exact ⟨h, fun m => by simp [faulted]⟩
  · rw [State.reportKept_other keptHere fun n owned => zone ⟨n, owned⟩]
    refine ⟨h, fun m => ?_⟩
    have other : t.ownedBy o ≠ some (.zone m) := fun owned => zone ⟨m, owned⟩
    simp [other]

/-- The kept faults of a list of outputs, reported. -/
theorem State.reportKept_all {s t : State} (kept : s.KeptFaults) (h : s.TellsZones t) (l : List OutputId) :
    s.TellsZones (l.foldl State.reportKept t) ∧
      ∀ n, ((l.foldl State.reportKept t).zone n).output = true ↔
        (t.zone n).output = true ∨ ∃ o ∈ l, s.ownedBy o = some (.zone n) ∧ s.faulted o = true := by
  induction l generalizing t with
  | nil => exact ⟨h, fun n => by simp⟩
  | cons o l ih =>
    obtain ⟨told, output⟩ := State.reportKept_step kept h o
    obtain ⟨tells, outputs⟩ := ih told
    refine ⟨tells, fun n => (outputs n).trans ?_⟩
    rw [output n]
    simp only [List.exists_mem_cons_iff, or_assoc]

/-- FAULT_INPUT is a hold cause again while a HOLD record is latched (R114). -/
def State.holdKept (s : State) : State := if s.holdRecord then s.addHold .faultInput else s

theorem State.holdKept_of_setup {s : State} (line : s.lsv.line = .setup) (empty : s.lsv.holds = .empty) :
    s.holdKept = { s with lsv := { s.lsv with holds := { HoldSet.empty with faultInput := s.holdRecord } } } := by
  unfold State.holdKept
  cases s.holdRecord
  · rw [if_neg (by decide)]
    have same : ({ HoldSet.empty with faultInput := false } : HoldSet) = s.lsv.holds := empty.symm
    rw [same]
  · rw [if_pos rfl]
    unfold State.addHold State.holdsChanged
    rw [empty, line]
    rfl

theorem State.holdRecord_iff {s : State} : s.holdRecord = true ↔ ∃ i : InputId, (s.input i).latched = true ∧ (s.input i).action = .hold := by
  simp [State.holdRecord, allIds]

theorem State.restartDst_eq (s : State) : s.restartDst = s.holdKept.forAll 16 State.reportKept := rfl

/-! ### The bond controller and the drive stage behind the other blocks -/

/-- A part whose other blocks Restart has cleared: the line in SETUP without hold causes, the map empty and every glue point at 0. -/
structure State.Clean (s : State) : Prop where
  line : s.lsv.line = .setup
  holds : s.lsv.holds = .empty
  marks : s.map.marks = []
  emptied : s.Emptied

/-- What the last two blocks' parts of Restart leave. -/
structure State.BondsRestarted (s u : State) : Prop where
  works : s.WorksIn [.map, .bnd, .lsv] u
  lsv : u.lsv = { s.lsv with
    holds := { HoldSet.empty with faultInput := s.holdRecord }, ceiling := { s.lsv.ceiling with bond := none } }
  bridges : u.map.bridges = s.map.bridges
  emptied : u.Emptied
  bnd : u.bnd = { s.bnd with zones := u.bnd.zones, glues := u.bnd.glues, zeroSpeed := 0 }
  output : ∀ n, (u.zone n).output = true ↔ ∃ o, s.ownedBy o = some (.zone n) ∧ s.faulted o = true
  zone : ∀ n, u.zone n = { (s.zone n).restarted with output := (u.zone n).output }
  idle : ∀ k, (s.glue k).settings = none ∨ s.glueInUse k = false → u.glue k = (s.glue k).restarted
  glue : ∀ k c, (s.glue k).settings = some c → s.glueInUse k = true → u.glue k = s.bndCleared.rejudgedSet k c
  told : ∀ k c, (s.glue k).settings = some c → s.glueInUse k = true → s.pairFree c = false →
    u.noticed .glueFault .glueStation (k.val + 1) ∧ { start := 0, finish := none, body := .bondRisk (.glue k) } ∈ u.map.marks

theorem State.Emptied.stored {s : State} (h : s.Emptied) {k : GlueId} {p : Nat} (opened : s.spanOpened (.glue k) p) :
    { start := p, finish := none, body := .bondRisk (.glue k) } ∈ s.map.marks :=
  opened.resolve_right fun refused => by simp [h.lost] at refused

section
variable {s : State}

theorem State.bndCleared_sameWorks (s : State) : s.bndCleared.lcu = s.lcu ∧ s.bndCleared.map = s.map ∧ s.bndCleared.dst = s.dst :=
  ⟨s.bndCleared_worksIn.same .lcu (by simp), s.bndCleared_worksIn.same .map (by simp), s.bndCleared_worksIn.same .dst (by simp)⟩

theorem State.Clean.bonds (h : s.Clean) : s.restartBnd.Emptied := by
  obtain ⟨lcu, map, -⟩ := s.bndCleared_sameWorks
  have emptied : s.bndCleared.Emptied := h.emptied.of_map lcu map
  rw [State.restartBnd_eq]
  exact emptied.rejudgeAll _ (by rw [map, h.marks]; decide)

theorem State.restartBnd_station (s : State) (k : GlueId) :
    ((s.glue k).settings = none ∨ s.glueInUse k = false → s.restartBnd.glue k = (s.glue k).restarted) ∧
      ∀ c, (s.glue k).settings = some c → s.glueInUse k = true →
        s.restartBnd.glue k = s.bndCleared.rejudgedSet k c ∧
          (s.pairFree c = false → s.restartBnd.noticed .glueFault .glueStation (k.val + 1) ∧
            s.restartBnd.spanOpened (.glue k) (s.gluePoint k)) := by
  obtain ⟨lcu, map, dst⟩ := s.bndCleared_sameWorks
  have settings : (s.bndCleared.glue k).settings = (s.glue k).settings := by rw [State.bndCleared_glue]; rfl
  have use : s.bndCleared.glueInUse k = s.glueInUse k := State.glueInUse_congr lcu k
  have free (c : GlueSettings) : s.bndCleared.pairFree c = s.pairFree c := by
    unfold State.pairFree
    rw [State.faulted_congr dst, State.faulted_congr dst]
  have point : s.bndCleared.gluePoint k = s.gluePoint k := State.gluePoint_congr lcu (by rw [map]) k
  obtain ⟨idle, judged⟩ := s.bndCleared.rejudged_station k
  rw [settings, use] at idle
  refine ⟨fun h => (idle h).trans (s.bndCleared_glue k), fun c set used => ?_⟩
  obtain ⟨glue, told⟩ := judged c (settings.trans set) (use.trans used)
  refine ⟨glue, fun faulted => ?_⟩
  obtain ⟨noticed, opened⟩ := told ((free c).trans faulted)
  rw [point] at opened
  exact ⟨noticed, opened (by rw [State.bndCleared_glue]; rfl)⟩

/-- The owners of the outputs are those before the bond controller's part. -/
theorem State.restartBnd_ownedBy (s : State) (o : OutputId) : s.restartBnd.ownedBy o = s.ownedBy o := by
  have sends := s.restartBnd_sends
  obtain ⟨lcu, -, dst⟩ := s.bndCleared_sameWorks
  have lcu' : s.restartBnd.lcu = s.bndCleared.lcu := sends.within.same .lcu (by simp)
  have dst' : s.restartBnd.dst = s.bndCleared.dst := sends.within.same .dst (by simp)
  refine State.ownedBy_congr (fun n => ?_) (fun k => ?_) (by rw [lcu', lcu]) (dst'.trans dst) o
  · rw [(sends.zones n).1, State.bndCleared_zone]
    rfl
  · rw [sends.glues k, State.bndCleared_glue]
    rfl

theorem State.restartBnd_faulted (s : State) (o : OutputId) : s.restartBnd.faulted o = s.faulted o :=
  State.faulted_congr (s.restartBnd_worksIn.same .dst (by simp)) o

theorem State.restartBnd_zone (s : State) (n : ZoneId) : s.restartBnd.zone n = (s.zone n).restarted := by
  rw [← State.bndCleared_zone]
  unfold State.zone
  rw [s.restartBnd_bnd]

/-- Behind the judgement every station with a faulted output of its own is in FAULT by it, and no zone is enabled. -/
theorem State.restartBnd_keptFaults (s : State) : s.restartBnd.KeptFaults where
  zones n := by rw [State.restartBnd_zone]; rfl
  glues o w k owned own faulted := by
    rw [State.restartBnd_ownedBy] at owned
    rw [State.restartBnd_faulted] at faulted
    obtain ⟨use, c, set, out⟩ := State.glue_of_ownedBy owned own
    obtain ⟨glue, -⟩ := (s.restartBnd_station k).2 c set use
    have pair : s.bndCleared.pairFree c = false := by
      unfold State.pairFree
      obtain ⟨-, -, dst⟩ := s.bndCleared_sameWorks
      rw [State.faulted_congr dst, State.faulted_congr dst]
      rcases out with out | out <;> simp [out, faulted]
    unfold State.GlueFaulted
    rw [glue, State.rejudgedSet, pair]
    exact ⟨rfl, rfl⟩

end

/-- The hold causes that Restart leaves: FAULT_INPUT alone, by a HOLD record that is kept. -/
def State.holdOnly (s : State) : State :=
  { s with lsv := { s.lsv with holds := { HoldSet.empty with faultInput := s.holdRecord } } }

theorem State.KeptFaults.holdOnly {s : State} (h : s.KeptFaults) : s.holdOnly.KeptFaults := ⟨h.zones, h.glues⟩

theorem State.restartDst_foldl (s : State) : s.restartDst = (allIds 16).foldl State.reportKept s.holdKept := rfl

theorem State.restartDst_tells {s : State} (line : s.lsv.line = .setup) (holds : s.lsv.holds = .empty) (faults : s.KeptFaults) :
    s.holdOnly.TellsZones s.restartDst ∧ ∀ n, (s.restartDst.zone n).output = true ↔
      (s.zone n).output = true ∨ ∃ o, s.ownedBy o = some (.zone n) ∧ s.faulted o = true := by
  have held : s.holdKept = s.holdOnly := State.holdKept_of_setup line holds
  obtain ⟨tells, output⟩ := State.reportKept_all faults.holdOnly (.refl _) (allIds 16)
  rw [← held, ← State.restartDst_foldl] at tells output
  refine ⟨held ▸ tells, fun n => (output n).trans (or_congr (by rw [held]; rfl) ?_)⟩
  rw [held]
  exact ⟨fun ⟨o, _, h⟩ => ⟨o, h⟩, fun ⟨o, h⟩ => ⟨o, List.mem_finRange o, h⟩⟩

/-- What the drive stage's part leaves, block by block. -/
theorem State.TellsZones.of_holdOnly {s u : State} (h : s.holdOnly.TellsZones u) :
    s.WorksIn [.bnd, .lsv] u ∧ u.lsv = { s.lsv with holds := { HoldSet.empty with faultInput := s.holdRecord } } ∧
      u.bnd = { s.bnd with zones := u.bnd.zones } ∧ (∀ k, u.glue k = s.glue k) ∧
      ∀ n, u.zone n = { s.zone n with output := (u.zone n).output } := by
  have lnk : u.lnk = s.lnk := by rw [h.only]; rfl
  refine ⟨⟨fun b hb => ?_, ?_, ?_, ?_, ?_, .of_lnk (by rw [lnk])⟩, ?_, ?_, fun k => ?_, h.zone⟩
  case refine_1 => rw [h.only]; cases b <;> first | rfl | simp at hb
  case refine_2 => rw [h.only]; rfl
  all_goals rw [h.only]; rfl

theorem State.bonds_restarted {s : State} (clean : s.Clean) : s.BondsRestarted s.restartBnd.restartDst := by
  have lsv := s.restartBnd_lsv
  have input (i : InputId) : s.restartBnd.input i = s.input i := by
    unfold State.input
    rw [show s.restartBnd.dst = s.dst from s.restartBnd_worksIn.same .dst (by simp)]
  have record : s.restartBnd.holdRecord = s.holdRecord := by
    unfold State.holdRecord
    simp only [input]
  obtain ⟨tells, output⟩ := State.restartDst_tells (s := s.restartBnd) (by rw [lsv]; exact clean.line) (by rw [lsv]; exact clean.holds)
    s.restartBnd_keptFaults
  generalize s.restartBnd.restartDst = u at tells output
  obtain ⟨works, lsv', bnd, glue, zone⟩ := tells.of_holdOnly
  have map : u.map = s.restartBnd.map := works.same .map (by simp)
  refine ⟨s.restartBnd_worksIn.trans (works.mono (by simp)), ?_, ?_, clean.bonds.of_map (works.same .lcu (by simp)) map, ?_,
    fun n => (output n).trans ?_, fun n => ?_, fun k idle => (glue k).trans ((s.restartBnd_station k).1 idle),
    fun k c set use => (glue k).trans ((s.restartBnd_station k).2 c set use).1, fun k c set use faulted => ?_⟩
  · rw [lsv', record, lsv]
  · have bridges : s.restartBnd.map.bridges = s.bndCleared.map.bridges := s.restartBnd_sends.bridges
    obtain ⟨-, map', -⟩ := s.bndCleared_sameWorks
    rw [map, bridges, map']
  · rw [bnd, s.restartBnd_bnd, State.bndCleared_bnd]
  · have off : (s.restartBnd.zone n).output = false := by rw [State.restartBnd_zone]; rfl
    have owners (o : OutputId) : s.restartBnd.ownedBy o = some (.zone n) ∧ s.restartBnd.faulted o = true ↔
        s.ownedBy o = some (.zone n) ∧ s.faulted o = true := by
      rw [State.restartBnd_ownedBy, State.restartBnd_faulted]
    exact (or_iff_right (by rw [off]; decide)).trans (exists_congr owners)
  · rw [zone n, State.restartBnd_zone]
  · obtain ⟨noticed, opened⟩ := ((s.restartBnd_station k).2 c set use).2 faulted
    rw [clean.emptied.points k] at opened
    refine ⟨works.notices _ _ _ noticed, ?_⟩
    rw [map]
    exact clean.bonds.stored opened

/-! ### Restart as a whole (R161) -/

/-- The state that setpoints and targets are left in by the way out of PARK, or as they stand. -/
def State.leftPark (s : State) : State :=
  if s.lsv.line = .park then State.evalBonds { s with lsv := { s.lsv with line := .setup } } else s

theorem State.evalBonds_settings {s t : State} (bnd : t.bnd = s.bnd) :
    (∀ n, (t.evalBonds.zone n).settings = (s.zone n).settings) ∧ (∀ k, (t.evalBonds.glue k).settings = (s.glue k).settings) ∧
      t.evalBonds.bnd = { s.bnd with zones := t.evalBonds.bnd.zones, glues := t.evalBonds.bnd.glues } := by
  have same := t.evalBonds_sameLookups
  refine ⟨fun n => (same.zones n).trans ?_, fun k => (same.glues k).trans ?_, ?_⟩
  · unfold State.zone
    rw [bnd]
  · unfold State.glue
    rw [bnd]
  · rw [← bnd]
    exact same.bnd

theorem State.leftPark_settings (s : State) :
    (∀ n, (s.leftPark.zone n).settings = (s.zone n).settings) ∧ (∀ k, (s.leftPark.glue k).settings = (s.glue k).settings) ∧
      s.leftPark.bnd = { s.bnd with zones := s.leftPark.bnd.zones, glues := s.leftPark.bnd.glues } := by
  by_cases park : s.lsv.line = .park
  · rw [State.leftPark, if_pos park]
    exact State.evalBonds_settings rfl
  · rw [State.leftPark, if_neg park]
    exact ⟨fun _ => rfl, fun _ => rfl, rfl⟩

theorem Counter.restarted_pos (c : Counter) : c.restarted.pos = 0 := by simp [Counter.restarted, Counter.pos]

section
variable {s a c : State} (lsv : s.LsvRestarted a) (cleared : a.Cleared c)
include lsv cleared

theorem State.Cleared.lcu_of : c.lcu = s.restartLcu.lcu := by
  rw [cleared.lcu]
  unfold State.restartLcu
  rw [show a.lcu = s.lcu from lsv.same .lcu (by simp)]

theorem State.Cleared.bnd_of : c.bnd = s.leftPark.bnd := Eq.trans (cleared.works.same .bnd (by simp)) lsv.bnd

theorem State.Cleared.dst_of : c.dst = s.dst := Eq.trans (cleared.works.same .dst (by simp)) (lsv.same .dst (by simp))

theorem State.Cleared.map_of :
    c.map = { WebMap.initial with bridges := s.map.bridges.map fun b => { b with content := 0, entries := [], shortfall := 0 } } := by
  rw [cleared.map, lsv.bridges]

theorem State.Cleared.lsv_of :
    c.lsv = { s.lsv with
      line := .setup, holds := .empty, stopRec := none, speedRef := 0, stopped := 0, startFlag := true, resetCause := .restart
      ceiling := { Ceiling.initial with
        bond := s.lsv.ceiling.bond, bridge := c.lsv.ceiling.bridge, stop := c.lsv.ceiling.stop, hold := c.lsv.ceiling.hold } } := by
  have eq := cleared.lsv
  rw [lsv.lsv] at eq
  rw [eq]
  rfl

theorem State.Cleared.clean : c.Clean := by
  have map := cleared.map_of lsv
  have marks : c.map.marks = [] := by rw [map]; rfl
  refine ⟨by rw [cleared.lsv_of lsv], by rw [cleared.lsv_of lsv], marks, fun m hm => ?_, by rw [map]; rfl, by rw [map]; rfl, fun x => ?_,
    fun k => ?_⟩
  · rw [marks] at hm
    cases hm
  · unfold State.lostSpan
    rw [map]
    cases x <;> exact Vector.getElem_replicate ..
  · have line : c.linePos = 0 := by
      have counter : c.counter 0 = (s.counter 0).restarted := by
        unfold State.counter
        rw [cleared.lcu_of lsv]
        exact Vector.getElem_map ..
      rw [State.linePos, counter, Counter.restarted_pos]
    have content (w : WebId) : (c.bridge w).content = 0 := by
      have bridge : c.bridge w = { s.bridge w with content := 0, entries := [], shortfall := 0 } := by
        unfold State.bridge
        rw [map]
        exact Vector.getElem_map ..
      rw [bridge]
    unfold State.gluePoint
    split
    · rw [line, content]
    · exact line

theorem State.Cleared.ownedBy_of (o : OutputId) : c.ownedBy o = s.ownedBy o := by
  obtain ⟨zones, glues, -⟩ := s.leftPark_settings
  have bnd := cleared.bnd_of lsv
  refine State.ownedBy_congr (fun n => ?_) (fun k => ?_) (by rw [cleared.lcu_of lsv]; rfl) (cleared.dst_of lsv) o
  · rw [← zones n]
    unfold State.zone
    rw [bnd]
  · rw [← glues k]
    unfold State.glue
    rw [bnd]

end

theorem State.restartPart_eq (s : State) : s.restartPart = s.restartLsv.cleared.restartBnd.restartDst := rfl

/-- A valid reading within the tolerance of the target. -/
theorem GlueStation.holdsGap_iff (g : GlueStation) :
    g.holdsGap = true ↔ ∃ v, g.latest = .valid v ∧ v ≤ g.target + g.rules.tolerance ∧ g.target ≤ v + g.rules.tolerance := by
  unfold GlueStation.holdsGap
  cases g.latest <;> simp [inTolerance]

/-- Restart as it leaves the part, block by block. -/
theorem State.restart_blocks {s u : State} (standing : s.lsv.line.monitored = false) (restarted : s.restartPart = u) :
    ∃ a c, s.LsvRestarted a ∧ a.Cleared c ∧ c.BondsRestarted u := by
  refine ⟨s.restartLsv, s.restartLsv.cleared, State.restartLsv_spec standing, State.cleared_spec _, ?_⟩
  rw [← restarted, State.restartPart_eq]
  exact State.bonds_restarted ((State.cleared_spec _).clean (State.restartLsv_spec standing))

/-- Settles O49: Restart is the line supervisor's part, six blocks cleared, the stations judged, and the kept faults reported to zones. -/
theorem ackStartAndRestart : Obligations.AckStartAndRestart := by
  unfold Obligations.AckStartAndRestart
  intro s tag serves
  refine ⟨?ack, ?refused, ?restarted⟩
  case ack => exact hostCommand_serves tag 0x09 State.ackStart serves
  case refused =>
    intro running
    refine State.answers_of_refuse serves rfl (reply := s.lineReply) ?_ s.lineReply_head
    unfold State.restart
    rw [if_pos (by simpa [State.lineIn] using running)]
  case restarted =>
    intro standing b
    have monitored : s.lsv.line.monitored = false := by
      simp only [not_or] at standing
      cases h : s.lsv.line <;> simp_all [LineState.monitored]
    have effect : s.restart = (s.restartPart, okReply (natBytes 1 ResetCause.restart.ctorIdx)) := by
      unfold State.restart
      rw [if_neg (by simpa [State.lineIn] using standing)]
    generalize restart : s.restartPart = u at effect
    obtain ⟨a, c, lsv, cleared, bonds⟩ := State.restart_blocks monitored restart
    have clsv := cleared.lsv_of lsv
    have ulsv := bonds.lsv
    rw [clsv] at ulsv
    have cmap := cleared.map_of lsv
    let all : List Block := [.lnk, .lcu, .map, .obk, .spc, .bnd, .dec, .stk, .lsv]
    have same (x : Block) (hx : x ∉ all) : s.sameBlock u x :=
      ((lsv.same x fun mem => hx ((show [Block.map, .bnd, .lsv, .lnk] ⊆ all by simp [all]) mem)).trans
        (cleared.works.same x fun mem => hx ((show [Block.lnk, .lcu, .map, .obk, .spc, .dec, .stk, .lsv] ⊆ all by simp [all]) mem))).trans
        (bonds.works.same x fun mem => hx ((show [Block.lnk, .map, .bnd, .lsv] ⊆ all by simp [all]) mem))
    have kept (x : Block) (hx : x ∉ [Block.lnk, .map, .bnd, .lsv]) : c.sameBlock u x := bonds.works.same x hx
    have before (x : Block) (hx : x ∉ [Block.map, .bnd, .lsv, .lnk]) : s.sameBlock a x := lsv.same x hx
    have uspc : u.spc = { s.spc with stations := s.spc.stations.map SpliceStation.restarted } := by
      rw [show u.spc = c.spc from kept .spc (by simp), cleared.spc, show a.spc = s.spc from before .spc (by simp)]
    have udec : u.dec = { s.dec with
        stations := s.dec.stations.map SlitStation.restartKept
        lanes := s.dec.lanes.map fun l => { CutLane.initial with fire := l.fire }
        queues := Vector.replicate 2 { accepted := [], unjudged := [] } } := by
      rw [show u.dec = c.dec from kept .dec (by simp), cleared.dec, show a.dec = s.dec from before .dec (by simp)]
    have ustk : u.stk =
        { stackers := s.stk.stackers.map Stacker.restarted, gates := Vector.replicate 2 .reject, scrapPieces := 0, scrapLength := 0 } := by
      rw [show u.stk = c.stk from kept .stk (by simp), cleared.stk, show a.stk = s.stk from before .stk (by simp)]
    have ulcu : u.lcu = s.restartLcu.lcu := Eq.trans (kept .lcu (by simp)) (cleared.lcu_of lsv)
    refine ⟨u, ?reply, ?line, ?holds, fun i => ?counters, ⟨?lcu, fun j => ?eyes⟩, ⟨bonds.emptied.marks, bonds.emptied.ra,
      bonds.emptied.lostMarks, bonds.emptied.lost⟩, fun k => ?bridges, ?obk, ⟨?spc, fun i => ?splice⟩,
      fun n => ⟨?output, ?zone⟩, fun k => ?glue, ?bnd, fun i => ?slit, fun j => ?lane, ?dec, fun j => ?stacker, ?scrap, ?noticed, ?keeps⟩
    case reply =>
      change hostCommand tag 0x0A State.restart s = _
      rw [hostCommand_serves _ _ _ serves, effect]
      rfl
    case line =>
      have entry : u.bridgeEntryOk :=
        State.bridgeEntryOk_congr (congrArg Lcu.walls (kept .lcu (by simp))) bonds.bridges (by rw [bonds.lsv]) cleared.entry
      refine ⟨?_, ?_, ?_, ?_, ?_, ?_, ?_, entry, ?_, ?_, ?_⟩ <;> rw [ulsv]
      rfl
    case holds =>
      have record : c.holdRecord = true ↔ ∃ i : InputId, (s.input i).latched = true ∧ (s.input i).action = .hold := by
        unfold State.input
        rw [← cleared.dst_of lsv]
        exact State.holdRecord_iff
      rw [ulsv]
      exact ⟨rfl, record⟩
    case counters =>
      unfold State.counter
      rw [ulcu]
      exact Vector.getElem_map ..
    case lcu => rw [ulcu]; rfl
    case eyes =>
      rw [ulcu]
      exact Vector.getElem_map ..
    case bridges =>
      unfold State.bridge
      rw [bonds.bridges, cmap]
      exact Vector.getElem_map ..
    case obk =>
      have obk : a.obk = s.obk := before .obk (by simp)
      exact Eq.trans (kept .obk (by simp)) (by rw [cleared.obk, obk])
    case spc => rw [uspc]
    case splice =>
      unfold State.splice
      rw [uspc]
      exact Vector.getElem_map ..
    case output =>
      rw [bonds.output n]
      exact exists_congr fun o => by rw [cleared.ownedBy_of lsv, State.faulted_congr (cleared.dst_of lsv)]
    case zone =>
      have zone : c.zone n = b.zone n := by
        unfold State.zone
        rw [cleared.bnd_of lsv]
        rfl
      rw [bonds.zone n, zone]
      rfl
    case glue =>
      intro g x fits
      have glue : c.glue k = g := by
        unfold State.glue
        rw [cleared.bnd_of lsv]
        rfl
      have use : c.glueInUse k = s.glueInUse k := by
        unfold State.glueInUse State.walls
        rw [cleared.lcu_of lsv]
        rfl
      have free (d : GlueSettings) : c.pairFree d = (!s.faulted d.outA && !s.faulted d.outB) := by
        unfold State.pairFree
        rw [State.faulted_congr (cleared.dst_of lsv), State.faulted_congr (cleared.dst_of lsv)]
      have idle := bonds.idle k
      rw [glue, use] at idle
      refine ⟨fun h _ => idle h, fun d set used => ?_⟩
      have judged := bonds.glue k d (by rw [glue, set]) (by rw [use, used])
      have told := bonds.told k d (by rw [glue, set]) (by rw [use, used])
      have point : c.bndCleared.gluePoint k = 0 := by
        obtain ⟨lcu, map, -⟩ := c.bndCleared_sameWorks
        exact (State.gluePoint_congr lcu (by rw [map]) k).trans ((cleared.clean lsv).emptied.points k)
      have pair : c.bndCleared.pairFree d = c.pairFree d := by
        obtain ⟨-, -, dst⟩ := c.bndCleared_sameWorks
        unfold State.pairFree
        rw [State.faulted_congr dst, State.faulted_congr dst]
      rw [State.rejudgedSet, pair, free, State.bndCleared_glue, glue, point] at judged
      rw [free] at told
      refine ⟨fun faulted => ?_, fun soundA soundB => ⟨fun fit => ?_, fun unfit => ?_⟩⟩
      · have faulted' : (!s.faulted d.outA && !s.faulted d.outB) = false := by
          rcases faulted with h | h <;> simp [h]
        obtain ⟨noticed, stored⟩ := told faulted'
        rw [faulted'] at judged
        exact ⟨judged, stored, noticed⟩
      · rw [soundA, soundB] at judged
        refine judged.trans ((if_neg (by decide)).trans (if_pos ?_))
        exact g.restarted.holdsGap_iff.mpr fit
      · rw [soundA, soundB] at judged
        refine judged.trans ((if_neg (by decide)).trans (if_neg ?_))
        exact mt g.restarted.holdsGap_iff.mp unfit
    case bnd =>
      obtain ⟨-, -, left⟩ := s.leftPark_settings
      rw [bonds.bnd, cleared.bnd_of lsv, left]
    case slit =>
      unfold State.slit
      rw [udec]
      exact Vector.getElem_map ..
    case lane =>
      unfold State.lane State.queue
      rw [udec]
      exact ⟨Vector.getElem_map .., Vector.getElem_replicate ..⟩
    case dec => rw [udec]
    case stacker =>
      unfold State.stacker
      rw [ustk]
      exact ⟨Vector.getElem_map .., Vector.getElem_replicate ..⟩
    case scrap =>
      rw [ustk]
      exact ⟨rfl, rfl⟩
    case noticed =>
      obtain ⟨e, mem, kind, subject⟩ := bonds.works.notices _ _ _ (cleared.works.notices _ _ _ lsv.noticed)
      exact ⟨e, mem, kind, subject⟩
    case keeps =>
      refine ⟨fun x hx => same x hx, fun _ => ?_, ?_, ?_, ?_⟩
      · exact Eq.trans bonds.works.link (by rw [cleared.works.link, lsv.link])
      · exact bonds.works.held.trans (cleared.works.held.trans lsv.held)
      · exact bonds.works.fresh.trans (cleared.works.fresh.trans lsv.fresh)
      · exact bonds.works.pending.trans (cleared.works.pending.trans lsv.pending)

end Sys2Proof.Machine
end

section
/-! PROOF. Joints and the splice stations along the web (R10, R66 to R74): what the line's announcements, the hold causes and the stop
causes leave of a station, where a joint goes, a station's tests, and a capture event. -/

namespace Sys2Proof.Machine

/-! ### The SPLICE entry (R70) -/

theorem State.spliceEntryOk_iff {s : State} :
    s.spliceEntryOk ↔ IsLeastClaim s.lsv.ceiling.splice fun (i : SpliceId) v => (s.splice i).spliceClaim = some v := by
  unfold State.spliceEntryOk
  simp only [SpliceStation.spliceClaim_eq_some]

theorem State.spliceEntryOk.congr {s t : State} (h : s.spliceEntryOk) (entry : t.lsv.ceiling.splice = s.lsv.ceiling.splice)
    (claims : ∀ i, (t.splice i).spliceClaim = (s.splice i).spliceClaim) : t.spliceEntryOk := by
  rw [State.spliceEntryOk_iff] at h ⊢
  simp only [entry, claims]
  exact h

theorem State.onSplice_entryOk {s : State} (i : SpliceId) {f : SpliceStation → SpliceStation}
    (claim : (f (s.splice i)).spliceClaim = (s.splice i).spliceClaim) (h : s.spliceEntryOk) : (s.onSplice i f).spliceEntryOk := by
  refine h.congr rfl fun j => ?_
  by_cases same : j = i
  · rw [same, State.onSplice_self, claim]
  · rw [s.onSplice_ne i f same]

theorem State.raise_entryOk {s : State} (k : NoticeKind) (x : Subject) (d : List Byte) (h : s.spliceEntryOk) :
    (s.raise k x d).spliceEntryOk := h.congr rfl fun _ => rfl

theorem State.abortSplice_entryOk {s : State} (i : SpliceId) (h : s.spliceEntryOk) : (s.abortSplice i).spliceEntryOk := by
  unfold State.abortSplice
  dsimp only
  split
  · exact State.raise_entryOk _ _ _ (State.evalSplice_entryOk _)
  · exact h

/-! ### A station under a change of the line state (R69, R77) -/

theorem State.entered_splice (s : State) (new : LineState) (i : SpliceId) : (s.entered new).splice i = s.splice i := s.enterLine_splice new i

theorem State.entered_lcu (s : State) (new : LineState) : (s.entered new).lcu = s.lcu := (s.enterLine_touches new).same .lcu (by simp)

/-- What a change of the line state leaves of the stations and their channels is what its announcement to them leaves. -/
theorem State.changeLine_announced (s : State) (new : LineState) :
    (s.changeLine new).spc = ((s.entered new).announceSplice new).spc ∧ (s.changeLine new).lcu = ((s.entered new).announceSplice new).lcu ∧
      (s.changeLine new).lsv = ((s.entered new).announceSplice new).lsv := by
  have told := State.announceBond_within ((s.entered new).announceSplice new) s.lsv.line new
  exact ⟨told.same .spc (by simp), told.same .lcu (by simp), told.same .lsv (by simp)⟩

theorem State.changeLine_entryOk {s : State} (new : LineState) (h : s.spliceEntryOk) : (s.changeLine new).spliceEntryOk := by
  obtain ⟨spc, -, lsv⟩ := s.changeLine_announced new
  have entered : (s.entered new).spliceEntryOk :=
    h.congr (by rw [State.entered_lsv]) fun i => by rw [State.entered_splice]
  have announced : ((s.entered new).announceSplice new).spliceEntryOk := by
    unfold State.announceSplice
    split
    case h_1 | h_2 => exact State.forAll_keeps (fun _ i => State.armTest_entryOk i) entered
    case h_3 | h_4 => exact State.forAll_keeps (fun _ i => State.abortSplice_entryOk i) entered
    all_goals exact entered
  exact announced.congr (by rw [lsv]) fun i => by unfold State.splice; rw [spc]

/-- A station whose match the line's stopping ends (R77). -/
def SpliceStation.stopped (x : SpliceStation) : SpliceStation :=
  if x.phase = .matching ∨ x.phase = .matched then { x with phase := .standby, accelerate := false, force := false } else x

theorem SpliceStation.stopped_of_matching {x : SpliceStation} (h : x.phase = .matching) :
    x.stopped = { x with phase := .standby, accelerate := false, force := false } := if_pos (.inl h)

theorem SpliceStation.stopped_of_rest {x : SpliceStation} (h : x.phase ≠ .matching ∧ x.phase ≠ .matched) : x.stopped = x :=
  if_neg fun p => p.elim h.1 h.2

theorem SpliceStation.stopped_activeReel (x : SpliceStation) : x.stopped.activeReel = x.activeReel := by
  unfold SpliceStation.stopped
  split <;> rfl

theorem State.changeLine_stops_splice (s : State) {new : LineState} (h : new = .stopping ∨ new = .halted) (i : SpliceId) :
    (s.changeLine new).splice i = (s.splice i).stopped := by
  obtain ⟨spc, -, -⟩ := s.changeLine_announced new
  have aborts (t : State) : t.announceSplice new = t.forAll 7 State.abortSplice := by rcases h with rfl | rfl <;> rfl
  have there : (s.changeLine new).splice i = ((s.entered new).forAll 7 State.abortSplice).splice i := by
    unfold State.splice
    rw [spc, aborts]
  rw [there, State.abortAll_splice, State.entered_splice]
  rfl

/-- A station that does not stand by takes nothing of the line's running. -/
theorem State.changeLine_runs_splice (s : State) {new : LineState} (h : new = .run ∨ new = .hold) {i : SpliceId}
    (rests : (s.splice i).phase ≠ .standby) :
    (s.changeLine new).splice i = s.splice i ∧ (s.changeLine new).lcu.joints[i] = s.lcu.joints[i] := by
  obtain ⟨spc, lcu, -⟩ := s.changeLine_announced new
  have arms : (s.entered new).announceSplice new = (s.entered new).armAll := by rcases h with rfl | rfl <;> rfl
  have still : (s.entered new).SameStation i (s.entered new).armAll := State.armAll_rests fun g r terms => rests (by
    rw [← s.entered_splice new]
    exact terms.2.1)
  rw [lcu, arms, still.joint, s.entered_lcu]
  refine ⟨?_, rfl⟩
  rw [← s.entered_splice new, ← still.splice]
  unfold State.splice
  rw [spc, arms]

/-! ### A station under hold causes and stop causes (R152, R153) -/

/-- A change of the hold-cause set announces the set, moves the line between RUN and HOLD, or goes unannounced. -/
theorem State.holdsChanged_cases (s : State) (h : HoldSet) :
    let s1 : State := { s with lsv := { s.lsv with holds := h } }
    s.holdsChanged h = s1 ∨ s.holdsChanged h = s1.raiseLine s.lsv.line ∨
      ∃ new, (new = .run ∨ new = .hold) ∧ s.holdsChanged h = s1.changeLine new := by
  unfold State.holdsChanged
  dsimp only
  split
  case h_1 line =>
    split
    · exact .inr (.inl (by rw [line]))
    · exact .inr (.inr ⟨_, .inr rfl, rfl⟩)
  case h_2 line =>
    split
    · exact .inr (.inr ⟨_, .inl rfl, rfl⟩)
    · exact .inr (.inl (by rw [line]))
  all_goals exact .inl rfl

theorem State.addHold_entryOk {s : State} (c : HoldCause) (h : s.spliceEntryOk) : (s.addHold c).spliceEntryOk := by
  unfold State.addHold
  split
  · exact h
  · have put : State.spliceEntryOk { s with lsv := { s.lsv with holds := s.lsv.holds.put c true } } := h.congr rfl fun _ => rfl
    rcases s.holdsChanged_cases (s.lsv.holds.put c true) with e | e | ⟨new, -, e⟩ <;> rw [e]
    · exact put
    · exact State.raise_entryOk _ _ _ put
    · exact State.changeLine_entryOk new put

theorem State.addHold_splice (s : State) (c : HoldCause) {i : SpliceId} (rests : (s.splice i).phase ≠ .standby) :
    (s.addHold c).splice i = s.splice i ∧ (s.addHold c).lcu.joints[i] = s.lcu.joints[i] := by
  unfold State.addHold
  split
  · exact ⟨rfl, rfl⟩
  · rcases s.holdsChanged_cases (s.lsv.holds.put c true) with e | e | ⟨new, runs, e⟩ <;> rw [e]
    · exact ⟨rfl, rfl⟩
    · exact ⟨rfl, rfl⟩
    · exact State.changeLine_runs_splice _ runs rests

/-- A stop cause is recorded; it stops the line, always from RUN and HOLD, or is announced. -/
theorem State.stopCause_cases (s : State) (c : StopCause) (d : Option Subject) :
    ∃ r, (∃ new, (new = .stopping ∨ new = .halted) ∧ s.stopCause c d = (s.setRecord r).changeLine new) ∨
      (s.lsv.line ≠ .run ∧ s.lsv.line ≠ .hold ∧ s.stopCause c d = (s.setRecord r).raiseLine s.lsv.line) := by
  unfold State.stopCause
  split
  case h_1 | h_2 => exact ⟨_, .inl ⟨_, by split <;> simp, rfl⟩⟩
  case h_3 line =>
    dsimp only
    split
    · exact ⟨_, .inl ⟨_, .inr rfl, rfl⟩⟩
    · split
      · exact ⟨_, .inr ⟨by simp [line], by simp [line], by rw [line]⟩⟩
      · exact ⟨_, .inr ⟨by simp [line], by simp [line], by rw [line]⟩⟩
  case h_4 | h_5 => exact ⟨_, .inl ⟨_, .inr rfl, rfl⟩⟩
  case h_6 line | h_7 line => exact ⟨_, .inr ⟨by simp [line], by simp [line], by rw [line]⟩⟩

theorem State.setRecord_entryOk {s : State} (r : StopRecord) (h : s.spliceEntryOk) : (s.setRecord r).spliceEntryOk := h.congr rfl fun _ => rfl

theorem State.stopCause_entryOk {s : State} (c : StopCause) (d : Option Subject) (h : s.spliceEntryOk) : (s.stopCause c d).spliceEntryOk := by
  obtain ⟨r, ⟨new, -, e⟩ | ⟨-, -, e⟩⟩ := s.stopCause_cases c d <;> rw [e]
  · exact State.changeLine_entryOk new (State.setRecord_entryOk r h)
  · exact State.raise_entryOk _ _ _ (State.setRecord_entryOk r h)

/-- A stop cause stops a station or leaves it; in RUN and HOLD it stops it. -/
theorem State.stopCause_splice (s : State) (c : StopCause) (d : Option Subject) (i : SpliceId) :
    (s.stopCause c d).splice i = (s.splice i).stopped ∨
      (s.lsv.line ≠ .run ∧ s.lsv.line ≠ .hold ∧ (s.stopCause c d).splice i = s.splice i) := by
  obtain ⟨r, ⟨new, stops, e⟩ | ⟨run, hold, e⟩⟩ := s.stopCause_cases c d <;> rw [e]
  · exact .inl (State.changeLine_stops_splice _ stops i)
  · exact .inr ⟨run, hold, rfl⟩

theorem State.stopCause_splice_of_runs {s : State} (c : StopCause) (d : Option Subject) {i : SpliceId} (runs : s.lsv.line = .run ∨ s.lsv.line = .hold) :
    (s.stopCause c d).splice i = (s.splice i).stopped := by
  rcases s.stopCause_splice c d i with e | ⟨run, hold, -⟩
  · exact e
  · exact (runs.elim run hold).elim

theorem State.stopCause_splice_of_rest {s : State} (c : StopCause) (d : Option Subject) {i : SpliceId}
    (rests : (s.splice i).phase ≠ .matching ∧ (s.splice i).phase ≠ .matched) : (s.stopCause c d).splice i = s.splice i := by
  rcases s.stopCause_splice c d i with e | ⟨-, -, e⟩
  · rw [e, SpliceStation.stopped_of_rest rests]
  · exact e

theorem State.stopCause_activeReel (s : State) (c : StopCause) (d : Option Subject) (i : SpliceId) :
    ((s.stopCause c d).splice i).activeReel = (s.splice i).activeReel := by
  rcases s.stopCause_splice c d i with e | ⟨-, -, e⟩ <;> rw [e]
  exact SpliceStation.stopped_activeReel _

/-! ### Where a mark and a joint go (R21, R29, R30) -/

/-- A mark that does not come late is stored, held back or lost (R21). -/
def State.takeInMark (s : State) (m : Mark) : State × InsertAnswer :=
  if s.map.marks.length < Config.mapCapacity then (s.setMarks (insertSorted m s.map.marks), .stored)
  else if m.isChange then (s, .full)
  else (s.loseMark m, .lost)

/-- A mark whose end has passed the last station comes late. -/
def State.lateMark (s : State) (m : Mark) (e : Nat) : State × InsertAnswer :=
  ((s.countLostMark).raise .markLate ⟨.map, 0⟩
    (natBytes 1 m.body.kindCode ++ natBytes 2 m.body.source ++ natBytes 6 m.start ++ natBytes 6 e), .late)

theorem State.insertMark_open (s : State) {m : Mark} (h : m.finish = none) : s.insertMark m = s.takeInMark m := by
  unfold State.insertMark
  rw [h]
  rfl

theorem State.insertMark_late (s : State) {m : Mark} {e : Nat} (h : m.finish = some e) (late : e + s.dLast ≤ s.linePos) :
    s.insertMark m = s.lateMark m e := by
  unfold State.insertMark
  rw [h]
  exact if_pos late

theorem State.insertMark_ahead (s : State) {m : Mark} {e : Nat} (h : m.finish = some e) (ahead : s.linePos < e + s.dLast) :
    s.insertMark m = s.takeInMark m := by
  unfold State.insertMark
  rw [h]
  exact if_neg ahead.not_ge

theorem State.lowerRa_congr {s t : State} (map : t.map = s.map) (p : Nat) : (t.lowerRa p).map = (s.lowerRa p).map := by
  unfold State.lowerRa
  rw [map]
  split
  · split <;> simp [map]
  · rfl

theorem State.countLostMark_congr {s t : State} (map : t.map = s.map) : t.countLostMark.map = s.countLostMark.map := by
  unfold State.countLostMark
  rw [map]

theorem State.setLostSpan_congr {s t : State} (map : t.map = s.map) (x : BondSource) (b : Bool) :
    (t.setLostSpan x b).map = (s.setLostSpan x b).map := by
  cases x <;> simp only [State.setLostSpan, map]

theorem State.loseMark_congr {s t : State} (map : t.map = s.map) (m : Mark) : (t.loseMark m).map = (s.loseMark m).map := by
  have counted := State.countLostMark_congr (State.lowerRa_congr map m.start)
  unfold State.loseMark
  dsimp only
  split
  · next x _ =>
    split
    · exact State.setLostSpan_congr (by simp only [State.raise_map, counted]) x true
    · exact counted
  · exact counted

theorem State.takeInMark_congr {s t : State} (map : t.map = s.map) (m : Mark) :
    (t.takeInMark m).1.map = (s.takeInMark m).1.map ∧ (t.takeInMark m).2 = (s.takeInMark m).2 := by
  unfold State.takeInMark
  rw [map]
  split
  · exact ⟨by simp only [State.setMarks, map], rfl⟩
  · split
    · exact ⟨map, rfl⟩
    · exact ⟨State.loseMark_congr map m, rfl⟩

/-- An insertion request looks at the map, the LINE position and the last station. -/
theorem State.insertMark_congr {s t : State} (map : t.map = s.map) (line : t.linePos = s.linePos) (last : t.dLast = s.dLast) (m : Mark) :
    (t.insertMark m).1.map = (s.insertMark m).1.map ∧ (t.insertMark m).2 = (s.insertMark m).2 := by
  rcases finish : m.finish with _ | e
  · rw [t.insertMark_open finish, s.insertMark_open finish]
    exact State.takeInMark_congr map m
  · by_cases late : e + s.dLast ≤ s.linePos
    · rw [t.insertMark_late finish (by rwa [last, line]), s.insertMark_late finish late]
      exact ⟨State.countLostMark_congr map, rfl⟩
    · rw [t.insertMark_ahead finish (by rw [last, line]; exact not_le.mp late), s.insertMark_ahead finish (not_le.mp late)]
      exact State.takeInMark_congr map m

theorem insertEntry_placed (b : BridgeEntry) (l : List BridgeEntry) : PlacedIn (·.e) b l (insertEntry b l) := by
  induction l with
  | nil => exact ⟨[], [], rfl, by simp, by simp, rfl⟩
  | cons x xs ih =>
    by_cases before : b.e < x.e
    · exact ⟨[], x :: xs, rfl, by simp, by simpa using before, if_pos before⟩
    · obtain ⟨pre, post, old, le, lt, new⟩ := ih
      refine ⟨x :: pre, post, by rw [old, List.cons_append], ?_, lt, ?_⟩
      · rintro y (_ | ⟨_, mem⟩)
        · exact not_lt.mp before
        · exact le y mem
      · rw [List.cons_append, ← new]
        exact if_neg before

/-- The web that a station feeds is the half of its number; S7 feeds none. -/
theorem spliceWeb_of_val {i : SpliceId} {k : WebId} (h : i.val = 2 * k.val ∨ i.val = 2 * k.val + 1) : spliceWeb i = some k := by
  revert i k
  decide

theorem State.placeJoint_liner (s : State) (pos before after : Nat) (suspect : Bool) :
    s.placeJoint 6 pos before after suspect =
      (s.insertMark { start := pos - before, finish := some (pos + after), body := .joint 6 suspect }).1 := rfl

theorem State.placeJoint_web (s : State) {i : SpliceId} {k : WebId} (web : spliceWeb i = some k) (pos before after : Nat) (suspect : Bool) :
    s.placeJoint i pos before after suspect =
      s.bridgeJoint k { e := pos, before := before, after := after, station := i, suspect := suspect } := by
  unfold State.placeJoint
  rw [web]

theorem State.bridgeJoint_due {s : State} {k : WebId} {b : BridgeEntry} (due : b.e ≤ s.mergeCoord k) :
    s.bridgeJoint k b = (s.transferEntry (s.mergeCoord k) b).1 := if_pos due

theorem State.bridgeJoint_room {s : State} {k : WebId} {b : BridgeEntry} (ahead : s.mergeCoord k < b.e)
    (room : (s.bridge k).entries.length < Config.bridgeCapacity) :
    s.bridgeJoint k b = s.onBridge k fun g => { g with entries := insertEntry b g.entries } :=
  (if_neg ahead.not_ge).trans (if_pos room)

/-- The state that lost a joint: RA stands in for it at the LINE position (R29). -/
def State.jointLost (s : State) : State := (s.lowerRa s.linePos).countLostMark

theorem State.bridgeJoint_full {s : State} {k : WebId} {b : BridgeEntry} (ahead : s.mergeCoord k < b.e)
    (full : Config.bridgeCapacity ≤ (s.bridge k).entries.length) :
    s.bridgeJoint k b =
      s.jointLost.raise .mapFull ⟨.bridge, k.val + 1⟩ (natBytes 1 (b.station.val + 1) ++ natBytes 6 b.e ++ optBytes 6 s.jointLost.map.ra) :=
  (if_neg ahead.not_ge).trans (if_neg full.not_gt)

theorem State.lowerRa_ra (s : State) (p : Nat) : (s.lowerRa p).map.ra = some (s.map.ra.elim p (min · p)) := by
  unfold State.lowerRa
  rcases ra : s.map.ra with _ | r
  · rfl
  · dsimp only
    split
    · next below => exact congrArg some (min_eq_right below.le).symm
    · next above =>
      rw [ra]
      exact congrArg some (min_eq_left (not_lt.mp above)).symm

theorem State.lowerRa_rest (s : State) (p : Nat) : (s.lowerRa p).map.marks = s.map.marks ∧ (s.lowerRa p).map.lostMarks = s.map.lostMarks := by
  unfold State.lowerRa
  split
  · split <;> exact ⟨rfl, rfl⟩
  · exact ⟨rfl, rfl⟩

/-- Where a joint goes is a matter of the map, the counters and the geometry. -/
theorem State.placeJoint_congr {s t : State} (map : t.map = s.map) (counters : t.lcu.counters = s.lcu.counters)
    (geometry : t.lcu.geometry = s.lcu.geometry) (i : SpliceId) (pos before after : Nat) (suspect : Bool) :
    (t.placeJoint i pos before after suspect).map = (s.placeJoint i pos before after suspect).map := by
  have line : t.linePos = s.linePos := by unfold State.linePos State.counter; rw [counters]
  have last : t.dLast = s.dLast := by unfold State.dLast; rw [geometry]
  unfold State.placeJoint
  split
  · next k _ =>
    have merge : t.mergeCoord k = s.mergeCoord k := by
      unfold State.mergeCoord State.webPos State.counter State.bridge
      rw [counters, map]
    have entries : t.bridge k = s.bridge k := by
      unfold State.bridge
      rw [map]
    unfold State.bridgeJoint
    rw [merge, entries]
    split
    · unfold State.transferEntry
      rw [line]
      exact (State.insertMark_congr map line last _).1
    · split
      · simp only [State.onBridge, map]
      · dsimp only [State.raise_map]
        rw [line]
        exact State.countLostMark_congr (State.lowerRa_congr map _)
  · exact (State.insertMark_congr map line last _).1

/-- The third part of O11. -/
theorem State.placeJoint_spec (s : State) (i : SpliceId) (pos before after : Nat) (suspect : Bool) {k : WebId}
    (h : i.val = 2 * k.val ∨ i.val = 2 * k.val + 1) :
    let t := s.placeJoint i pos before after suspect
    let b := s.bridge k
    let x := s.webPos k - b.content
    (pos ≤ x →
      t = (s.insertMark
        { start := s.linePos + pos - (x + before), finish := some (s.linePos + pos + after - x), body := .joint i suspect }).1) ∧
    (x < pos → b.entries.length < 32 →
      (t.bridge k).content = b.content ∧ (t.bridge k).shortfall = b.shortfall ∧
      PlacedIn (·.e) { e := pos, before := before, after := after, station := i, suspect := suspect } b.entries
        (t.bridge k).entries ∧
      (∀ j : WebId, j ≠ k → t.bridge j = s.bridge j) ∧ t.map = { s.map with bridges := t.map.bridges } ∧ s.keepsBut t [.map]) ∧
    (x < pos → 32 ≤ b.entries.length →
      t.map.bridges = s.map.bridges ∧ t.map.marks = s.map.marks ∧ t.map.lostMarks = min (s.map.lostMarks + 1) 65535 ∧
      t.map.ra = some (match s.map.ra with
        | some r => min r s.linePos
        | none => s.linePos) ∧
      t.noticed .mapFull .bridge (k.val + 1) ∧ s.keepsBut t [.map]) := by
  have keeps := (s.placeJoint_within i pos before after suspect).keepsBut
  rw [s.placeJoint_web (spliceWeb_of_val h)] at keeps ⊢
  refine ⟨fun due => ?_, fun ahead room => ?_, fun ahead full => ?_⟩
  · exact State.bridgeJoint_due (b := ⟨pos, before, after, i, suspect⟩) due
  · rw [State.bridgeJoint_room (b := ⟨pos, before, after, i, suspect⟩) ahead room] at keeps ⊢
    rw [s.onBridge_self]
    exact ⟨rfl, rfl, insertEntry_placed _ _, fun j other => s.onBridge_ne k _ other, rfl, keeps⟩
  · rw [State.bridgeJoint_full (b := ⟨pos, before, after, i, suspect⟩) ahead full] at keeps ⊢
    obtain ⟨marks, lost⟩ := s.lowerRa_rest s.linePos
    refine ⟨s.lowerRa_bridges _, marks, ?_, (s.lowerRa_ra _).trans (by cases s.map.ra <;> rfl), ?_, keeps⟩
    · exact congrArg (countUp 65535) lost
    · obtain ⟨e, mem, kind, subject, -⟩ := s.jointLost.raise_noticedWith .mapFull .bridge (k.val + 1) _
      exact ⟨e, mem, kind, subject⟩

/-! ### Notices that a piece of work leaves pending (R169) -/

/-- Work that raises notices of these kinds alone: every other pending notice stays as it is. -/
structure State.Raises (ks : List NoticeKind) (s t : State) : Prop where
  mem : ∀ e ∈ s.lnk.notices, e.kind ∉ ks → e ∈ t.lnk.notices

theorem State.Raises.of_lnk {ks : List NoticeKind} {s t : State} (h : t.lnk.notices = s.lnk.notices) : s.Raises ks t where
  mem e mem _ := by rwa [h]

theorem State.Raises.refl (ks : List NoticeKind) (s : State) : s.Raises ks s := .of_lnk rfl

theorem State.Raises.trans {ks : List NoticeKind} {s t u : State} (h : s.Raises ks t) (h' : t.Raises ks u) : s.Raises ks u where
  mem e mem kind := h'.mem e (h.mem e mem kind) kind

/-- Work that raises follows work that does not. -/
theorem State.Raises.after {ks : List NoticeKind} {s t u : State} (h : t.Raises ks u) (lnk : t.lnk = s.lnk) : s.Raises ks u :=
  State.Raises.trans (.of_lnk (by rw [lnk])) h

theorem State.Raises.noticedWith {ks : List NoticeKind} {s t : State} (h : s.Raises ks t) {k : NoticeKind} {x : SubjectType} {n : Nat}
    {d : List Byte} (noticed : s.noticedWith k x n d) (kind : k ∉ ks) : t.noticedWith k x n d := by
  obtain ⟨e, mem, rfl, subject, detail⟩ := noticed
  exact ⟨e, h.mem e mem kind, rfl, subject, detail⟩

theorem mem_raiseIn_of_kind_ne {k : NoticeKind} {x : Subject} {d : List Byte} {e : NoticeEntry} {es : List NoticeEntry} (mem : e ∈ es)
    (kind : e.kind ≠ k) : e ∈ raiseIn k x d es := by
  induction es with
  | nil => cases mem
  | cons f fs ih =>
    unfold raiseIn
    split
    · next same =>
      rcases List.mem_cons.mp mem with rfl | mem
      · exact absurd same.1 kind
      · exact List.mem_cons_of_mem _ mem
    · rcases List.mem_cons.mp mem with rfl | mem
      · exact List.mem_cons_self
      · exact List.mem_cons_of_mem _ (ih mem)

theorem State.raise_raises {ks : List NoticeKind} (s : State) {k : NoticeKind} (x : Subject) (d : List Byte) (kind : k ∈ ks) :
    s.Raises ks (s.raise k x d) where
  mem _ mem apart := mem_raiseIn_of_kind_ne mem fun same => apart (same ▸ kind)

/-- What the line's announcements raise. -/
def lineKinds : List NoticeKind := [.speedLimit, .lineState, .spliceAborted]

theorem State.setCeiling_raises (s : State) (c : Ceiling) : s.Raises lineKinds (s.setCeiling c) := by
  unfold State.setCeiling
  dsimp only
  split
  · exact .of_lnk rfl
  · exact (State.raise_raises _ (k := .speedLimit) _ _ (by simp [lineKinds])).after rfl

theorem State.setEntry_raises (s : State) (e : Entry) (v : Option Nat) : s.Raises lineKinds (s.setEntry e v) := s.setCeiling_raises _

theorem State.enterSplice_raises (s : State) (i : SpliceId) (p : SplicePhase) : s.Raises lineKinds (s.enterSplice i p) :=
  (State.setEntry_raises _ .splice _).after (t := s.onSplice i fun t => { t with phase := p }) rfl

theorem State.fire_raises (s : State) (i : SpliceId) : s.Raises lineKinds (s.fire i) := by
  have armed (t : State) : (t.armChannel i).lnk = t.lnk := by
    unfold State.armChannel
    split <;> rfl
  exact (State.enterSplice_raises _ i .confirming).after (armed _)

theorem State.fireTest_raises (s : State) (i : SpliceId) : s.Raises lineKinds (s.fireTest i) := by
  unfold State.fireTest
  split
  · exact s.fire_raises i
  · exact .refl _ s

theorem State.armTest_raises (s : State) (i : SpliceId) : s.Raises lineKinds (s.armTest i) := by
  have matching : s.Raises lineKinds (s.matching i) :=
    (State.enterSplice_raises _ i .matching).after (t := s.onSplice i fun x => { x with accelerate := true, force := false }) rfl
  unfold State.armTest State.enterMatching
  dsimp only
  split
  · split
    · exact (matching.trans (State.enterSplice_raises _ i .matched)).trans (State.fireTest_raises _ i)
    · exact matching
  · exact .refl _ s

theorem State.abortSplice_raises (s : State) (i : SpliceId) : s.Raises lineKinds (s.abortSplice i) := by
  unfold State.abortSplice
  dsimp only
  split
  · refine State.Raises.trans ?_ (State.raise_raises _ (ks := lineKinds) (k := .spliceAborted) _ _ (by simp [lineKinds]))
    exact (State.enterSplice_raises _ i .standby).after rfl
  · exact .refl _ s

theorem State.forAll_raises {ks : List NoticeKind} {f : State → SpliceId → State} (hf : ∀ (t : State) (i : SpliceId), t.Raises ks (f t i)) (s : State) :
    s.Raises ks (s.forAll 7 f) := State.forAll_keeps (fun t i h => h.trans (hf t i)) (.refl ks s)

theorem State.announceSplice_raises (s : State) (new : LineState) : s.Raises lineKinds (s.announceSplice new) := by
  unfold State.announceSplice
  split
  case h_1 | h_2 => exact State.forAll_raises State.armTest_raises s
  case h_3 | h_4 => exact State.forAll_raises State.abortSplice_raises s
  all_goals exact .refl _ s

theorem State.withRest_lnk (s r : State) : (s.withRest r).lnk = r.lnk := rfl

/-- The bond controller's evaluation tells the host nothing. -/
theorem State.evalBonds_lnk (s : State) : s.evalBonds.lnk = s.lnk :=
  (congrArg State.lnk (s.evalBonds_withRest s rfl)).trans (State.withRest_lnk _ s)

theorem State.changeLine_raises (s : State) (new : LineState) : s.Raises lineKinds (s.changeLine new) := by
  have entered : s.Raises lineKinds (s.entered new) := State.Raises.trans (t := s.putLine new) (.of_lnk rfl) (State.setCeiling_raises ..)
  have bond (t : State) : t.Raises lineKinds (t.announceBond s.lsv.line new) := by
    unfold State.announceBond
    split
    · exact .of_lnk (by rw [State.evalBonds_lnk])
    · exact .refl _ t
  exact ((entered.trans (State.announceSplice_raises _ new)).trans (bond _)).trans (State.raise_raises _ (k := .lineState) _ _ (by simp [lineKinds]))

theorem State.holdsChanged_raises (s : State) (h : HoldSet) : s.Raises lineKinds (s.holdsChanged h) := by
  have put : s.Raises lineKinds { s with lsv := { s.lsv with holds := h } } := .of_lnk rfl
  rcases s.holdsChanged_cases h with e | e | ⟨new, -, e⟩ <;> rw [e]
  · exact put
  · exact put.trans (State.raise_raises _ (k := .lineState) _ _ (by simp [lineKinds]))
  · exact put.trans (State.changeLine_raises _ new)

theorem State.stopCause_raises (s : State) (c : StopCause) (d : Option Subject) : s.Raises lineKinds (s.stopCause c d) := by
  obtain ⟨r, ⟨new, -, e⟩ | ⟨-, -, e⟩⟩ := s.stopCause_cases c d <;> rw [e]
  · exact State.Raises.trans (t := s.setRecord r) (.of_lnk rfl) (State.changeLine_raises _ new)
  · exact State.Raises.trans (t := s.setRecord r) (.of_lnk rfl) (State.raise_raises _ (k := .lineState) _ _ (by simp [lineKinds]))

end Sys2Proof.Machine
end

section
/-! PROOF. The tests of a splice station, its part of an advance and a capture event (R10, R66 to R74). -/

namespace Sys2Proof.Machine

/-! ### The tests of a station -/

theorem State.onSplice_fixed {s : State} {i : SpliceId} {f : SpliceStation → SpliceStation} (h : f (s.splice i) = s.splice i) :
    s.onSplice i f = s := by
  unfold State.splice at h
  unfold State.onSplice modifyAt
  simp only [Fin.getElem_fin] at h
  rw [h, Vector.set_getElem_self]

/-- A station with the advance taken from its reel. -/
def SpliceStation.drawn (x : SpliceStation) (d : Nat) : SpliceStation :=
  { x with activeReel := x.activeReel.map fun r => { r with remaining := r.remaining - d } }

theorem State.takePaper_self (s : State) (i : SpliceId) (d : Nat) : (s.takePaper i d).splice i = (s.splice i).drawn d := s.onSplice_self i _

theorem State.takePaper_ne (s : State) {i j : SpliceId} (d : Nat) (h : j ≠ i) : (s.takePaper i d).splice j = s.splice j := s.onSplice_ne i _ h

theorem SpliceStation.drawn_of_none {x : SpliceStation} (h : x.activeReel = none) (d : Nat) : x.drawn d = x := by
  cases x
  cases h
  rfl

theorem State.takePaper_of_none {s : State} {i : SpliceId} (h : (s.splice i).activeReel = none) (d : Nat) : s.takePaper i d = s :=
  State.onSplice_fixed (SpliceStation.drawn_of_none h d)

theorem State.fireTest_of_phase {s : State} {i : SpliceId} (h : (s.splice i).phase ≠ .matched) : s.fireTest i = s :=
  if_neg (by simp [SpliceStation.firesNow, h])

theorem State.fireTest_of_none {s : State} {i : SpliceId} (h : (s.splice i).activeReel = none) : s.fireTest i = s :=
  if_neg (by simp [SpliceStation.firesNow, h])

theorem State.fireTest_fires {s : State} {i : SpliceId} {r : Reel} {g : SpliceSettings} (phase : (s.splice i).phase = .matched)
    (reel : (s.splice i).activeReel = some r) (set : (s.splice i).settings = some g) (h : (s.splice i).force = true ∨ r.remaining ≤ g.reserve) :
    s.fireTest i = s.fire i := if_pos (by simpa [SpliceStation.firesNow, phase, reel, set] using h)

theorem State.fireTest_waits {s : State} {i : SpliceId} {r : Reel} {g : SpliceSettings} (reel : (s.splice i).activeReel = some r)
    (set : (s.splice i).settings = some g) (force : (s.splice i).force = false) (reserve : g.reserve < r.remaining) : s.fireTest i = s :=
  if_neg (by simp [SpliceStation.firesNow, reel, set, force, reserve])

/-- The confirm window of a station has run out. -/
def State.windowOut (s : State) (i : SpliceId) : Prop :=
  (s.splice i).phase = .confirming ∧ ∃ w, (s.splice i).windowEnd = some w ∧ w ≤ (s.counter (spliceCounter i)).pos

theorem State.windowTest_of_open {s : State} {i : SpliceId} (h : ¬s.windowOut i) : s.windowTest i = s := by
  unfold State.windowTest
  split
  · next w phase stored => exact if_neg fun out => h ⟨phase, w, stored, out⟩
  · rfl

theorem State.windowTest_of_out {s : State} {i : SpliceId} (h : s.windowOut i) : s.windowTest i = s.windowEnds i := by
  obtain ⟨phase, w, stored, out⟩ := h
  unfold State.windowTest
  rw [phase, stored]
  exact if_pos out

theorem State.reelOutTest_of_suspect {s : State} {i : SpliceId} (h : (s.splice i).phase = .suspect) : s.reelOutTest i = s := by
  unfold State.reelOutTest
  split
  · exact if_neg fun out => out.2 h
  · rfl

theorem State.reelOutTest_of_paper {s : State} {i : SpliceId} (h : ∀ r, (s.splice i).activeReel = some r → 0 < r.remaining) :
    s.reelOutTest i = s := by
  unfold State.reelOutTest
  split
  · next r reel => exact if_neg fun out => (h r reel).ne' out.1
  · rfl

/-- The station without its reel, and the stop that its running out asks for. -/
def State.reelStopped (s : State) (i : SpliceId) : State :=
  (s.onSplice i fun x => { x with activeReel := none }).stopCause .reelOut (some (spliceSubject i))

theorem State.reelOutTest_out {s : State} {i : SpliceId} {r : Reel} (reel : (s.splice i).activeReel = some r) (out : r.remaining = 0)
    (phase : (s.splice i).phase ≠ .suspect) :
    s.reelOutTest i = (s.reelStopped i).raise .reelOut (spliceSubject i) (natBytes 4 r.tag) := by
  unfold State.reelOutTest
  rw [reel]
  exact if_pos ⟨out, phase⟩

theorem State.armTest_of_phase {s : State} {i : SpliceId} (h : (s.splice i).phase ≠ .standby) : s.armTest i = s :=
  State.armTest_of_not_arms fun _ _ terms => h terms.2.1

theorem State.armTest_of_none {s : State} {i : SpliceId} (h : (s.splice i).activeReel = none) : s.armTest i = s :=
  State.armTest_of_not_arms fun g r terms => by
    obtain ⟨-, -, -, -, -, reel, -⟩ := terms
    rw [h] at reel
    cases reel

theorem State.reelLowTest_of_phase {s : State} {i : SpliceId} (h : (s.splice i).phase ≠ .idle) : s.reelLowTest i = s := by
  unfold State.reelLowTest
  split
  · next phase _ _ => exact absurd phase h
  · rfl

theorem State.reelLowTest_of_none {s : State} {i : SpliceId} (h : (s.splice i).activeReel = none) : s.reelLowTest i = s := by
  unfold State.reelLowTest
  split
  · next reel _ =>
    rw [h] at reel
    cases reel
  · rfl

/-- A reel is to be reported low. -/
def SpliceSettings.low (g : SpliceSettings) (r : Reel) : Bool :=
  decide (0 < g.reelLow) && decide (r.remaining ≤ g.reelLow) && !r.lowReported

/-- A station whose reel has been looked at for being low. -/
def SpliceStation.lowTested (x : SpliceStation) (g : SpliceSettings) (r : Reel) : SpliceStation :=
  { x with activeReel := some { r with lowReported := r.lowReported || g.low r } }

theorem State.reelLowTest_idle {s : State} {i : SpliceId} {r : Reel} {g : SpliceSettings} (phase : (s.splice i).phase = .idle)
    (reel : (s.splice i).activeReel = some r) (set : (s.splice i).settings = some g) :
    (s.reelLowTest i).splice i = (s.splice i).lowTested g r ∧
      (g.low r = true → (s.reelLowTest i).noticed .reelLow .spliceStation (i.val + 1)) ∧ s.Raises [.reelLow] (s.reelLowTest i) := by
  have test : s.reelLowTest i =
      if 0 < g.reelLow ∧ r.remaining ≤ g.reelLow ∧ r.lowReported = false then
        (s.onSplice i fun t => { t with activeReel := some { r with lowReported := true } }).raise .reelLow (spliceSubject i)
          (natBytes 4 r.tag ++ natBytes 6 r.remaining)
      else s := by
    unfold State.reelLowTest
    rw [phase, reel, set]
  have low : (0 < g.reelLow ∧ r.remaining ≤ g.reelLow ∧ r.lowReported = false) ↔ g.low r = true := by
    simp [SpliceSettings.low, and_assoc]
  rw [test]
  unfold SpliceStation.lowTested
  by_cases is : g.low r = true
  · rw [if_pos (low.mpr is), is, Bool.or_true]
    refine ⟨s.onSplice_self i _, fun _ => ?_, (State.raise_raises _ (k := .reelLow) _ _ (by simp)).after rfl⟩
    obtain ⟨e, mem, kind, subject, -⟩ := State.raise_noticedWith _ .reelLow .spliceStation (i.val + 1) _
    exact ⟨e, mem, kind, subject⟩
  · rw [if_neg (mt low.mp is), Bool.eq_false_of_not_eq_true is, Bool.or_false]
    refine ⟨?_, by simp, .refl _ s⟩
    have same : some { r with lowReported := r.lowReported } = (s.splice i).activeReel := reel.symm
    rw [same]

theorem State.reelLowTest_ne (s : State) {i j : SpliceId} (h : j ≠ i) : (s.reelLowTest i).splice j = s.splice j := by
  unfold State.reelLowTest
  split
  · split
    · exact s.onSplice_ne i _ h
    · rfl
  · rfl

theorem State.reelLowTest_rest (s : State) (i : SpliceId) :
    (s.reelLowTest i).map = s.map ∧ (s.reelLowTest i).lsv = s.lsv ∧ (s.reelLowTest i).lcu = s.lcu :=
  ⟨(s.reelLowTest_within i).same .map (by simp), (s.reelLowTest_within i).same .lsv (by simp), (s.reelLowTest_within i).same .lcu (by simp)⟩


/-- The reel-out test that finds the reel out: the reel is gone, the line is asked to stop and the host is told (R67). -/
theorem State.reelOut_spec {s : State} {i : SpliceId} {r : Reel} (reel : (s.splice i).activeReel = some r) (out : r.remaining = 0)
    (phase : (s.splice i).phase ≠ .suspect) :
    ((s.reelOutTest i).splice i).activeReel = none ∧ (s.reelOutTest i).stopTaken .reelOut .spliceStation (i.val + 1) ∧
      (s.reelOutTest i).noticedWith .reelOut .spliceStation (i.val + 1) (natBytes 4 r.tag) ∧
      ((s.splice i).phase ≠ .matching ∧ (s.splice i).phase ≠ .matched →
        (s.reelOutTest i).splice i = { s.splice i with activeReel := none }) ∧
      (s.lsv.line = .run ∨ s.lsv.line = .hold → (s.reelOutTest i).splice i = { s.splice i with activeReel := none }.stopped) ∧
      (s.spliceEntryOk → (s.reelOutTest i).spliceEntryOk) ∧ s.Raises (.reelOut :: lineKinds) (s.reelOutTest i) := by
  have taken : (s.onSplice i fun x => { x with activeReel := none }).splice i = { s.splice i with activeReel := none } := s.onSplice_self i _
  rw [State.reelOutTest_out reel out phase]
  refine ⟨?_, ?_, State.raise_noticedWith .., fun rests => ?_, fun runs => ?_, fun entry => ?_, ⟨fun e mem apart => ?_⟩⟩
  · exact (State.stopCause_activeReel ..).trans (by rw [taken])
  · exact State.stopCause_stopTaken _ .reelOut .spliceStation (i.val + 1)
  · exact (State.stopCause_splice_of_rest .reelOut _ (by rwa [taken])).trans taken
  · exact (State.stopCause_splice_of_runs (s := s.onSplice i _) .reelOut _ runs).trans (by rw [taken])
  · exact State.raise_entryOk _ _ _ (State.stopCause_entryOk _ _ (State.onSplice_entryOk i rfl entry))
  · obtain ⟨other, quiet⟩ : e.kind ≠ .reelOut ∧ e.kind ∉ lineKinds := by simpa using apart
    exact mem_raiseIn_of_kind_ne ((State.stopCause_raises (s.onSplice i fun x => { x with activeReel := none }) _ _).mem e mem quiet) other

/-- The tests made on entry to IDLE. -/
theorem State.entryTests_idle {s : State} {i : SpliceId} {g : SpliceSettings} (phase : (s.splice i).phase = .idle)
    (set : (s.splice i).settings = some g) :
    (s.entryTests i).splice i = { s.splice i with activeReel := ((s.entryTests i).splice i).activeReel } ∧
      (s.spliceEntryOk → (s.entryTests i).spliceEntryOk) ∧ s.Raises (.reelLow :: .reelOut :: lineKinds) (s.entryTests i) ∧
      ((s.splice i).activeReel = none → s.entryTests i = s) ∧
      (∀ r, (s.splice i).activeReel = some r → r.remaining = 0 →
        ((s.entryTests i).splice i).activeReel = none ∧ (s.entryTests i).stopTaken .reelOut .spliceStation (i.val + 1) ∧
          (s.entryTests i).noticed .reelOut .spliceStation (i.val + 1)) ∧
      ∀ r, (s.splice i).activeReel = some r → 0 < r.remaining →
        s.entryTests i = s.reelLowTest i ∧ ((s.entryTests i).splice i).activeReel = some { r with lowReported := r.lowReported || g.low r } ∧
          (g.low r = true → (s.entryTests i).noticed .reelLow .spliceStation (i.val + 1)) := by
  rcases reel : (s.splice i).activeReel with _ | r
  · have still : s.entryTests i = s := by
      unfold State.entryTests
      rw [State.reelOutTest_of_paper (by simp [reel]), State.reelLowTest_of_none reel]
    rw [still]
    exact ⟨rfl, id, .refl _ s, fun _ => rfl, by simp, by simp⟩
  · by_cases out : r.remaining = 0
    · obtain ⟨gone, stop, noticed, rests, -, entry, raises⟩ := State.reelOut_spec reel out (by simp [phase])
      have tests : s.entryTests i = s.reelOutTest i := State.reelLowTest_of_none gone
      rw [tests]
      refine ⟨?_, entry, ⟨fun e mem apart => raises.mem e mem fun there => apart (List.mem_cons_of_mem _ there)⟩, by simp, fun q same _ => ?_, ?_⟩
      · rw [gone]
        exact rests (by simp [phase])
      · obtain ⟨e, mem, kind, subject, -⟩ := noticed
        exact ⟨gone, stop, e, mem, kind, subject⟩
      · rintro q same paper
        cases same
        exact absurd out paper.ne'
    · have tests : s.entryTests i = s.reelLowTest i := by
        unfold State.entryTests
        rw [State.reelOutTest_of_paper (by simp [reel, Nat.pos_of_ne_zero out])]
      obtain ⟨self, low, raises⟩ := State.reelLowTest_idle phase reel set
      obtain ⟨-, lsv, -⟩ := s.reelLowTest_rest i
      rw [tests, self]
      refine ⟨rfl, fun entry => entry.congr (by rw [lsv]) fun j => ?_, ⟨fun e mem apart => raises.mem e mem ?_⟩, by simp, ?_, ?_⟩
      · by_cases same : j = i
        · rw [same, self]
          rfl
        · rw [s.reelLowTest_ne same]
      · simp only [List.mem_cons, not_or] at apart
        simpa using apart.1
      · rintro q same gone
        cases same
        exact absurd gone out
      · rintro q same -
        cases same
        exact ⟨rfl, rfl, low⟩

/-! ### A capture event (R73) -/

/-- The joint of a confirmed splice. -/
def State.confirmedJoint (s : State) (i : SpliceId) (c : Nat) : JointRecord :=
  { position := c + (s.splice i).pathLength, before := s.spc.jb, after := s.spc.ja, suspect := false }

/-- A station whose arms have swapped, `ran` of web having run from the new reel. -/
def SpliceStation.swapped (x : SpliceStation) (ran : Nat) : SpliceStation :=
  { x with
    activeArm := x.activeArm.other
    activeReel := x.standbyReel.map fun r => { r with remaining := metres r.loadLength - ran }
    standbyReel := none }

/-- A confirmed splice before the tests of the state it comes to. -/
def State.spliceConfirmed (s : State) (i : SpliceId) (c : Nat) : State :=
  let j := s.confirmedJoint i c
  let r := (s.splice i).spliceRecord .confirmed (some j)
  (((((s.handJoint i j).swapArms i c).enterSplice i .idle).onSplice i fun t =>
    { t with confirmed := countUp 65535 t.confirmed }).writeSplice i r).raiseSpliceDone i r j

theorem State.confirmSplice_of_confirming {s : State} {i : SpliceId} (h : (s.splice i).phase = .confirming) (c : Nat) :
    s.confirmSplice i c = (s.spliceConfirmed i c).entryTests i := if_pos h

theorem State.confirmSplice_of_phase {s : State} {i : SpliceId} (h : (s.splice i).phase ≠ .confirming) (c : Nat) :
    s.confirmSplice i c = s := if_neg h

theorem State.handJoint_splice (s : State) (i : SpliceId) (j : JointRecord) (k : SpliceId) : (s.handJoint i j).splice k = s.splice k :=
  congrArg (fun x : Spc => x.stations[k]) ((s.handJoint_within i j).same .spc (by simp))

theorem State.spliceConfirmed_within (s : State) (i : SpliceId) (c : Nat) : s.Within [.map, .spc, .lsv] (s.spliceConfirmed i c) :=
  ((((((s.handJoint_within i _).mono (by simp)).step (State.swapArms_within ..) (by simp)).step (State.enterSplice_within ..) (by simp)).step
    (State.onSplice_within ..) (by simp)).step (State.writeSplice_within ..) (by simp)).step (State.raiseSpliceDone_within ..) (by simp)

theorem State.spliceConfirmed_self (s : State) (i : SpliceId) (c : Nat) :
    (s.spliceConfirmed i c).splice i =
      { (s.splice i).swapped (s.splicePos i - c) with
        phase := .idle, confirmed := countUp 65535 (s.splice i).confirmed
        lastSplice := some ((s.splice i).spliceRecord .confirmed (some (s.confirmedJoint i c))) } := by
  have lcu : (s.handJoint i (s.confirmedJoint i c)).lcu = s.lcu := (s.handJoint_within i _).same .lcu (by simp)
  have pos : (s.handJoint i (s.confirmedJoint i c)).splicePos i = s.splicePos i := by
    unfold State.splicePos State.counter
    rw [lcu]
  unfold State.spliceConfirmed
  simp only [State.raiseSpliceDone, State.raise_splice, State.writeSplice, State.onSplice_self, State.enterSplice_self, State.swapArms,
    State.handJoint_splice, pos]
  rfl

theorem State.spliceConfirmed_ne (s : State) {i j : SpliceId} (c : Nat) (h : j ≠ i) : (s.spliceConfirmed i c).splice j = s.splice j := by
  unfold State.spliceConfirmed
  simp only [State.raiseSpliceDone, State.raise_splice, State.writeSplice]
  rw [State.onSplice_ne _ i _ h, State.onSplice_ne _ i _ h, (State.enterSplice_worksOn _ i _).splice j h]
  exact (State.onSplice_ne _ i _ h).trans (s.handJoint_splice i _ j)

theorem State.spliceConfirmed_map (s : State) (i : SpliceId) (c : Nat) :
    (s.spliceConfirmed i c).map = (s.handJoint i (s.confirmedJoint i c)).map :=
  (State.enterSplice_within ((s.handJoint i (s.confirmedJoint i c)).swapArms i c) i .idle).map_eq

theorem State.spliceConfirmed_entryOk (s : State) (i : SpliceId) (c : Nat) : (s.spliceConfirmed i c).spliceEntryOk :=
  State.raise_entryOk _ _ _ (State.onSplice_entryOk i rfl (State.onSplice_entryOk i rfl (State.evalSplice_entryOk _)))

/-! ### The confirm window's end (R74) -/

theorem State.windowEnds_spec (s : State) (i : SpliceId) :
    (s.windowEnds i).splice i = { s.splice i with phase := .suspect } ∧
      (s.windowEnds i).lcu.joints[i] = { s.lcu.joints[i] with armed := false } ∧ (s.windowEnds i).lsv.holds.spliceSuspect = true ∧
      (s.windowEnds i).spliceEntryOk ∧ (s.windowEnds i).map = (s.handJoint i (s.suspectJoint i)).map ∧
      (s.windowEnds i).noticedWith .spliceSuspect .spliceStation (i.val + 1)
        (natBytes 6 ((s.splice i).firePos.getD 0) ++ natBytes 6 (s.suspectJoint i).position) := by
  have handed : ((s.disarmChannel i).handJoint i (s.suspectJoint i)).map = (s.handJoint i (s.suspectJoint i)).map :=
    State.placeJoint_congr (s := s) (t := s.disarmChannel i) rfl rfl rfl i _ _ _ _
  generalize ended : ((s.disarmChannel i).handJoint i (s.suspectJoint i)).enterSplice i .suspect = t
  have splice : t.splice i = { s.splice i with phase := .suspect } := by
    rw [← ended, State.enterSplice_self, State.handJoint_splice]
    rfl
  have joint : t.lcu.joints[i] = { s.lcu.joints[i] with armed := false } := by
    have lcu : ((s.disarmChannel i).handJoint i (s.suspectJoint i)).lcu = (s.disarmChannel i).lcu :=
      (State.handJoint_within ..).same .lcu (by simp)
    rw [← ended, State.enterSplice_lcu, lcu]
    exact getElem_modifyAt_self ..
  have map : t.map = (s.handJoint i (s.suspectJoint i)).map := by
    rw [← ended, ← handed]
    exact (State.enterSplice_within ..).map_eq
  have entry : t.spliceEntryOk := by
    rw [← ended]
    exact State.evalSplice_entryOk _
  obtain ⟨rests, channel⟩ := t.addHold_splice .spliceSuspect (i := i) (by simp [splice])
  unfold State.windowEnds
  simp only [ended]
  refine ⟨rests.trans splice, channel.trans joint, ?_, State.raise_entryOk _ _ _ (State.addHold_entryOk _ entry), ?_, State.raise_noticedWith ..⟩
  · exact t.addHold_has .spliceSuspect
  · exact ((t.addHold_touches .spliceSuspect).map_eq).trans map

/-! ### A station's tests in their order (R66) -/

/-- The tests of an advance, after the paper has been taken. -/
def State.spliceTests (s : State) (i : SpliceId) : State := ((((s.fireTest i).windowTest i).reelOutTest i).armTest i).reelLowTest i

theorem State.spliceAdvance_of_use {s : State} {i : SpliceId} (h : s.spliceInUse i = true) (d : Nat) :
    s.spliceAdvance i d = (s.takePaper i d).spliceTests i := if_pos h

theorem State.spliceAdvance_of_unused {s : State} {i : SpliceId} (h : s.spliceInUse i = false) (d : Nat) : s.spliceAdvance i d = s :=
  if_neg (by simp [h])

section Tests

variable {s : State} {i : SpliceId} {g : SpliceSettings} {r : Reel}

theorem State.spliceTests_of_none (reel : (s.splice i).activeReel = none) (opened : ¬s.windowOut i) : s.spliceTests i = s := by
  unfold State.spliceTests
  rw [State.fireTest_of_none reel, State.windowTest_of_open opened, State.reelOutTest_of_paper (by simp [reel]), State.armTest_of_none reel,
    State.reelLowTest_of_none reel]

theorem State.spliceTests_of_suspect (phase : (s.splice i).phase = .suspect) : s.spliceTests i = s := by
  unfold State.spliceTests
  rw [State.fireTest_of_phase (by simp [phase]), State.windowTest_of_open fun out => by simpa [phase] using out.1,
    State.reelOutTest_of_suspect phase, State.armTest_of_phase (by simp [phase]), State.reelLowTest_of_phase (by simp [phase])]

theorem State.spliceTests_of_out (out : s.windowOut i) : s.spliceTests i = s.windowEnds i := by
  obtain ⟨splice, -⟩ := s.windowEnds_spec i
  have phase : ((s.windowEnds i).splice i).phase = .suspect := by rw [splice]
  unfold State.spliceTests
  rw [State.fireTest_of_phase (by simp [out.1]), State.windowTest_of_out out, State.reelOutTest_of_suspect phase,
    State.armTest_of_phase (by simp [phase]), State.reelLowTest_of_phase (by simp [phase])]

/-- A station that has just fired has its window before it. -/
theorem State.fire_opens (set : (s.splice i).settings = some g) (window : 0 < g.window) : ¬(s.fire i).windowOut i := by
  rintro ⟨-, w, stored, out⟩
  have here : (s.fire i).splicePos i = s.splicePos i := by
    unfold State.splicePos State.counter
    rw [(s.fire_within i).lcu]
  rw [State.fire_self, set] at stored
  cases stored
  change s.splicePos i + g.window ≤ (s.fire i).splicePos i at out
  omega

theorem State.fire_reel (s : State) (i : SpliceId) : ((s.fire i).splice i).activeReel = (s.splice i).activeReel := by rw [State.fire_self]

theorem State.fire_phase (s : State) (i : SpliceId) : ((s.fire i).splice i).phase = .confirming := by rw [State.fire_self]

variable (reel : (s.splice i).activeReel = some r)
include reel

/-- With paper on its reel and its window open, a station has its firing test, its arming test and its reel-low test. -/
theorem State.spliceTests_of_paper (set : (s.splice i).settings = some g) (window : 0 < g.window) (opened : ¬s.windowOut i)
    (paper : 0 < r.remaining) : s.spliceTests i = ((s.fireTest i).armTest i).reelLowTest i := by
  obtain ⟨opens, same⟩ : ¬(s.fireTest i).windowOut i ∧ ((s.fireTest i).splice i).activeReel = some r := by
    unfold State.fireTest
    split
    · exact ⟨State.fire_opens set window, (s.fire_reel i).trans reel⟩
    · exact ⟨opened, reel⟩
  unfold State.spliceTests
  rw [State.windowTest_of_open opens, State.reelOutTest_of_paper (by simp [same, paper])]

theorem State.spliceTests_of_fires (set : (s.splice i).settings = some g) (window : 0 < g.window) (paper : 0 < r.remaining)
    (phase : (s.splice i).phase = .matched) (fires : (s.splice i).force = true ∨ r.remaining ≤ g.reserve) : s.spliceTests i = s.fire i := by
  rw [State.spliceTests_of_paper reel set window (fun out => by simpa [phase] using out.1) paper, State.fireTest_fires phase reel set fires,
    State.armTest_of_phase (by simp [State.fire_phase]), State.reelLowTest_of_phase (by simp [State.fire_phase])]

/-- A station whose reel runs out looks at firing first (R67). -/
theorem State.spliceTests_of_gone (set : (s.splice i).settings = some g) (window : 0 < g.window) (out : r.remaining = 0)
    (phase : (s.splice i).phase ≠ .suspect) (opened : ¬s.windowOut i) : s.spliceTests i = (s.fireTest i).reelOutTest i := by
  have ends {t : State} (reel : (t.splice i).activeReel = some r) (phase : (t.splice i).phase ≠ .suspect) (opened : ¬t.windowOut i) :
      (((t.windowTest i).reelOutTest i).armTest i).reelLowTest i = t.reelOutTest i := by
    obtain ⟨gone, -⟩ := State.reelOut_spec reel out phase
    rw [State.windowTest_of_open opened, State.armTest_of_none gone, State.reelLowTest_of_none gone]
  by_cases matched : (s.splice i).phase = .matched
  · have fires : s.fireTest i = s.fire i := State.fireTest_fires matched reel set (.inr (by omega))
    unfold State.spliceTests
    rw [fires]
    exact ends ((s.fire_reel i).trans reel) (by simp [State.fire_phase]) (State.fire_opens set window)
  · unfold State.spliceTests
    rw [State.fireTest_of_phase matched]
    exact ends reel phase opened

end Tests

/-! ### An edge at a joint channel (R10) -/

theorem EdgeSelect.takes_eq (e : EdgeSelect) (rising : Bool) :
    e.takes rising = (decide (e = .both) || decide (e = if rising then .rising else .falling)) := by
  cases e <;> cases rising <;> rfl

/-- The joint channel of a station takes an edge. -/
def State.edgeTaken (s : State) (i : SpliceId) (rising : Bool) : Bool := s.spliceInUse i && s.jointTakes i rising

theorem exec_jointEdge {s : State} (i : SpliceId) (rising : Bool) (held : s.held = false) :
    exec (.jointEdge i rising) s = .next (if s.edgeTaken i rising then s.jointEdge i else s).beginFrame :=
  event_released id (fun t => if t.edgeTaken i rising then t.jointEdge i else t) held

theorem State.jointEdge_disarmed {s : State} {i : SpliceId} (h : s.lcu.joints[i].armed = false) : s.jointEdge i = s :=
  if_neg (by rw [h]; exact Bool.false_ne_true)

/-- The state whose joint channel has recorded the present position. -/
def State.jointRecorded (s : State) (i : SpliceId) : State :=
  { s with lcu := { s.lcu with
      joints := s.lcu.joints.set i.val { armed := false, record := some (s.counter (spliceCounter i)).pos } i.isLt } }

theorem State.jointEdge_armed {s : State} {i : SpliceId} (h : s.lcu.joints[i].armed = true) :
    s.jointEdge i = (s.jointRecorded i).confirmSplice i (s.counter (spliceCounter i)).pos := if_pos h

/-- What an edge at a joint channel does. -/
theorem jointEdge_spec {s : State} {i : SpliceId} {rising : Bool} (held : s.held = false) :
    (s.lcu.joints[i].armed = false ∨ s.edgeTaken i rising = false → exec (.jointEdge i rising) s = .next s.beginFrame) ∧
    (s.lcu.joints[i].armed = true → s.edgeTaken i rising = true →
      ((s.splice i).phase ≠ .confirming → exec (.jointEdge i rising) s = .next (s.jointRecorded i).beginFrame) ∧
      ((s.splice i).phase = .confirming →
        exec (.jointEdge i rising) s =
          .next ((s.jointRecorded i).confirmSplice i (s.counter (spliceCounter i)).pos).beginFrame)) := by
  rw [exec_jointEdge i rising held]
  refine ⟨fun idle => ?_, fun armed takes => ⟨fun phase => ?_, fun _ => ?_⟩⟩
  · rcases idle with disarmed | untaken
    · rw [State.jointEdge_disarmed disarmed, ite_self]
    · rw [if_neg (by simp [untaken])]
  · rw [if_pos takes, State.jointEdge_armed armed, State.confirmSplice_of_phase (s := s.jointRecorded i) phase]
  · rw [if_pos takes, State.jointEdge_armed armed]

/-! ### A confirmed splice (R66 to R68, R73) -/

section Confirmed

variable {s : State} {i : SpliceId} {g : SpliceSettings} (c : Nat) (phase : (s.splice i).phase = .confirming)
  (set : (s.splice i).settings = some g)
include phase set

/-- A confirming station comes to IDLE with its arms swapped, and its record and notice say so. -/
theorem State.confirmSplice_station :
    let x := s.splice i
    let u := s.confirmSplice i c
    let stub := (x.activeReel.map (·.remaining)).getD 0
    u.splice i =
      { x with
        activeArm := x.activeArm.other, activeReel := (u.splice i).activeReel, standbyReel := none, phase := .idle
        confirmed := min (x.confirmed + 1) 65535
        lastSplice := some
          { outcome := .confirmed, oldTag := x.activeReel.map (·.tag), oldPaper := x.activeReel.map (·.paper), stub := stub
            newTag := x.standbyReel.map (·.tag)
            joint := some { position := c + g.path, before := s.spc.jb, after := s.spc.ja, suspect := false } } } ∧
    u.spliceEntryOk ∧
    u.noticedWith .spliceDone .spliceStation (i.val + 1)
      (optBytes 4 (x.activeReel.map (·.tag)) ++ natBytes 6 stub ++ optBytes 4 (x.standbyReel.map (·.tag)) ++
        natBytes 6 (c + g.path) ++ [0#8]) := by
  have path : (s.splice i).pathLength = g.path := by
    unfold SpliceStation.pathLength
    rw [set]
    rfl
  have self := s.spliceConfirmed_self i c
  obtain ⟨station, entry, raises, -⟩ := State.entryTests_idle (s := s.spliceConfirmed i c) (i := i) (g := g) (by rw [self]) (by rw [self]; exact set)
  rw [State.confirmSplice_of_confirming phase]
  refine ⟨?_, entry (s.spliceConfirmed_entryOk i c), raises.noticedWith ?_ (by simp [lineKinds])⟩
  · refine station.trans ?_
    rw [self]
    unfold State.confirmedJoint
    rw [path]
    rfl
  · rw [← path]
    unfold State.spliceConfirmed State.raiseSpliceDone
    rw [show [0#8] = flagBytes false from rfl]
    exact State.raise_noticedWith _ .spliceDone .spliceStation (i.val + 1) _

/-- The reel that a confirmed splice runs on. -/
theorem State.confirmSplice_reel :
    let x := s.splice i
    let u := s.confirmSplice i c
    let left (q : Reel) : Nat := q.loadLength * 10000 - ((s.counter (spliceCounter i)).pos - c)
    (x.standbyReel = none → (u.splice i).activeReel = none) ∧
    (∀ q, x.standbyReel = some q →
      (left q = 0 → (u.splice i).activeReel = none ∧ u.stopTaken .reelOut .spliceStation (i.val + 1) ∧
        u.noticed .reelOut .spliceStation (i.val + 1)) ∧
      (0 < left q →
        let r : Reel := { q with remaining := left q }
        (u.splice i).activeReel = some { r with lowReported := r.lowReported || g.low r } ∧
        (g.low r = true → u.noticed .reelLow .spliceStation (i.val + 1)))) ∧
    ((∀ q, x.standbyReel = some q → 0 < left q) →
      u.map = (s.placeJoint i (c + g.path) s.spc.jb s.spc.ja false).map ∧
      (∀ j : SpliceId, j ≠ i → u.splice j = s.splice j) ∧ s.keepsBut u [.map, .spc, .lsv]) := by
  have self := s.spliceConfirmed_self i c
  have standby : ((s.spliceConfirmed i c).splice i).activeReel =
      (s.splice i).standbyReel.map fun q => { q with remaining := metres q.loadLength - (s.splicePos i - c) } := by
    rw [self]
    rfl
  have map : (s.spliceConfirmed i c).map = (s.placeJoint i (c + g.path) s.spc.jb s.spc.ja false).map := by
    rw [s.spliceConfirmed_map]
    unfold State.handJoint State.confirmedJoint SpliceStation.pathLength
    rw [set]
    rfl
  obtain ⟨-, -, -, without, out, runs⟩ :=
    State.entryTests_idle (s := s.spliceConfirmed i c) (i := i) (g := g) (by rw [self]) (by rw [self]; exact set)
  rw [State.confirmSplice_of_confirming phase]
  refine ⟨fun none_ => ?_, fun q stands => ⟨fun gone => ?_, fun left => ?_⟩, fun papers => ?_⟩
  · rw [none_] at standby
    rw [without standby, standby]
    rfl
  · rw [stands] at standby
    exact out _ standby gone
  · rw [stands] at standby
    exact (runs _ standby left).2
  · rcases stands : (s.splice i).standbyReel with _ | q
    · rw [stands] at standby
      rw [without standby]
      exact ⟨map, fun j other => s.spliceConfirmed_ne c other, (s.spliceConfirmed_within i c).keepsBut⟩
    · rw [stands] at standby
      obtain ⟨tests, -⟩ := runs _ standby (papers q stands)
      obtain ⟨low, -⟩ := (s.spliceConfirmed i c).reelLowTest_rest i
      rw [tests, low]
      refine ⟨map, fun j other => ?_, ((s.spliceConfirmed_within i c).step (State.reelLowTest_within ..) (by simp)).keepsBut⟩
      exact (State.reelLowTest_ne _ other).trans (s.spliceConfirmed_ne c other)

end Confirmed

/-! ### A station's part of an advance (R66 to R71, R74) -/

/-- A station that has fired at a position. -/
def SpliceStation.fired (x : SpliceStation) (g : SpliceSettings) (pos : Nat) : SpliceStation :=
  { x with phase := .confirming, accelerate := false, pulse := true, firePos := some pos, windowEnd := some (pos + g.window), force := false }

theorem State.takePaper_windowOut {s : State} {i : SpliceId} {d : Nat} : (s.takePaper i d).windowOut i ↔ s.windowOut i := by
  unfold State.windowOut
  rw [State.takePaper_self]
  exact Iff.rfl

/-- A station that has armed is not IDLE. -/
theorem State.armTest_phase {s : State} {i : SpliceId} {g : SpliceSettings} {r : Reel} (h : s.armingTerms i g r) :
    ((s.armTest i).splice i).phase ≠ .idle := by
  obtain ⟨-, matching, matched, -, fired⟩ := State.armTest_armed h
  cases speed : (s.splice i).speedMatch
  · simp [matching speed]
  · by_cases reserve : g.reserve < r.remaining
    · simp [matched speed reserve]
    · simp [(fired speed (not_lt.mp reserve)).1]

theorem State.takePaper_use (s : State) (i : SpliceId) (d : Nat) : (s.takePaper i d).spliceInUse i = s.spliceInUse i := rfl

/-- The suspect joint of a set station. -/
theorem State.suspectJoint_eq {s : State} {i : SpliceId} {g : SpliceSettings} (set : (s.splice i).settings = some g) :
    s.suspectJoint i =
      { position := (s.splice i).firePos.getD 0 + g.path, before := 4 * s.spc.jb, after := 4 * s.spc.ja, suspect := true } := by
  unfold State.suspectJoint SpliceStation.pathLength
  rw [set]
  rfl

section Advance

variable {s : State} {i : SpliceId} {g : SpliceSettings} {r : Reel} {d : Nat} (use : s.spliceInUse i = true)
  (set : (s.splice i).settings = some g) (window : 0 < g.window) (opened : ¬s.windowOut i) (reel : (s.splice i).activeReel = some r)

section Reel

include reel

theorem State.drawn_reel : ((s.takePaper i d).splice i).activeReel = some { r with remaining := r.remaining - d } := by
  rw [State.takePaper_self]
  unfold SpliceStation.drawn
  rw [reel]
  rfl

theorem State.drawn_station : (s.takePaper i d).splice i = { s.splice i with activeReel := some { r with remaining := r.remaining - d } } := by
  rw [State.takePaper_self]
  unfold SpliceStation.drawn
  rw [reel]
  rfl

end Reel

include use

theorem State.spliceAdvance_of_none (none_ : (s.splice i).activeReel = none) (opened : ¬s.windowOut i) : s.spliceAdvance i d = s := by
  rw [State.spliceAdvance_of_use use, State.takePaper_of_none none_, State.spliceTests_of_none none_ opened]

/-- The window runs out: whatever the reel, the splice is SUSPECT. -/
theorem State.spliceAdvance_of_out (out : s.windowOut i) : s.spliceAdvance i d = (s.takePaper i d).windowEnds i := by
  rw [State.spliceAdvance_of_use use, State.spliceTests_of_out (State.takePaper_windowOut.mpr out)]

theorem State.spliceAdvance_of_suspect (phase : (s.splice i).phase = .suspect) : s.spliceAdvance i d = s.takePaper i d := by
  rw [State.spliceAdvance_of_use use, State.spliceTests_of_suspect (by rw [State.takePaper_self]; exact phase)]

include set window opened reel

/-- The reel runs out: the station may fire by it, and the line is asked to stop. -/
theorem State.spliceAdvance_of_gone (gone : r.remaining - d = 0) (phase : (s.splice i).phase ≠ .suspect) :
    let x := s.splice i
    let u := s.spliceAdvance i d
    (u.splice i).activeReel = none ∧ u.stopTaken .reelOut .spliceStation (i.val + 1) ∧
    u.noticedWith .reelOut .spliceStation (i.val + 1) (natBytes 4 r.tag) ∧
    (x.phase = .idle ∨ x.phase = .standby ∨ x.phase = .blocked ∨ x.phase = .confirming → (u.splice i).phase = x.phase) ∧
    (x.phase = .matched → (u.splice i).phase = .confirming) ∧
    (x.phase = .matching → s.lsv.line = .run ∨ s.lsv.line = .hold → (u.splice i).phase = .standby) := by
  have station : (s.takePaper i d).splice i = _ := State.drawn_station reel
  have drawn := State.drawn_reel (d := d) reel
  have phase_ : ((s.takePaper i d).splice i).phase = (s.splice i).phase := by rw [station]
  have advance : s.spliceAdvance i d = ((s.takePaper i d).fireTest i).reelOutTest i := by
    rw [State.spliceAdvance_of_use use]
    exact State.spliceTests_of_gone drawn (by rw [station]; exact set) window gone (by rwa [phase_]) (mt State.takePaper_windowOut.mp opened)
  rw [advance]
  by_cases matched : (s.splice i).phase = .matched
  · have fires : (s.takePaper i d).fireTest i = (s.takePaper i d).fire i :=
      State.fireTest_fires (phase_.trans matched) drawn (by rw [station]; exact set) (.inr (by dsimp only; omega))
    rw [fires]
    obtain ⟨none_, stop, noticed, rests, -⟩ :=
      State.reelOut_spec (s := (s.takePaper i d).fire i) ((State.fire_reel _ i).trans drawn) gone (by simp [State.fire_phase])
    refine ⟨none_, stop, noticed, by simp [matched], fun _ => ?_, by simp [matched]⟩
    rw [rests (by simp [State.fire_phase])]
    exact State.fire_phase _ i
  · rw [State.fireTest_of_phase (by rwa [phase_])]
    obtain ⟨none_, stop, noticed, rests, stops, -⟩ := State.reelOut_spec drawn gone (by rwa [phase_])
    refine ⟨none_, stop, noticed, fun still => ?_, fun is => absurd is matched, fun matching runs => ?_⟩
    · rw [rests ⟨fun is => ?_, by rwa [phase_]⟩, station]
      rw [phase_] at is
      simp [is] at still
    · rw [stops runs]
      exact congrArg SpliceStation.phase (SpliceStation.stopped_of_matching (x := { (s.takePaper i d).splice i with activeReel := none })
        (phase_.trans matching))

/-- The reel still has paper: the station goes on by its state. -/
theorem State.spliceAdvance_of_paper (paper : 0 < r.remaining - d) :
    let x := s.splice i
    let u := s.spliceAdvance i d
    let pos := (s.counter (spliceCounter i)).pos
    let runs : Prop := (s.lsv.line = .run ∨ s.lsv.line = .hold) ∧ 0 < s.lcu.measured
    let left : Reel := { r with remaining := r.remaining - d }
    let with_ (y : SpliceStation) : Prop := u.splice i = { y with activeReel := some left }
    (x.phase = .matched → x.force = true ∨ left.remaining ≤ g.reserve → with_ (x.fired g pos) ∧ u.lcu.joints[i].armed = true) ∧
    (x.phase = .matched → x.force = false → g.reserve < left.remaining → with_ x) ∧
    (x.phase = .standby → runs → left.remaining ≤ g.arm → u.spliceEntryOk ∧
      (x.speedMatch = false → with_ { x with phase := .matching, accelerate := true, force := false }) ∧
      (x.speedMatch = true → g.reserve < left.remaining → with_ { x with phase := .matched, accelerate := true, force := false }) ∧
      (x.speedMatch = true → left.remaining ≤ g.reserve → with_ (x.fired g pos) ∧ u.lcu.joints[i].armed = true)) ∧
    (x.phase = .standby → ¬runs ∨ g.arm < left.remaining → with_ x) ∧
    (x.phase = .idle →
      u.splice i = { x with activeReel := some { left with lowReported := left.lowReported || g.low left } } ∧
      (g.low left = true → u.noticed .reelLow .spliceStation (i.val + 1))) ∧
    (x.phase = .matching ∨ x.phase = .confirming ∨ x.phase = .blocked → with_ x) ∧
    (∀ j : SpliceId, j ≠ i → u.splice j = s.splice j) ∧ s.keepsBut u [.lcu, .spc, .lsv] := by
  have station : (s.takePaper i d).splice i = _ := State.drawn_station reel
  have drawn := State.drawn_reel (d := d) reel
  have phase : ((s.takePaper i d).splice i).phase = (s.splice i).phase := by rw [station]
  have set' : ((s.takePaper i d).splice i).settings = some g := by rw [station]; exact set
  have opened' : ¬(s.takePaper i d).windowOut i := mt State.takePaper_windowOut.mp opened
  have still (h : (s.splice i).phase ≠ .matched) : (s.takePaper i d).fireTest i = s.takePaper i d := State.fireTest_of_phase (by rwa [phase])
  have waits (h : (s.splice i).phase ≠ .standby) : (s.takePaper i d).armTest i = s.takePaper i d := State.armTest_of_phase (by rwa [phase])
  have high (h : (s.splice i).phase ≠ .idle) : (s.takePaper i d).reelLowTest i = s.takePaper i d := State.reelLowTest_of_phase (by rwa [phase])
  have tests := State.spliceTests_of_paper drawn set' window opened' paper
  rw [State.spliceAdvance_of_use use, tests]
  refine ⟨fun is fires => ?_, fun is force reserve => ?_, fun is runs arm => ?_, fun is quiet => ?_, fun is => ?_, fun is => ?_, ?_⟩
  case refine_1 =>
    rw [← tests, State.spliceTests_of_fires drawn set' window paper (phase.trans is) (by rwa [station])]
    refine ⟨?_, ?_⟩
    · rw [State.fire_self, station, set]
      rfl
    · rw [State.fire_joint (s := s.takePaper i d) use]
  case refine_2 =>
    rw [State.fireTest_waits drawn set' (by rwa [station]) reserve, waits (by simp [is]), high (by simp [is])]
    exact station
  case refine_3 =>
    obtain ⟨line, measured⟩ := runs
    have terms : (s.takePaper i d).armingTerms i g { r with remaining := r.remaining - d } :=
      ⟨use, phase.trans is, line, measured, set', drawn, arm⟩
    obtain ⟨entry, matching, matched, -, fired⟩ := State.armTest_armed terms
    rw [station] at matching matched fired
    rw [still (by simp [is]), State.reelLowTest_of_phase (State.armTest_phase terms)]
    refine ⟨entry, matching, matched, fun speed reserve => ?_⟩
    obtain ⟨self, joint⟩ := fired speed reserve
    exact ⟨self, by rw [joint]⟩
  case refine_4 =>
    rw [still (by simp [is]), State.armTest_of_not_arms, high (by simp [is])]
    · exact station
    · rintro g' r' ⟨-, -, line, measured, same, low, arm⟩
      rw [set'] at same
      rw [drawn] at low
      cases same
      cases low
      exact quiet.elim (fun stands => stands ⟨line, measured⟩) (fun above => absurd arm above.not_ge)
  case refine_5 =>
    rw [still (by simp [is]), waits (by simp [is])]
    obtain ⟨self, low, -⟩ := State.reelLowTest_idle (phase.trans is) drawn set'
    rw [self, station]
    exact ⟨rfl, low⟩
  case refine_6 =>
    obtain ⟨unmatched, unarmed, busy⟩ : (s.splice i).phase ≠ .matched ∧ (s.splice i).phase ≠ .standby ∧ (s.splice i).phase ≠ .idle := by
      rcases is with is | is | is <;> simp [is]
    rw [still unmatched, waits unarmed, high busy]
    exact station
  case refine_7 =>
    refine ⟨fun j other => ?_, ?_⟩
    · have works := ((s.takePaper i d).fireTest_worksOn i).trans (State.armTest_worksOn _ i)
      exact (State.reelLowTest_ne _ other).trans ((works.splice j other).trans (s.takePaper_ne d other))
    · have taken : s.Within [.lcu, .spc, .lsv] (s.takePaper i d) := (s.takePaper_within i d).mono (by simp)
      exact (((taken.step (State.fireTest_within ..) (by simp)).step (State.armTest_within ..) (by simp)).step
        (State.reelLowTest_within ..) (by simp)).keepsBut

end Advance

/-- Settles O11: an edge, a confirmed splice and an advance are each taken test by test, and a joint goes where its web has come to. -/
theorem jointCapture : Obligations.JointCapture := by
  unfold Obligations.JointCapture
  intro low
  refine ⟨fun s i rising held => ?edge, fun s i c g phase set => ?confirm, fun s i pos before after suspect => ⟨fun h => ?_, fun k h => ?_⟩,
    fun s i d => ?advance⟩
  case edge =>
    intro takes
    have same : takes = s.edgeTaken i rising := by
      unfold State.edgeTaken State.jointTakes
      rcases set : (s.splice i).settings with _ | g <;> simp only [takes, set, EdgeSelect.takes_eq]
    rw [same]
    exact jointEdge_spec held
  case confirm =>
    obtain ⟨station, entry, noticed⟩ := State.confirmSplice_station c phase set
    exact ⟨station, entry, noticed, State.confirmSplice_reel c phase set⟩
  case refine_1 =>
    rw [h]
    exact s.placeJoint_liner pos before after suspect
  case refine_2 => exact s.placeJoint_spec i pos before after suspect h
  case advance =>
    refine ⟨fun unused => State.spliceAdvance_of_unused unused d, fun use g set window => ⟨fun none_ opened => ?_, fun r reel => ⟨?_, ?_, ?_⟩, ?_⟩⟩
    · exact State.spliceAdvance_of_none use none_ opened
    · exact fun paper opened => State.spliceAdvance_of_paper use set window opened reel paper
    · exact fun gone phase opened => State.spliceAdvance_of_gone use set window opened reel gone phase
    · intro phase
      rw [State.spliceAdvance_of_suspect use phase]
      exact ⟨State.drawn_station reel, (s.takePaper_within i d).keepsBut⟩
    · intro out
      have station := s.takePaper_self i d
      have joint : (s.takePaper i d).suspectJoint i = _ := State.suspectJoint_eq (by rw [station]; exact set)
      obtain ⟨splice, channel, hold, entry, map, noticed⟩ := (s.takePaper i d).windowEnds_spec i
      rw [joint] at map noticed
      rw [station] at splice map noticed
      rw [State.spliceAdvance_of_out use out, splice]
      exact ⟨rfl, rfl, channel, hold, entry, map.trans (State.placeJoint_congr (s := s) (t := s.takePaper i d) rfl rfl rfl i _ _ _ _), noticed⟩

end Sys2Proof.Machine
end

section
/-! PROOF. The MAP's part of a LINE advance: marks leave, bridges are drawn down, entries are transferred (R26, R28, R30), and what the
whole advance leaves (R8). -/

namespace Sys2Proof.Machine

/-! ### What every block leaves at a LINE advance -/

/-- What work of the blocks leaves whatever it does to the bridges: the counters with the geometry and the line build, the outputs, and the
part's shell. -/
structure State.Carries (s t : State) : Prop where
  lcu : t.lcu = { s.lcu with joints := t.lcu.joints, eyes := t.lcu.eyes }
  dst : t.dst = s.dst
  link : t.lnk = { s.lnk with notices := t.lnk.notices, sending := t.lnk.sending, expiries := t.lnk.expiries }
  held : t.held = s.held
  fresh : t.fresh = s.fresh
  pending : t.pending = s.pending

theorem State.Carries.refl (s : State) : s.Carries s := ⟨rfl, rfl, rfl, rfl, rfl, rfl⟩

theorem State.Carries.trans {s t u : State} (h : s.Carries t) (h' : t.Carries u) : s.Carries u where
  lcu := by rw [h'.lcu, h.lcu]
  dst := h'.dst.trans h.dst
  link := by rw [h'.link, h.link]
  held := h'.held.trans h.held
  fresh := h'.fresh.trans h.fresh
  pending := h'.pending.trans h.pending

theorem State.Touches.carries {bs : List Block} {s t : State} (h : s.Touches bs t) (dst : Block.dst ∉ Block.lnk :: bs := by simp) : s.Carries t :=
  ⟨h.lcu, h.same .dst dst, h.link, h.held, h.fresh, h.pending⟩

theorem State.onBridge_carries (s : State) (k : WebId) (f : Bridge → Bridge) : s.Carries (s.onBridge k f) := ⟨rfl, rfl, rfl, rfl, rfl, rfl⟩

theorem State.Carries.counter {s t : State} (h : s.Carries t) (i : CounterId) : t.counter i = s.counter i := by
  unfold State.counter
  rw [h.lcu]

theorem State.Carries.walls {s t : State} (h : s.Carries t) : t.walls = s.walls := by
  unfold State.walls
  rw [h.lcu]

/-! ### A LINE advance taken from a bridge (R28) -/

theorem State.setContent_line (s : State) (k : WebId) (v : Nat) : (s.setContent k v).lsv.line = s.lsv.line := by
  have entry : (s.onBridge k fun b => { b with content := v }).evalBridgeEntry.lsv.line = s.lsv.line := by
    unfold State.evalBridgeEntry
    rw [State.setEntry_lsv]
    rfl
  unfold State.setContent
  dsimp only
  split <;> exact entry

/-- A bridge without its joints. -/
def Bridge.levels (g : Bridge) : Bridge := { g with entries := [] }

/-- A bridge that a LINE advance has drawn from: what it lacks is its shortfall. -/
def Bridge.consumed (g : Bridge) (d : Nat) : Bridge :=
  { g with
    content := g.content - d
    shortfall := if g.content < d then min (Config.posLimit - 1) (g.shortfall + (d - g.content)) else g.shortfall }

theorem State.onBridge_congr {s : State} {k : WebId} {f g : Bridge → Bridge} (h : f (s.bridge k) = g (s.bridge k)) :
    s.onBridge k f = s.onBridge k g := by
  unfold State.bridge at h
  unfold State.onBridge modifyAt
  simp only [Fin.getElem_fin] at h ⊢
  rw [h]

theorem State.onBridge_fixed {s : State} {k : WebId} {f : Bridge → Bridge} (h : f (s.bridge k) = s.bridge k) : s.onBridge k f = s := by
  unfold State.bridge at h
  unfold State.onBridge modifyAt
  simp only [Fin.getElem_fin] at h
  rw [h, Vector.set_getElem_self]

theorem State.onBridge_onBridge (s : State) (k : WebId) (f g : Bridge → Bridge) :
    (s.onBridge k f).onBridge k g = s.onBridge k fun b => g (f b) := by
  simp only [State.onBridge, modifyAt_modifyAt]

theorem State.webInUse_iff {s : State} {k : WebId} : s.webInUse k = true ↔ k.val + 1 ≤ s.walls := decide_eq_true_iff

theorem State.consumeBridge_unused {s : State} {k : WebId} (h : s.webInUse k = false) (d : Nat) : s.consumeBridge d k = s :=
  if_pos (by simp [h])

/-- The bridge drawn from, with its level tests. -/
def State.consumedContent (s : State) (d : Nat) (k : WebId) : State :=
  (s.onBridge k fun g => { g with shortfall := (g.consumed d).shortfall }).setContent k ((s.bridge k).content - d)

theorem State.consumedContent_within (s : State) (d : Nat) (k : WebId) :
    (s.onBridge k (·.consumed d)).Within [.lsv] (s.consumedContent d k) := by
  have same : s.onBridge k (·.consumed d) =
      (s.onBridge k fun g => { g with shortfall := (g.consumed d).shortfall }).onBridge k fun b => { b with content := (s.bridge k).content - d } := by
    rw [State.onBridge_onBridge]
    exact State.onBridge_congr rfl
  rw [same]
  exact State.setContent_within ..

theorem State.consumeBridge_enough {s : State} {k : WebId} {d : Nat} (use : s.webInUse k = true) (enough : d ≤ (s.bridge k).content) :
    s.consumeBridge d k = s.consumedContent d k := by
  have same : (s.onBridge k fun g => { g with shortfall := (g.consumed d).shortfall }) = s := State.onBridge_fixed (by
    rw [show ((s.bridge k).consumed d).shortfall = (s.bridge k).shortfall from if_neg enough.not_gt])
  unfold State.consumeBridge State.consumedContent
  rw [same]
  exact (if_neg (by simp [use])).trans (if_pos enough)

/-- A bridge that runs empty asks for a stop in RUN, HOLD and STOPPING. -/
theorem State.consumeBridge_short {s : State} {k : WebId} {d : Nat} (use : s.webInUse k = true) (short : (s.bridge k).content < d) :
    s.consumeBridge d k =
      if s.lsv.line.monitored then (s.consumedContent d k).stopCause .bridgeEmpty (some ⟨.bridge, k.val + 1⟩) else s.consumedContent d k := by
  have line : (s.consumedContent d k).lsv.line.monitored = s.lsv.line.monitored := by
    rw [State.consumedContent, State.setContent_line]
    rfl
  have same : (s.onBridge k fun g => { g with shortfall := min (Config.posLimit - 1) (g.shortfall + (d - (s.bridge k).content)) }).setContent k 0 =
      s.consumedContent d k := by
    unfold State.consumedContent
    rw [Nat.sub_eq_zero_of_le short.le]
    congr 1
    exact State.onBridge_congr (by simp [Bridge.consumed, short])
  unfold State.consumeBridge
  rw [if_neg (by simp [use]), if_neg short.not_ge]
  dsimp only
  rw [same, line]
  rfl

theorem State.consumeBridge_touches {s : State} {k : WebId} (use : s.webInUse k = true) (d : Nat) :
    (s.onBridge k (·.consumed d)).Touches [.lcu, .map, .spc, .bnd, .lsv, .lnk] (s.consumeBridge d k) := by
  have content := ((s.consumedContent_within d k).mono (cs := [.lcu, .map, .spc, .bnd, .lsv, .lnk]) (by simp)).toTouches
  by_cases enough : d ≤ (s.bridge k).content
  · rw [State.consumeBridge_enough use enough]
    exact content
  · rw [State.consumeBridge_short use (not_le.mp enough)]
    split
    · exact content.step (State.stopCause_within ..) (by simp)
    · exact content

theorem State.Touches.bridge_levels {bs : List Block} {s t : State} (h : s.Touches bs t) (j : WebId) : (t.bridge j).levels = (s.bridge j).levels :=
  h.levels j

/-- What a bridge's turn leaves of the others. -/
theorem State.consumeBridge_others (s : State) (d : Nat) {j k : WebId} (h : j ≠ k) :
    s.Carries (s.consumeBridge d k) ∧ ((s.consumeBridge d k).bridge j).levels = (s.bridge j).levels := by
  cases use : s.webInUse k with
  | false =>
    rw [State.consumeBridge_unused use]
    exact ⟨.refl s, rfl⟩
  | true =>
    have touches := State.consumeBridge_touches use d
    refine ⟨(s.onBridge_carries k _).trans touches.carries, (touches.bridge_levels j).trans ?_⟩
    rw [s.onBridge_ne k _ h]

theorem State.consumeBridge_self (s : State) (d : Nat) (k : WebId) :
    s.Carries (s.consumeBridge d k) ∧
      ((s.consumeBridge d k).bridge k).levels = if s.webInUse k then ((s.bridge k).consumed d).levels else (s.bridge k).levels := by
  cases use : s.webInUse k with
  | false =>
    rw [State.consumeBridge_unused use]
    exact ⟨.refl s, rfl⟩
  | true =>
    have touches := State.consumeBridge_touches use d
    refine ⟨(s.onBridge_carries k _).trans touches.carries, (touches.bridge_levels k).trans ?_⟩
    rw [s.onBridge_self k]
    rfl

/-- A bridge that runs empty while the silence monitor runs takes the stop cause (R28, R153). -/
theorem State.consumeBridge_stopTaken {s : State} {k : WebId} {d : Nat} (use : s.webInUse k = true) (short : (s.bridge k).content < d)
    (line : s.lsv.line.monitored = true) : (s.consumeBridge d k).stopTaken .bridgeEmpty .bridge (k.val + 1) := by
  rw [State.consumeBridge_short use short, if_pos line]
  exact State.stopCause_stopTaken ..

/-- The bridges drawn from in their order. -/
theorem State.consumeAll_spec (s : State) (d : Nat) (k : WebId) :
    s.Carries (s.forAll 3 fun t j => t.consumeBridge d j) ∧
      ((s.forAll 3 fun t j => t.consumeBridge d j).bridge k).levels =
        if s.webInUse k then ((s.bridge k).consumed d).levels else (s.bridge k).levels := by
  obtain ⟨x, ⟨before, was⟩, after, is⟩ := State.forAll_turn (i := k) (f := fun t j => t.consumeBridge d j)
    (R := fun t u => t.Carries u ∧ (u.bridge k).levels = (t.bridge k).levels) (fun t => ⟨.refl t, rfl⟩)
    (fun h h' => ⟨h.1.trans h'.1, h'.2.trans h.2⟩) (fun t j other => t.consumeBridge_others d other.symm) s
  obtain ⟨turn, own⟩ := x.consumeBridge_self d k
  have use : x.webInUse k = s.webInUse k := by
    unfold State.webInUse
    rw [before.walls]
  refine ⟨(before.trans turn).trans after, is.trans (own.trans ?_)⟩
  have consumed : ((x.bridge k).consumed d).levels = ((s.bridge k).levels.consumed d).levels := by
    rw [← was]
    rfl
  rw [use, consumed, was]
  rfl

/-! ### The end mark asked for again (R45) -/

/-- The mark of an order's end. -/
def State.endMark (s : State) (tag e : Nat) (incoming : Option Nat) : Mark :=
  { start := e, finish := some (e + s.zc), body := .orderChange tag incoming false }

/-- What the order book makes of the answer to its end mark's insertion. -/
def endMarkAnswered (r : State × InsertAnswer) (incoming : Option Nat) : State :=
  if r.2 = .stored then { r.1 with obk := { r.1.obk with endStatus := .unlocked, pendingIncoming := none } }
  else { r.1 with obk := { r.1.obk with endStatus := .pending, pendingIncoming := incoming } }

theorem State.insertEndMark_eq (s : State) (o : Order) (incoming : Option Nat) :
    s.insertEndMark o incoming = endMarkAnswered (s.insertMark (s.endMark o.tag o.endPos incoming)) incoming := rfl

theorem State.insertEndMark_spec (s : State) (o : Order) (incoming : Option Nat) :
    let r := s.insertMark (s.endMark o.tag o.endPos incoming)
    (s.insertEndMark o incoming).map = r.1.map ∧
      (s.insertEndMark o incoming).obk =
        { s.obk with
          endStatus := if r.2 = .stored then .unlocked else .pending
          pendingIncoming := if r.2 = .stored then none else incoming } := by
  have obk : (s.insertMark (s.endMark o.tag o.endPos incoming)).1.obk = s.obk :=
    (s.insertMark_within _ fun e ends => by
      cases ends
      exact Nat.le_add_right ..).same .obk (by simp)
  rw [State.insertEndMark_eq]
  generalize s.insertMark (s.endMark o.tag o.endPos incoming) = r at obk ⊢
  dsimp only
  rw [← obk]
  unfold endMarkAnswered
  split <;> exact ⟨rfl, rfl⟩

theorem State.retryPending_still {s : State} (h : s.obk.endStatus ≠ .pending ∨ s.runningOrder = none) : s.retryPending = s := by
  unfold State.retryPending
  split
  · next pending =>
    rcases h with h | h
    · exact absurd pending h
    · rw [h]
  · rfl

theorem State.retryPending_tries {s : State} (pending : s.obk.endStatus = .pending) {o : Order} (running : s.runningOrder = some o) :
    s.retryPending =
      (s.onOrder o.tag fun x => { x with endPos := max o.endPos s.upstreamLimit }).insertEndMark
        { o with endPos := max o.endPos s.upstreamLimit } s.obk.pendingIncoming := by
  unfold State.retryPending
  rw [if_pos pending, running]

theorem State.retryPending_spec {s : State} (pending : s.obk.endStatus = .pending) {o : Order} (running : s.runningOrder = some o) :
    let e := max o.endPos s.upstreamLimit
    let r := s.insertMark (s.endMark o.tag e s.obk.pendingIncoming)
    s.retryPending.map = r.1.map ∧
      s.retryPending.obk =
        { s.obk with
          orders := s.obk.orders.map fun x => if x.tag = o.tag then { x with endPos := e } else x
          endStatus := if r.2 = .stored then .unlocked else .pending
          pendingIncoming := if r.2 = .stored then none else s.obk.pendingIncoming } := by
  intro e r
  obtain ⟨map, answer⟩ := State.insertMark_congr (s := s) (t := s.onOrder o.tag fun x => { x with endPos := e }) rfl rfl rfl
    (s.endMark o.tag e s.obk.pendingIncoming)
  obtain ⟨inserted, obk⟩ := (s.onOrder o.tag fun x => { x with endPos := e }).insertEndMark_spec { o with endPos := e } s.obk.pendingIncoming
  rw [State.retryPending_tries pending running]
  refine ⟨inserted.trans map, obk.trans ?_⟩
  rw [show ((s.onOrder o.tag fun x => { x with endPos := e }).insertMark
    ((s.onOrder o.tag fun x => { x with endPos := e }).endMark o.tag e s.obk.pendingIncoming)).2 = r.2 from answer]
  rfl

/-! ### The marks that leave the map (R26) -/

theorem takeFirst_eq_none {p : Mark → Bool} {ms : List Mark} : takeFirst p ms = none ↔ ∀ m ∈ ms, p m = false := by
  induction ms with
  | nil => simp [takeFirst]
  | cons m ms ih =>
    unfold takeFirst
    cases is : p m with
    | true => simp [is]
    | false =>
      simp only [Bool.false_eq_true, if_false, List.forall_mem_cons, is, true_and, ← ih]
      cases takeFirst p ms <;> simp

theorem takeFirst_split {p : Mark → Bool} {pre post : List Mark} {m : Mark} (before : ∀ x ∈ pre, p x = false) (first : p m = true) :
    takeFirst p (pre ++ m :: post) = some (m, pre ++ post) := by
  induction pre with
  | nil => exact if_pos first
  | cons x pre ih =>
    rw [List.cons_append, takeFirst, before x List.mem_cons_self, ih fun y mem => before y (List.mem_cons_of_mem _ mem)]
    rfl

theorem takeFirst_filter {p : Mark → Bool} {ms rest : List Mark} {m : Mark} (h : takeFirst p ms = some (m, rest)) :
    rest.filter (fun x => !p x) = ms.filter fun x => !p x := by
  induction ms generalizing rest with
  | nil => cases h
  | cons x xs ih =>
    unfold takeFirst at h
    split at h
    · next is =>
      cases h
      simp [is]
    · next is =>
      split at h
      · next y ys taken =>
        cases h
        simp [is, ih taken]
      · cases h

theorem State.leaves_iff {s : State} {m : Mark} : s.leaves m = true ↔ ∃ e, m.finish = some e ∧ e + s.dLast ≤ s.linePos := by
  unfold State.leaves
  cases m.finish <;> simp

theorem State.removeMarks_none {s : State} (h : ∀ m ∈ s.map.marks, s.leaves m = false) (n : Nat) : s.removeMarks n = s := by
  cases n with
  | zero => rfl
  | succ n =>
    unfold State.removeMarks
    rw [takeFirst_eq_none.mpr h]

/-- The first mark to leave goes, and the order book is told. -/
theorem State.removeMarks_first {s : State} {pre post : List Mark} {m : Mark} (marks : s.map.marks = pre ++ m :: post)
    (before : ∀ x ∈ pre, s.leaves x = false) (first : s.leaves m = true) :
    s.removeMarks s.map.marks.length = ((s.setMarks (pre ++ post)).retryPending).removeMarks (pre ++ post).length := by
  have length : s.map.marks.length = (pre ++ post).length + 1 := by
    rw [marks]
    simp only [List.length_append, List.length_cons]
    omega
  rw [length, State.removeMarks, marks, takeFirst_split before first]

/-- The state with another list of marks after `n` changes of the map. -/
def State.withMarks (s : State) (ms : List Mark) (n : Nat) : State := { s with map := { s.map with marks := ms, changeCount := n } }

/-- With no end mark pending the marks to leave go, and nothing else changes. -/
theorem State.removeMarks_quiet (n : Nat) {s : State} (quiet : s.obk.endStatus ≠ .pending) (fuel : s.map.marks.length ≤ n) :
    s.removeMarks n = s.withMarks (s.map.marks.filter fun m => !s.leaves m) (s.removeMarks n).map.changeCount := by
  induction n generalizing s with
  | zero =>
    have empty : s.map.marks = [] := List.eq_nil_of_length_eq_zero (Nat.le_zero.mp fuel)
    change s = s.withMarks _ s.map.changeCount
    rw [empty]
    unfold State.withMarks
    rw [List.filter_nil, ← empty]
  | succ n ih =>
    rcases taken : takeFirst s.leaves s.map.marks with _ | ⟨m, rest⟩
    · have none_ := takeFirst_eq_none.mp taken
      have same : (s.map.marks.filter fun m => !s.leaves m) = s.map.marks := List.filter_eq_self.mpr fun m mem => by simp [none_ m mem]
      rw [State.removeMarks_none none_, same]
      rfl
    · obtain ⟨-, length, -⟩ := takeFirst_spec taken
      have step : s.removeMarks (n + 1) = (s.setMarks rest).removeMarks n := by
        rw [State.removeMarks, taken]
        exact congrArg (State.removeMarks n) (State.retryPending_still (.inl quiet))
      rw [step, ih (s := s.setMarks rest) quiet (by
        change rest.length ≤ n
        omega)]
      have filtered : ((s.setMarks rest).map.marks.filter fun m => !(s.setMarks rest).leaves m) = s.map.marks.filter fun m => !s.leaves m :=
        takeFirst_filter taken
      rw [filtered]
      rfl

/-! ### The advance as a whole (R8, R26, R28, R30) -/

theorem State.forAll_three (s : State) (f : State → Fin 3 → State) : s.forAll 3 f = f (f (f s 0) 1) 2 := rfl

/-- The MAP's part: the marks leave, the bridges are drawn from, the entries that are due go over. -/
theorem State.mapAdvance_eq (s : State) (d : Nat) :
    s.mapAdvance d =
      ((((((s.removeMarks s.map.marks.length).consumeBridge d 0).consumeBridge d 1).consumeBridge d 2).transferWeb 0).transferWeb 1).transferWeb 2 := by
  unfold State.mapAdvance
  rw [State.forAll_three, State.forAll_three]

theorem State.mapAdvance_spec (s : State) (d : Nat) :
    s.Carries (s.mapAdvance d) ∧
      ∀ k, ((s.mapAdvance d).bridge k).levels = if s.webInUse k then ((s.bridge k).consumed d).levels else (s.bridge k).levels := by
  have removed := (s.removeMarks_within s.map.marks.length).toTouches
  have transferred (t : State) : t.Within [.map] (t.forAll 3 State.transferWeb) := State.forAll_within fun t k => t.transferWeb_within k
  refine ⟨(removed.carries.trans (State.consumeAll_spec _ d 0).1).trans (transferred _).toTouches.carries, fun k => ?_⟩
  have use : (s.removeMarks s.map.marks.length).webInUse k = s.webInUse k := by
    unfold State.webInUse
    rw [removed.carries.walls]
  have was := removed.bridge_levels k
  have consumed : (((s.removeMarks s.map.marks.length).bridge k).consumed d).levels = ((s.bridge k).levels.consumed d).levels := by
    rw [← was]
    rfl
  refine ((transferred _).toTouches.bridge_levels k).trans ((State.consumeAll_spec _ d k).2.trans ?_)
  rw [use, consumed, was]
  rfl

/-- The blocks that take a LINE advance behind the MAP, in their order (R8, log 2). -/
def State.lineTakers (s : State) (d : Nat) : State :=
  (((((s.lockTest).swapTest).spliceAdvance 6 d).dryEndAdvance).stackAdvance).bondLineAdvance

theorem State.lineTakers_touches (s : State) (d : Nat) :
    s.Touches [.lcu, .map, .obk, .spc, .bnd, .dec, .stk, .lsv, .lnk] (s.lineTakers d) :=
  ((((((s.lockTest_within.mono (by simp)).step (State.swapTest_within _) (by simp)).step (State.spliceAdvance_within ..) (by simp)).step
    (State.dryEndAdvance_within _) (by simp)).step (State.stackAdvance_within _) (by simp)).step
    (State.bondLineAdvance_within _) (by simp)).toTouches

theorem exec_lineAdvance {s : State} {ph : Phase} (held : s.held = false) (counts : s.counts 0)
    (pair : ((s.counter 0).refPhase, ph) ∈ forwardPairs) (debt : (s.counter 0).debt = 0)
    (rises : (s.counter 0).pos < (s.counter 0).counted.pos) (room : (s.counter 0).counted.pos < Config.posLimit) :
    let d := (s.counter 0).counted.pos - (s.counter 0).pos
    exec (.encoderTransition 0 ph) s =
      .next (((s.withCounter 0 ph ((s.counter 0).advanced ph)).mapAdvance d).lineTakers d).beginFrame := by
  rw [exec_encoderTransition_advance held counts pair debt rises room]
  unfold State.deliverAdvance
  rw [dif_pos rfl]
  unfold State.lineAdvance
  rw [State.withCounter_advanced]
  rfl

section LineAdvance

variable (s : State) (ph : Phase) (k : Counter) (d : Nat)

/-- What the advance leaves of the counters and of the blocks that take no part. -/
theorem State.lineAdvance_counters :
    let u := ((s.withCounter 0 ph k).mapAdvance d).lineTakers d
    u.counter 0 = { k with refPhase := ph } ∧ (∀ j : CounterId, j ≠ 0 → u.counter j = s.counter j) ∧ u.dst = s.dst ∧ s.sameButMonitor u ∧
      u.held = s.held ∧ u.fresh = s.fresh ∧ u.pending = s.pending := by
  have all := ((s.withCounter 0 ph k).mapAdvance_spec d).1.trans (State.lineTakers_touches _ d).carries
  refine ⟨?_, fun j other => ?_, all.dst, all.link, all.held, all.fresh, all.pending⟩
  · rw [all.counter, State.withCounter_self]
  · rw [all.counter, State.withCounter_ne _ _ _ other]

theorem State.lineAdvance_bridges :
    let u := ((s.withCounter 0 ph k).mapAdvance d).lineTakers d
    (∀ w : WebId, w.val + 1 ≤ s.walls →
      (u.bridge w).content = (s.bridge w).content - d ∧
      (d ≤ (s.bridge w).content → (u.bridge w).shortfall = (s.bridge w).shortfall) ∧
      ((s.bridge w).content < d →
        (u.bridge w).shortfall = min (2 ^ 44 - 1) ((s.bridge w).shortfall + (d - (s.bridge w).content)))) ∧
    (∀ w : WebId, s.walls < w.val + 1 → (u.bridge w).content = (s.bridge w).content) := by
  intro u
  have levels (w : WebId) : (u.bridge w).levels = if s.webInUse w then ((s.bridge w).consumed d).levels else (s.bridge w).levels :=
    ((State.lineTakers_touches _ d).bridge_levels w).trans (((s.withCounter 0 ph k).mapAdvance_spec d).2 w)
  clear_value u
  refine ⟨fun w use => ?_, fun w unused => ?_⟩
  · have top : Config.posLimit - 1 = 2 ^ 44 - 1 := by decide
    have drawn := levels w
    rw [if_pos (State.webInUse_iff.mpr use)] at drawn
    have shortfall := congrArg Bridge.shortfall drawn
    refine ⟨congrArg Bridge.content drawn, fun enough => ?_, fun short => ?_⟩
    · exact shortfall.trans (if_neg enough.not_gt)
    · rw [← top]
      exact shortfall.trans (if_pos short)
  · have still := levels w
    rw [if_neg (mt State.webInUse_iff.mp unused.not_ge)] at still
    have content : (u.bridge w).levels.content = (s.bridge w).levels.content := congrArg Bridge.content still
    exact content

end LineAdvance

end Sys2Proof.Machine
end

section
/-! PROOF. The lock test of a LINE advance: the end mark locks or is deferred (R47, R48, R157). -/

namespace Sys2Proof.Machine

/-! ### The order book's entries in the ceiling table (R50, R157) -/

/-- The SETUP and GRADE entries, which the order book owns, are the same in both states. -/
structure State.KeepsLimits (s t : State) : Prop where
  setup : t.lsv.ceiling.setup = s.lsv.ceiling.setup
  grade : t.lsv.ceiling.grade = s.lsv.ceiling.grade

theorem State.KeepsLimits.trans {s t u : State} (h : s.KeepsLimits t) (h' : t.KeepsLimits u) : s.KeepsLimits u :=
  ⟨h'.setup.trans h.setup, h'.grade.trans h.grade⟩

theorem State.KeepsLimits.of_lsv {s t : State} (h : t.lsv = s.lsv) : s.KeepsLimits t := ⟨by rw [h], by rw [h]⟩

theorem State.KeepsLimits.after {s t u : State} (h : t.KeepsLimits u) (lsv : t.lsv = s.lsv) : s.KeepsLimits u :=
  State.KeepsLimits.trans (.of_lsv lsv) h

theorem State.enterSplice_keepsLimits (s : State) (i : SpliceId) (p : SplicePhase) : s.KeepsLimits (s.enterSplice i p) := by
  unfold State.enterSplice State.evalSplice
  exact ⟨by rw [State.setEntry_lsv]; rfl, by rw [State.setEntry_lsv]; rfl⟩

theorem State.fireTest_keepsLimits (s : State) (i : SpliceId) : s.KeepsLimits (s.fireTest i) := by
  have armed (t : State) : (t.armChannel i).lsv = t.lsv := by
    unfold State.armChannel
    split <;> rfl
  unfold State.fireTest
  split
  · exact (State.enterSplice_keepsLimits _ i .confirming).after (armed _)
  · exact .of_lsv rfl

theorem State.armTest_keepsLimits (s : State) (i : SpliceId) : s.KeepsLimits (s.armTest i) := by
  have matching : s.KeepsLimits (s.matching i) :=
    (State.enterSplice_keepsLimits (s.onSplice i fun x => { x with accelerate := true, force := false }) i .matching).after rfl
  unfold State.armTest State.enterMatching
  dsimp only
  split
  · split
    · exact (matching.trans (State.enterSplice_keepsLimits _ i .matched)).trans (State.fireTest_keepsLimits _ i)
    · exact matching
  · exact .of_lsv rfl

theorem State.changeLine_keepsLimits (s : State) {new : LineState} (h : new = .run ∨ new = .hold) : s.KeepsLimits (s.changeLine new) := by
  obtain ⟨-, -, lsv⟩ := s.changeLine_announced new
  have arms : (s.entered new).announceSplice new = (s.entered new).armAll := by rcases h with rfl | rfl <;> rfl
  have entered : s.KeepsLimits (s.entered new) := ⟨by rw [State.entered_lsv], by rw [State.entered_lsv]⟩
  have armed : (s.entered new).KeepsLimits (s.entered new).armAll :=
    State.forAll_keeps (fun t i kept => kept.trans (t.armTest_keepsLimits i)) (.of_lsv rfl)
  rw [arms] at lsv
  exact (entered.trans armed).trans (.of_lsv lsv)

theorem State.holdsChanged_keepsLimits (s : State) (h : HoldSet) : s.KeepsLimits (s.holdsChanged h) := by
  rcases s.holdsChanged_cases h with e | e | ⟨new, runs, e⟩ <;> rw [e]
  · exact ⟨rfl, rfl⟩
  · exact ⟨rfl, rfl⟩
  · obtain ⟨setup, grade⟩ := State.changeLine_keepsLimits { s with lsv := { s.lsv with holds := h } } runs
    exact ⟨setup, grade⟩

theorem State.addHold_keepsLimits (s : State) (c : HoldCause) : s.KeepsLimits (s.addHold c) := by
  unfold State.addHold
  split
  · exact .of_lsv rfl
  · exact s.holdsChanged_keepsLimits _

theorem State.removeHold_keepsLimits (s : State) (c : HoldCause) : s.KeepsLimits (s.removeHold c) := by
  unfold State.removeHold
  split
  · exact s.holdsChanged_keepsLimits _
  · exact .of_lsv rfl

theorem State.removeHold_has (s : State) (c : HoldCause) : (s.removeHold c).lsv.holds.has c = false := by
  unfold State.removeHold
  split
  · rw [State.holdsChanged_holds, HoldSet.put_has]
  · next free => exact Bool.eq_false_of_not_eq_true free

theorem State.addHold_raises (s : State) (c : HoldCause) : s.Raises lineKinds (s.addHold c) := by
  unfold State.addHold
  split
  · exact .refl _ s
  · exact s.holdsChanged_raises _

/-- The GRADE entry of a running order: the lower limit of its grade and, the end mark being locked, of the staged order's. -/
theorem State.nameGrades_running {s : State} {o : Order} (running : s.runningOrder = some o) :
    s.nameGrades = s.setEntry .grade
      (leastClaim [s.gradeLimit o, if s.obk.endStatus = .locked then s.stagedOrder.bind s.gradeLimit else none]) := by
  unfold State.nameGrades
  rw [running]

/-! ### Changes of the end mark (R25) -/

theorem State.onUnlocked_marks (s : State) (f : MarkBody → MarkBody) : (s.onUnlocked f).map.marks = changeUnlocked f s.map.marks := by
  unfold State.onUnlocked
  split
  · next same => exact same.symm
  · rfl

theorem changeUnlocked_split {f : MarkBody → MarkBody} {pre post : List Mark} {m : Mark} (before : ∀ x ∈ pre, x.isUnlockedChange = false)
    (first : m.isUnlockedChange = true) : changeUnlocked f (pre ++ m :: post) = pre ++ { m with body := f m.body } :: post := by
  induction pre with
  | nil => exact if_pos first
  | cons x pre ih =>
    rw [List.cons_append, changeUnlocked, before x List.mem_cons_self, ih fun y mem => before y (List.mem_cons_of_mem _ mem)]
    rfl

theorem insertSorted_placed (m : Mark) (ms : List Mark) : PlacedIn (·.start) m ms (insertSorted m ms) := by
  induction ms with
  | nil => exact ⟨[], [], rfl, by simp, by simp, rfl⟩
  | cons x xs ih =>
    by_cases before : m.start < x.start
    · exact ⟨[], x :: xs, rfl, by simp, by simpa using before, if_pos before⟩
    · obtain ⟨pre, post, old, le, lt, new⟩ := ih
      refine ⟨x :: pre, post, by rw [old, List.cons_append], ?_, lt, ?_⟩
      · rintro y (_ | ⟨_, mem⟩)
        · exact not_lt.mp before
        · exact le y mem
      · rw [List.cons_append, ← new]
        exact if_neg before

/-! ### The order book through a change of its records -/

theorem State.orderIn_of_map {s t : State} {f : Order → Order} (orders : t.obk.orders = s.obk.orders.map f)
    (phase : ∀ x, (f x).phase = x.phase) (p : OrderPhase) : t.orderIn p = (s.orderIn p).map f := by
  unfold State.orderIn
  rw [orders, List.find?_map]
  simp only [Function.comp_def, phase]

/-! ### The end mark locks (R47) -/

section LockEnd

variable (s : State) (o t : Order)

/-- The mark locked and the status with it. -/
def State.marked (s : State) : State :=
  { s.lockMark with obk := { s.lockMark.obk with endStatus := .locked, deferral := false } }

theorem State.marked_obk : s.marked.obk = { s.obk with endStatus := .locked, deferral := false } := by
  have obk : s.lockMark.obk = s.obk := s.lockMark_within.same .obk (by simp)
  unfold State.marked
  rw [obk]

/-- The line set free to run at the speed of the coming order. -/
def State.lockFreed (s : State) : State := (s.marked.setEntry .setup none).removeHold .setupOverdue

theorem State.lockEnd_eq : s.lockEnd o t =
    s.lockFreed.nameGrades.raise .orderLocked ⟨.order, o.tag⟩ (natBytes 6 o.endPos ++ natBytes 2 t.tag) := rfl

theorem State.lockFreed_touches : s.marked.Touches [.lcu, .spc, .lsv, .lnk] s.lockFreed :=
  ((State.setEntry_within s.marked .setup none).mono (cs := [.lcu, .spc, .lsv, .lnk]) (by simp)).toTouches.trans (State.removeHold_touches ..)

theorem State.lockEnd_spec {s : State} {o t : Order} (running : s.runningOrder = some o) (staged : s.stagedOrder = some t) :
    let u := s.lockEnd o t
    u.obk = { s.obk with endStatus := .locked, deferral := false } ∧
    (∀ pre post st fin out incoming, s.map.marks = pre ++ ⟨st, fin, .orderChange out incoming false⟩ :: post →
      (∀ x ∈ pre, x.isUnlockedChange = false) →
      u.map.marks = pre ++ ⟨st, fin, .orderChange out incoming true⟩ :: post) ∧
    u.lsv.ceiling.setup = none ∧ u.lsv.holds.setupOverdue = false ∧
    (∀ x y, s.gradeEntry o.grade = some x → s.gradeEntry t.grade = some y → u.lsv.ceiling.grade = some (min x.limit y.limit)) ∧
    u.noticedWith .orderLocked .order o.tag (natBytes 6 o.endPos ++ natBytes 2 t.tag) ∧
    u.lcu.counters = s.lcu.counters ∧ u.dst = s.dst ∧ u.dec = s.dec ∧ u.stk = s.stk := by
  have marked := s.lockMark_within
  have freed := s.lockFreed_touches
  have named := s.lockFreed.nameGrades_within
  have obk : s.lockFreed.obk = { s.obk with endStatus := .locked, deferral := false } := Eq.trans (freed.same .obk (by simp)) s.marked_obk
  have bnd : s.lockFreed.bnd = s.bnd := Eq.trans (freed.same .bnd (by simp)) (marked.same .bnd (by simp))
  have running' : s.lockFreed.runningOrder = some o := by
    rw [← running]
    unfold State.runningOrder State.orderIn
    rw [obk]
  have staged' : s.lockFreed.stagedOrder = some t := by
    rw [← staged]
    unfold State.stagedOrder State.orderIn
    rw [obk]
  have limit (x : Order) : s.lockFreed.gradeLimit x = (s.gradeEntry x.grade).map (·.limit) := by
    unfold State.gradeLimit State.gradeEntry
    rw [bnd]
  have grades : s.lockFreed.nameGrades.lsv = { s.lockFreed.lsv with
      ceiling := s.lockFreed.lsv.ceiling.put .grade (leastClaim [s.lockFreed.gradeLimit o,
        if s.lockFreed.obk.endStatus = .locked then s.lockFreed.stagedOrder.bind s.lockFreed.gradeLimit else none]) } := by
    rw [State.nameGrades_running running', State.setEntry_lsv]
  have setup : s.lockFreed.lsv.ceiling.setup = none := by
    refine (State.removeHold_keepsLimits ..).setup.trans ?_
    rw [State.setEntry_lsv]
    rfl
  have hold : s.lockFreed.lsv.holds.setupOverdue = false := State.removeHold_has (s.marked.setEntry .setup none) .setupOverdue
  have map : s.lockFreed.nameGrades.map = s.lockMark.map := Eq.trans named.map_eq freed.map_eq
  rw [State.lockEnd_eq]
  refine ⟨?_, fun pre post st fin out incoming marks before => ?_, ?_, ?_, fun x y is next => ?_, State.raise_noticedWith .., ?_, ?_, ?_, ?_⟩
  · exact Eq.trans (named.same .obk (by simp)) obk
  · rw [State.raise_map, map]
    refine (s.onUnlocked_marks _).trans ?_
    rw [marks]
    exact changeUnlocked_split before rfl
  · rw [State.raise_lsv, grades]
    exact setup
  · rw [State.raise_lsv, grades]
    exact hold
  · rw [State.raise_lsv, grades, obk, limit, staged', is]
    change leastClaim [some x.limit, s.lockFreed.gradeLimit t] = _
    rw [limit, next]
    rfl
  · have lcu : s.lockMark.lcu = s.lcu := marked.same .lcu (by simp)
    rw [State.raise_lcu, named.lcu, freed.lcu]
    change s.lockMark.lcu.counters = s.lcu.counters
    rw [lcu]
  · exact Eq.trans (named.same .dst (by simp)) (Eq.trans (freed.same .dst (by simp)) (marked.same .dst (by simp)))
  · exact Eq.trans (named.same .dec (by simp)) (Eq.trans (freed.same .dec (by simp)) (marked.same .dec (by simp)))
  · exact Eq.trans (named.same .stk (by simp)) (Eq.trans (freed.same .stk (by simp)) (marked.same .stk (by simp)))

end LockEnd

/-! ### The end mark is deferred (R48) -/

theorem State.moveMark_marks {s : State} {pre post : List Mark} {m : Mark} (marks : s.map.marks = pre ++ m :: post)
    (before : ∀ x ∈ pre, x.isUnlockedChange = false) (first : m.isUnlockedChange = true) (p : Nat) :
    (s.moveMark p).map.marks = insertSorted { m with start := p, finish := some (p + s.zc) } (pre ++ post) := by
  unfold State.moveMark
  rw [marks, takeFirst_split before first]
  rfl

section DeferEnd

variable (s : State) (o : Order)

/-- What the order book has after a deferral. -/
def State.deferredOrder (x : Order) : Order :=
  if x.tag = o.tag then
    { x with endPos := o.endPos + s.obk.deferStep, deferred := min (Config.posLimit - 1) (o.deferred + s.obk.deferStep) }
  else x

theorem State.deferredOrder_self :
    s.deferredOrder o o =
      { o with endPos := o.endPos + s.obk.deferStep, deferred := min (Config.posLimit - 1) (o.deferred + s.obk.deferStep) } := if_pos rfl

theorem State.deferredOrder_phase (x : Order) : (s.deferredOrder o x).phase = x.phase := by
  unfold State.deferredOrder
  split <;> rfl

/-- The end moved, with the length of the deferral. -/
def State.endMoved (s : State) (o : Order) : State :=
  let e := o.endPos + s.obk.deferStep
  let s1 := (s.moveEnd o e).onOrder o.tag fun x => { x with deferred := min (Config.posLimit - 1) (o.deferred + s.obk.deferStep) }
  { s1 with obk := { s1.obk with deferral := true } }

/-- The deferral noticed. -/
def State.endDeferred (s : State) (o : Order) : State :=
  ((s.endMoved o).setEntry .setup (some s.obk.setupCrawl)).raise .orderDeferred ⟨.order, o.tag⟩
    (natBytes 6 (o.endPos + s.obk.deferStep) ++ natBytes 6 (min (Config.posLimit - 1) (o.deferred + s.obk.deferStep)))

theorem State.deferEnd_eq :
    s.deferEnd o =
      if o.deferred < s.obk.maxDeferral ∧ s.obk.maxDeferral ≤ min (Config.posLimit - 1) (o.deferred + s.obk.deferStep) then
        (s.endDeferred o).addHold .setupOverdue
      else s.endDeferred o := rfl

/-- An overdue setup is a hold cause and nothing else. -/
theorem State.deferEnd_after :
    (s.endDeferred o).Touches [.lcu, .spc, .lsv, .lnk] (s.deferEnd o) ∧ (s.endDeferred o).KeepsLimits (s.deferEnd o) ∧
      (s.endDeferred o).Raises lineKinds (s.deferEnd o) ∧
      (o.deferred < s.obk.maxDeferral → s.obk.maxDeferral ≤ min (Config.posLimit - 1) (o.deferred + s.obk.deferStep) →
        (s.deferEnd o).lsv.holds.setupOverdue = true) := by
  rw [State.deferEnd_eq]
  split
  · exact ⟨State.addHold_touches .., State.addHold_keepsLimits .., State.addHold_raises .., fun _ _ => State.addHold_has _ .setupOverdue⟩
  · next timely => exact ⟨.refl _, .of_lsv rfl, .refl _ _, fun short long => absurd ⟨short, long⟩ timely⟩

theorem State.endMoved_rest : s.Within [.map, .obk, .dec, .lsv] (s.endMoved o) :=
  ((s.moveEnd_within o _).step (State.onOrder_within ..) (by simp)).step (State.obk_within _ _) (by simp)

variable {s} {o} (unlocked : s.obk.endStatus = .unlocked) (step : 0 < s.obk.deferStep)
include unlocked step

theorem State.moveEnd_deferred :
    s.moveEnd o (o.endPos + s.obk.deferStep) =
      ((s.onOrder o.tag fun x => { x with endPos := o.endPos + s.obk.deferStep }).moveMark (o.endPos + s.obk.deferStep)).endMarkMoved :=
  if_pos ⟨by omega, unlocked⟩

theorem State.endMoved_obk : (s.endMoved o).obk = { s.obk with orders := s.obk.orders.map (s.deferredOrder o), deferral := true } := by
  have obk : (s.moveEnd o (o.endPos + s.obk.deferStep)).obk =
      { s.obk with orders := s.obk.orders.map fun x => if x.tag = o.tag then { x with endPos := o.endPos + s.obk.deferStep } else x } := by
    rw [State.moveEnd_deferred unlocked step]
    exact Eq.trans ((State.endMarkMoved_within _).same .obk (by simp)) ((State.moveMark_within ..).same .obk (by simp))
  unfold State.endMoved State.onOrder
  dsimp only
  rw [obk]
  simp only [List.map_map]
  congr 1
  refine List.map_congr_left fun x _ => ?_
  unfold State.deferredOrder
  by_cases same : x.tag = o.tag <;> simp [same]

theorem State.endMoved_marks {pre post : List Mark} {m : Mark} (marks : s.map.marks = pre ++ m :: post)
    (before : ∀ x ∈ pre, x.isUnlockedChange = false) (first : m.isUnlockedChange = true) :
    (s.endMoved o).map.marks =
      insertSorted { m with start := o.endPos + s.obk.deferStep, finish := some (o.endPos + s.obk.deferStep + s.zc) } (pre ++ post) := by
  have moved : (s.endMoved o).map = (s.moveEnd o (o.endPos + s.obk.deferStep)).map := rfl
  rw [moved, State.moveEnd_deferred unlocked step, (State.endMarkMoved_within _).map_eq]
  exact State.moveMark_marks (s := s.onOrder o.tag _) marks before first _

/-- What a deferral does to the end mark and to the line. -/
theorem State.deferEnd_spec :
    let u := s.deferEnd o
    let e := o.endPos + s.obk.deferStep
    let deferred := min (Config.posLimit - 1) (o.deferred + s.obk.deferStep)
    u.obk = { s.obk with orders := s.obk.orders.map (s.deferredOrder o), deferral := true } ∧
    (∀ pre m post, s.map.marks = pre ++ m :: post → (∀ x ∈ pre, x.isUnlockedChange = false) → m.isUnlockedChange = true →
      PlacedIn (·.start) { m with start := e, finish := some (e + s.zc) } (pre ++ post) u.map.marks) ∧
    u.lsv.ceiling.setup = some s.obk.setupCrawl ∧
    (o.deferred < s.obk.maxDeferral → s.obk.maxDeferral ≤ deferred → u.lsv.holds.setupOverdue = true) ∧
    u.noticedWith .orderDeferred .order o.tag (natBytes 6 e ++ natBytes 6 deferred) ∧
    u.lcu.counters = s.lcu.counters ∧ u.lcu.geometry = s.lcu.geometry ∧ u.dst = s.dst ∧ u.stk = s.stk := by
  obtain ⟨after, limits, raises, overdue⟩ := s.deferEnd_after o
  have moved := s.endMoved_rest o
  have noticed : (s.endMoved o).Within [.lsv] (s.endDeferred o) := (State.setEntry_within _ .setup _).step (State.raise_within ..) (by simp)
  refine ⟨?_, fun pre m post marks before first => ?_, ?_, overdue, ?_, ?_, ?_, ?_, ?_⟩
  · exact Eq.trans (after.same .obk (by simp)) (Eq.trans (noticed.same .obk (by simp)) (State.endMoved_obk unlocked step))
  · rw [after.map_eq, noticed.map_eq, State.endMoved_marks unlocked step marks before first]
    exact insertSorted_placed ..
  · refine limits.setup.trans ?_
    unfold State.endDeferred
    rw [State.raise_lsv, State.setEntry_lsv]
    rfl
  · exact raises.noticedWith (State.raise_noticedWith ..) (by simp [lineKinds])
  · rw [after.lcu, noticed.lcu, moved.lcu]
  · rw [after.lcu, noticed.lcu, moved.lcu]
  · exact Eq.trans (after.same .dst (by simp)) (Eq.trans (noticed.same .dst (by simp)) (moved.same .dst (by simp)))
  · exact Eq.trans (after.same .stk (by simp)) (Eq.trans (noticed.same .stk (by simp)) (moved.same .stk (by simp)))

end DeferEnd

/-! ### The lock test (R47) -/

/-- LINE has reached the lock point of an unlocked end mark. -/
def State.locksNow (s : State) (o : Order) : Prop := s.obk.endStatus = .unlocked ∧ o.endPos + s.dSlit ≤ s.linePos + s.obk.lockMargin

section LockTest

variable {s : State} {o : Order} (running : s.runningOrder = some o)
include running

theorem State.lockLoop_rests (h : ¬s.locksNow o) (n : Nat) : s.lockLoop n = s := by
  cases n with
  | zero => rfl
  | succ n =>
    unfold State.lockLoop
    rw [running]
    exact if_neg fun now => h (by simpa [State.locksNow, State.lockReached] using now)

theorem State.lockLoop_locks (h : s.locksNow o) {t : Order} (ready : s.readyOrder = some t) (n : Nat) : s.lockLoop (n + 1) = s.lockEnd o t := by
  unfold State.lockLoop
  rw [running, ready]
  exact if_pos (by simpa [State.locksNow, State.lockReached] using h)

theorem State.lockLoop_defers (h : s.locksNow o) (unready : s.readyOrder = none) (n : Nat) :
    s.lockLoop (n + 1) = (s.deferEnd o).lockLoop n := by
  rw [State.lockLoop, running, unready]
  exact if_pos (by simpa [State.locksNow, State.lockReached] using h)

theorem State.lockFuel_running :
    s.lockFuel = (s.linePos + s.obk.lockMargin - (o.endPos + s.dSlit)) / max 1 s.obk.deferStep + 2 := by
  unfold State.lockFuel
  rw [running]

theorem State.lockTest_rests (h : ¬s.locksNow o) : s.lockTest = s := State.lockLoop_rests running h _

theorem State.lockTest_locks (h : s.locksNow o) {t : Order} (ready : s.readyOrder = some t) : s.lockTest = s.lockEnd o t := by
  unfold State.lockTest
  rw [State.lockFuel_running running]
  exact State.lockLoop_locks running h ready _

/-- A deferral made, the test is made again: the fuel lasts for every step that the end mark has to take. -/
theorem State.lockTest_defers (h : s.locksNow o) (unready : s.readyOrder = none) (step : 0 < s.obk.deferStep) :
    s.lockTest = (s.deferEnd o).lockTest := by
  obtain ⟨unlocked, reached⟩ := h
  obtain ⟨obk, -, -, -, -, counters, geometry, -⟩ := State.deferEnd_spec unlocked step (o := o)
  have line : (s.deferEnd o).linePos = s.linePos := by
    unfold State.linePos State.counter
    rw [counters]
  have slit : (s.deferEnd o).dSlit = s.dSlit := by
    unfold State.dSlit
    rw [geometry]
  have running' : (s.deferEnd o).runningOrder = some (s.deferredOrder o o) := by
    unfold State.runningOrder
    rw [State.orderIn_of_map (s := s) (t := s.deferEnd o) (by rw [obk]) (s.deferredOrder_phase o)]
    exact congrArg (Option.map _) running
  have fuel' := State.lockFuel_running running'
  rw [line, slit, State.deferredOrder_self] at fuel'
  have margin : (s.deferEnd o).obk.lockMargin = s.obk.lockMargin := by rw [obk]
  have step' : (s.deferEnd o).obk.deferStep = s.obk.deferStep := by rw [obk]
  rw [margin, step', max_eq_right step] at fuel'
  have taken : s.lockTest = (s.deferEnd o).lockLoop ((s.linePos + s.obk.lockMargin - (o.endPos + s.dSlit)) / s.obk.deferStep + 1) := by
    unfold State.lockTest
    rw [State.lockFuel_running running, max_eq_right step]
    exact State.lockLoop_defers running ⟨unlocked, reached⟩ unready _
  rw [taken]
  by_cases again : (s.deferEnd o).locksNow (s.deferredOrder o o)
  · have reach : o.endPos + s.obk.deferStep + s.dSlit ≤ s.linePos + s.obk.lockMargin := by
      have far := again.2
      rw [line, slit, margin, State.deferredOrder_self] at far
      exact far
    unfold State.lockTest
    rw [fuel']
    congr 1
    have split : s.linePos + s.obk.lockMargin - (o.endPos + s.dSlit) =
        s.linePos + s.obk.lockMargin - (o.endPos + s.obk.deferStep + s.dSlit) + s.obk.deferStep := by omega
    rw [split, Nat.add_div_right _ step]
  · rw [State.lockLoop_rests running' again, State.lockTest_rests running' again]

end LockTest

theorem State.lockTest_idle {s : State} (h : s.runningOrder = none) : s.lockTest = s := by
  unfold State.lockTest State.lockFuel
  rw [h]
  rfl

end Sys2Proof.Machine
end

section
/-! PROOF. The swap test of a LINE advance: the staged order runs, the running one drains, the next one is staged (R41, R42, R49, R57). -/

namespace Sys2Proof.Machine

/-! ### Finding an order -/

theorem find?_map_fixed {α : Type} {p : α → Bool} {f : α → α} {l : List α} (same : ∀ x ∈ l, p (f x) = p x) (fixed : ∀ x ∈ l, p x = true → f x = x) :
    (l.map f).find? p = l.find? p := by
  induction l with
  | nil => rfl
  | cons x xs ih =>
    have rest := ih (fun y mem => same y (List.mem_cons_of_mem _ mem)) (fun y mem => fixed y (List.mem_cons_of_mem _ mem))
    rw [List.map_cons, List.find?_cons, List.find?_cons, same x List.mem_cons_self, rest]
    split
    · next is => rw [fixed x List.mem_cons_self is]
    · rfl

theorem eq_of_filter_le_one {α : Type} {p : α → Bool} {l : List α} (one : (l.filter p).length ≤ 1) {x y : α} (hx : x ∈ l) (hy : y ∈ l)
    (px : p x = true) (py : p y = true) : x = y := by
  have mx : x ∈ l.filter p := List.mem_filter.mpr ⟨hx, px⟩
  have my : y ∈ l.filter p := List.mem_filter.mpr ⟨hy, py⟩
  rcases shape : l.filter p with _ | ⟨a, _ | ⟨b, rest⟩⟩
  · rw [shape] at mx
    cases mx
  · rw [shape] at mx my
    rw [List.mem_singleton.mp mx, List.mem_singleton.mp my]
  · rw [shape] at one
    simp at one

theorem State.orderIn_mem {s : State} {p : OrderPhase} {o : Order} (h : s.orderIn p = some o) : o ∈ s.obk.orders ∧ o.phase = p :=
  ⟨List.mem_of_find?_eq_some h, by simpa using List.find?_some h⟩

theorem State.findOrder_of_map {s t : State} {f : Order → Order} (orders : t.obk.orders = s.obk.orders.map f) (tags : ∀ x, (f x).tag = x.tag)
    (tag : Nat) : t.findOrder tag = (s.findOrder tag).map f := by
  unfold State.findOrder
  rw [orders, List.find?_map]
  simp only [Function.comp_def, tags]

section Book

variable {s : State} (tags : (s.obk.orders.map (·.tag)).Nodup)
include tags

theorem State.order_of_tag {x y : Order} (hx : x ∈ s.obk.orders) (hy : y ∈ s.obk.orders) (same : x.tag = y.tag) : x = y :=
  List.inj_on_of_nodup_map tags hx hy same

theorem State.findOrder_of_mem {o : Order} (mem : o ∈ s.obk.orders) : s.findOrder o.tag = some o := by
  rcases found : s.findOrder o.tag with _ | x
  · exact absurd (List.find?_eq_none.mp found o mem) (by simp)
  · have same : x.tag = o.tag := by simpa using List.find?_some found
    rw [State.order_of_tag tags (List.mem_of_find?_eq_some found) mem same]

end Book

/-! ### The swap of the stations (R120) -/

/-- A station after the swap that engages station `i`. -/
def SlitStation.swapped (g : SlitStation) (engages : Prop) [Decidable engages] : SlitStation :=
  if engages then { g with state := .engaged } else if g.state = .engaged then { g with state := .idle, setup := none } else g

theorem State.swapStations_slit (s : State) (i k : SlitId) : (s.swapStations i).slit k = (s.slit k).swapped (k = i) := by
  obtain ⟨x, before, after⟩ := State.forAll_turn (i := k) (R := fun t u : State => u.slit k = t.slit k) (fun _ => rfl) (fun h h' => h'.trans h)
    (f := fun t j => t.onSlit j fun g => g.swapped (j = i)) (fun t j other => getElem_modifyAt_ne _ _ other.symm) s
  have turns : s.swapStations i = s.forAll 2 fun t j => t.onSlit j fun g => g.swapped (j = i) := rfl
  have own : (x.onSlit k fun g => g.swapped (k = i)).slit k = (x.slit k).swapped (k = i) := getElem_modifyAt_self ..
  rw [turns, after, own, before]

theorem State.swapStations_rest (s : State) (i : SlitId) :
    s.swapStations i = { s with dec := { s.dec with stations := (s.swapStations i).dec.stations } } := rfl

/-- The stations swapped for the order that comes to run. -/
def State.stationsSwapped (s : State) (t : Order) : State :=
  match t.station with
  | some i => s.swapStations i
  | none => s

theorem State.stationsSwapped_rest (s : State) (t : Order) :
    s.stationsSwapped t = { s with dec := { s.dec with stations := (s.stationsSwapped t).dec.stations } } := by
  unfold State.stationsSwapped
  split
  · exact s.swapStations_rest _
  · rfl

theorem State.stationsSwapped_slit {s : State} {t : Order} {i : SlitId} (station : t.station = some i) (k : SlitId) :
    (s.stationsSwapped t).slit k = (s.slit k).swapped (k = i) := by
  unfold State.stationsSwapped
  rw [station]
  exact s.swapStations_slit i k

theorem State.handLane_rest (s : State) (o : Order) (j : LaneId) :
    s.handLane o j = { s with dec := { s.dec with lanes := (s.handLane o j).dec.lanes } } := by
  unfold State.handLane
  split <;> rfl

theorem State.handCuts_rest (s : State) (o : Order) : s.handCuts o = { s with dec := { s.dec with lanes := (s.handCuts o).dec.lanes } } := by
  unfold State.handCuts
  rw [State.handLane_rest, State.handLane_rest s]

/-! ### The orders change places (R49) -/

section Swap

variable (s : State) (o t : Order)

/-- The record of the order that comes to run. -/
def State.swapIn : Order := t.started (o.endPos + s.zc)

/-- The book's records through a swap. -/
def State.swapRecord (x : Order) : Order :=
  if x.tag = t.tag then s.swapIn o t else if x.tag = o.tag then { x with phase := .draining, station := none } else x

theorem State.swapRecord_tag (x : Order) : (s.swapRecord o t x).tag = x.tag := by
  unfold State.swapRecord
  split
  · next same => exact same.symm
  · split <;> rfl

/-- The stations swapped and the records changed, before the end mark of the running order is asked for. -/
def State.swapBooked : State :=
  ((((s.stationsSwapped t).onOrder o.tag fun x => { x with phase := .draining, station := none }).onOrder t.tag fun _ => s.swapIn o t)).handCuts
    (s.swapIn o t)

/-- The order started, before the next one is staged. -/
def State.swapBegun : State :=
  ((s.swapBooked o t).insertEndMark (s.swapIn o t) none).nameGrades.raise .orderStarted ⟨.order, t.tag⟩ (natBytes 6 (o.endPos + s.zc))

theorem State.swapBooked_rest :
    s.swapBooked o t = { s with
      dec := { s.dec with stations := (s.stationsSwapped t).dec.stations, lanes := (s.swapBooked o t).dec.lanes }
      obk := { s.obk with orders := (s.swapBooked o t).obk.orders } } := by
  unfold State.swapBooked
  rw [State.handCuts_rest, State.stationsSwapped_rest]
  rfl

section Booked

variable {s} {o t} (book : s.BookOk) (running : s.runningOrder = some o) (staged : s.stagedOrder = some t)
include book running staged

/-- The two orders of a swap are two orders of the book. -/
theorem State.swap_orders : o ∈ s.obk.orders ∧ o.phase = .running ∧ t ∈ s.obk.orders ∧ t.phase = .staged ∧ o.tag ≠ t.tag := by
  obtain ⟨here, runs⟩ := State.orderIn_mem running
  obtain ⟨there, waits⟩ := State.orderIn_mem staged
  refine ⟨here, runs, there, waits, fun same => ?_⟩
  rw [State.order_of_tag book.tags here there same, waits] at runs
  cases runs

/-- An order of the book is one of the two, or neither runs nor is staged. -/
theorem State.swapRecord_cases {x : Order} (mem : x ∈ s.obk.orders) :
    (x = t ∧ s.swapRecord o t x = s.swapIn o t) ∨ (x = o ∧ s.swapRecord o t x = { o with phase := .draining, station := none }) ∨
      (s.swapRecord o t x = x ∧ x.tag ≠ o.tag ∧ x.tag ≠ t.tag ∧ x.phase ≠ .running ∧ x.phase ≠ .staged) := by
  obtain ⟨here, runs, there, waits, apart⟩ := State.swap_orders book running staged
  unfold State.swapRecord
  by_cases ist : x.tag = t.tag
  · exact .inl ⟨State.order_of_tag book.tags mem there ist, if_pos ist⟩
  · rw [if_neg ist]
    by_cases iso : x.tag = o.tag
    · have same := State.order_of_tag book.tags mem here iso
      exact .inr (.inl ⟨same, by rw [if_pos iso, same]⟩)
    · refine .inr (.inr ⟨if_neg iso, iso, ist, fun phase => iso ?_, fun phase => ist ?_⟩)
      · exact congrArg Order.tag (eq_of_filter_le_one book.running mem here (by simpa using phase) (by simpa using runs))
      · exact congrArg Order.tag (eq_of_filter_le_one book.staged mem there (by simpa using phase) (by simpa using waits))

theorem State.swapBooked_orders : (s.swapBooked o t).obk.orders = s.obk.orders.map (s.swapRecord o t) := by
  obtain ⟨-, -, -, -, apart⟩ := State.swap_orders book running staged
  have handed : (s.swapBooked o t).obk.orders = (((s.stationsSwapped t).onOrder o.tag fun x => { x with phase := .draining, station := none }).onOrder
      t.tag fun _ => s.swapIn o t).obk.orders := by
    unfold State.swapBooked
    rw [State.handCuts_rest]
  rw [handed, State.stationsSwapped_rest]
  simp only [State.onOrder, List.map_map]
  refine List.map_congr_left fun x _ => ?_
  unfold State.swapRecord
  by_cases iso : x.tag = o.tag
  · simp [iso, apart]
  · simp [iso]

/-- The incoming order is the one that runs. -/
theorem State.swapRecord_running {x : Order} (mem : x ∈ s.obk.orders.map (s.swapRecord o t)) (phase : x.phase = .running) : x = s.swapIn o t := by
  obtain ⟨y, there, rfl⟩ := List.mem_map.mp mem
  rcases State.swapRecord_cases book running staged there with ⟨-, e⟩ | ⟨-, e⟩ | ⟨e, -, -, rests, -⟩
  · exact e
  · rw [e] at phase
    cases phase
  · rw [e] at phase
    exact absurd phase rests

omit book running staged in
/-- The end mark of the incoming order is answered as it would be before the swap. -/
theorem State.swapBooked_marks :
    ((s.swapBooked o t).insertEndMark (s.swapIn o t) none).map = (s.insertMark (s.endMark t.tag (s.swapIn o t).endPos none)).1.map ∧
      ((s.swapBooked o t).insertEndMark (s.swapIn o t) none).obk =
        { (s.swapBooked o t).obk with
          endStatus := if (s.insertMark (s.endMark t.tag (s.swapIn o t).endPos none)).2 = .stored then .unlocked else .pending
          pendingIncoming := none } := by
  obtain ⟨map, lcu, zc⟩ : (s.swapBooked o t).map = s.map ∧ (s.swapBooked o t).lcu = s.lcu ∧ (s.swapBooked o t).zc = s.zc := by
    rw [State.swapBooked_rest]
    exact ⟨rfl, rfl, rfl⟩
  obtain ⟨inserted, obk⟩ := (s.swapBooked o t).insertEndMark_spec (s.swapIn o t) none
  have mark : (s.swapBooked o t).endMark (s.swapIn o t).tag (s.swapIn o t).endPos none = s.endMark t.tag (s.swapIn o t).endPos none := by
    unfold State.endMark
    rw [zc]
    rfl
  have line : (s.swapBooked o t).linePos = s.linePos := by
    unfold State.linePos State.counter
    rw [lcu]
  have last : (s.swapBooked o t).dLast = s.dLast := by
    unfold State.dLast
    rw [lcu]
  obtain ⟨marks, answer⟩ := State.insertMark_congr map line last (s.endMark t.tag (s.swapIn o t).endPos none)
  rw [mark] at inserted obk
  rw [answer, ite_self] at obk
  exact ⟨inserted.trans marks, obk⟩

omit book running staged in
theorem State.swapBegun_within : ((s.swapBooked o t).insertEndMark (s.swapIn o t) none).Within [.lsv] (s.swapBegun o t) := by
  unfold State.swapBegun
  exact (State.nameGrades_within _).step (State.raise_within ..) (by simp)

theorem State.swapBegun_obk :
    (s.swapBegun o t).obk =
      { s.obk with
        orders := s.obk.orders.map (s.swapRecord o t)
        endStatus := if (s.insertMark (s.endMark t.tag (s.swapIn o t).endPos none)).2 = .stored then .unlocked else .pending
        pendingIncoming := none } ∧
      (s.swapBegun o t).map = (s.insertMark (s.endMark t.tag (s.swapIn o t).endPos none)).1.map := by
  obtain ⟨marks, answered⟩ := s.swapBooked_marks (o := o) (t := t)
  have begun := s.swapBegun_within (o := o) (t := t)
  have booked : (s.swapBooked o t).obk = { s.obk with orders := s.obk.orders.map (s.swapRecord o t) } := by
    rw [← State.swapBooked_orders book running staged, s.swapBooked_rest o t]
  have same : (s.swapBegun o t).obk = ((s.swapBooked o t).insertEndMark (s.swapIn o t) none).obk := begun.same .obk (by simp)
  exact ⟨by rw [same, answered, booked], begun.map_eq.trans marks⟩

theorem State.swapBegun_grade : (s.swapBegun o t).lsv.ceiling.grade = (s.gradeEntry t.grade).map (·.limit) := by
  obtain ⟨-, -, there, -⟩ := State.swap_orders book running staged
  obtain ⟨obk, -⟩ := State.swapBegun_obk book running staged
  have begun := s.swapBegun_within (o := o) (t := t)
  have booked : ((s.swapBooked o t).insertEndMark (s.swapIn o t) none).obk = (s.swapBegun o t).obk := (begun.same .obk (by simp)).symm
  generalize inserted : (s.swapBooked o t).insertEndMark (s.swapIn o t) none = v at booked
  have runs : v.runningOrder = some (s.swapIn o t) := by
    have mem : s.swapIn o t ∈ s.obk.orders.map (s.swapRecord o t) := List.mem_map.mpr ⟨t, there, if_pos rfl⟩
    unfold State.runningOrder
    rcases found : v.orderIn .running with _ | x
    · have none_ := List.find?_eq_none.mp found (s.swapIn o t) (by rw [booked, obk]; exact mem)
      exact absurd (decide_eq_true rfl) none_
    · obtain ⟨xmem, phase⟩ := State.orderIn_mem found
      rw [booked, obk] at xmem
      rw [State.swapRecord_running book running staged xmem phase]
  have unlocked : v.obk.endStatus ≠ .locked := by
    rw [booked, obk]
    dsimp only
    split <;> simp
  have bnd : v.bnd = s.bnd := by
    have kept : v.bnd = (s.swapBooked o t).bnd := by
      rw [← inserted]
      exact (State.insertEndMark_within ..).same .bnd (by simp)
    rw [kept, s.swapBooked_rest o t]
  have limit : v.gradeLimit (s.swapIn o t) = (s.gradeEntry t.grade).map (·.limit) := by
    unfold State.gradeLimit State.gradeEntry
    rw [bnd]
    rfl
  unfold State.swapBegun
  rw [inserted, State.raise_lsv, State.nameGrades_running runs, State.setEntry_lsv, if_neg unlocked]
  change leastClaim [v.gradeLimit (s.swapIn o t), none] = _
  rw [limit]
  cases s.gradeEntry t.grade <;> rfl

end Booked

end Swap

/-! ### Staging (R42, R43) -/

/-- The record of an order that is staged. -/
def stagedRecord (i : SlitId) (q x : Order) : Order :=
  if x.tag = q.tag then { x with phase := .staged, station := some i, setup := .positioning } else x

theorem stagedRecord_tag (i : SlitId) (q x : Order) : (stagedRecord i q x).tag = x.tag := by
  unfold stagedRecord
  split <;> rfl

theorem stagedRecord_ne {i : SlitId} {q x : Order} (h : x.tag ≠ q.tag) : stagedRecord i q x = x := if_neg h

/-- The queued order in its station, positioning. -/
def State.positioned (s : State) (i : SlitId) (q : Order) : State :=
  (s.onOrder q.tag fun x => { x with phase := .staged, station := some i, setup := .positioning }).onSlit i fun g =>
    { g with setup := some ⟨q.tag, q.knives, q.scores⟩, heads := .goto ⟨q.tag, q.knives, q.scores⟩, state := .positioning }

/-- The staging of an order: its station positions, its tag joins the end mark, and the host is told. -/
def State.stageAt (s : State) (i : SlitId) (q : Order) : State :=
  ((s.positioned i q).setEndIncoming (some q.tag)).raise .orderStaged ⟨.order, q.tag⟩ (natBytes 1 (i.val + 1))

/-- The station reports to the order book what the book has already. -/
theorem State.startPositioning_staged (s : State) (i : SlitId) (q : Order) :
    (s.onOrder q.tag fun x => { x with phase := .staged, station := some i, setup := .positioning }).startPositioning i
      { tag := q.tag, knives := q.knives, scores := q.scores } = s.positioned i q := by
  have own : ((s.positioned i q).slit i).setup = some ⟨q.tag, q.knives, q.scores⟩ := by
    unfold State.positioned State.slit
    exact congrArg SlitStation.setup (getElem_modifyAt_self ..)
  have reported : (s.positioned i q).reportSetup i .positioning = (s.positioned i q).onOrder q.tag fun x => { x with setup := .positioning } := by
    unfold State.reportSetup
    rw [own]
  have still : ((s.positioned i q).onOrder q.tag fun x => { x with setup := .positioning }) = s.positioned i q := by
    have orders : ((s.positioned i q).obk.orders.map fun x => if x.tag = q.tag then { x with setup := .positioning } else x) =
        (s.positioned i q).obk.orders := by
      unfold State.positioned State.onOrder State.onSlit
      rw [List.map_map]
      refine List.map_congr_left fun x _ => ?_
      by_cases same : x.tag = q.tag <;> simp [same]
    unfold State.onOrder
    rw [orders]
  exact reported.trans still

theorem State.applyStaging_cases (s : State) :
    s.applyStaging = s ∨
      ∃ i q, s.stagedOrder = none ∧ s.idleStation = some i ∧ s.orderIn .queued = some q ∧ s.applyStaging = s.stageAt i q := by
  unfold State.applyStaging
  split
  · next i q staged idle queued =>
    refine .inr ⟨i, q, staged, idle, queued, ?_⟩
    dsimp only
    rw [State.startPositioning_staged]
    rfl
  · exact .inl rfl

theorem State.applyStaging_without {s : State} (queued : s.orderIn .queued = none) : s.applyStaging = s := by
  rcases s.applyStaging_cases with e | ⟨i, q, -, -, waiting, -⟩
  · exact e
  · rw [queued] at waiting
    cases waiting

theorem State.applyStaging_stages {s : State} {i : SlitId} {q : Order} (staged : s.stagedOrder = none) (idle : s.idleStation = some i)
    (queued : s.orderIn .queued = some q) : s.applyStaging = s.stageAt i q := by
  unfold State.applyStaging
  rw [staged, idle, queued]
  dsimp only
  rw [State.startPositioning_staged]
  rfl

theorem State.onUnlocked_lnk (s : State) (f : MarkBody → MarkBody) : (s.onUnlocked f).lnk = s.lnk := by
  unfold State.onUnlocked
  split <;> rfl

theorem State.setEndIncoming_lnk (s : State) (t : Option Nat) : (s.setEndIncoming t).lnk = s.lnk := by
  unfold State.setEndIncoming
  split
  · exact s.onUnlocked_lnk _
  all_goals rfl

theorem State.setEndIncoming_spec (s : State) (t : Option Nat) :
    (s.setEndIncoming t).obk = { s.obk with pendingIncoming := if s.obk.endStatus = .pending then t else s.obk.pendingIncoming } ∧
      (s.obk.endStatus = .unlocked → (s.setEndIncoming t).map = (s.setIncoming t).map) ∧ (s.setEndIncoming t).dec = s.dec ∧
      (s.setEndIncoming t).lsv = s.lsv := by
  have set := s.setIncoming_within t
  unfold State.setEndIncoming
  split
  · next status => exact ⟨Eq.trans (set.same .obk (by simp)) (by rw [if_neg (by simp [status])]), fun _ => rfl, set.same .dec (by simp),
      set.same .lsv (by simp)⟩
  · next status => exact ⟨by rw [if_pos status], fun is => by simp [status] at is, rfl, rfl⟩
  · next status => exact ⟨by rw [if_neg (by simp [status])], fun is => by simp [status] at is, rfl, rfl⟩
  · next status => exact ⟨by rw [if_neg (by simp [status])], fun is => by simp [status] at is, rfl, rfl⟩

/-- What the staging of an order leaves and does. -/
theorem State.stageAt_spec (s : State) (i : SlitId) (q : Order) :
    (s.stageAt i q).obk =
      { s.obk with
        orders := s.obk.orders.map (stagedRecord i q)
        pendingIncoming := if s.obk.endStatus = .pending then some q.tag else s.obk.pendingIncoming } ∧
      (s.obk.endStatus = .unlocked → (s.stageAt i q).map.marks =
        changeUnlocked (fun | .orderChange out _ locked => .orderChange out (some q.tag) locked | other => other) s.map.marks) ∧
      ((s.stageAt i q).slit i).state = .positioning ∧ ((s.stageAt i q).slit i).setup = some ⟨q.tag, q.knives, q.scores⟩ ∧
      (∀ k, k ≠ i → (s.stageAt i q).slit k = s.slit k) ∧ (s.stageAt i q).lsv = s.lsv ∧ s.Raises [.orderStaged] (s.stageAt i q) := by
  obtain ⟨obk, map, dec, lsv⟩ := (s.positioned i q).setEndIncoming_spec (some q.tag)
  have slit (k : SlitId) : (s.stageAt i q).slit k = (s.positioned i q).slit k := by
    unfold State.slit
    exact congrArg (fun x : Dec => x.stations[k]) dec
  have own : (s.positioned i q).slit i = { s.slit i with
      setup := some ⟨q.tag, q.knives, q.scores⟩, heads := .goto ⟨q.tag, q.knives, q.scores⟩, state := .positioning } :=
    getElem_modifyAt_self ..
  refine ⟨obk, fun unlocked => ?_, ?_, ?_, fun k other => (slit k).trans (getElem_modifyAt_ne _ _ other), lsv, ?_⟩
  · refine (congrArg WebMap.marks (map unlocked)).trans ?_
    exact State.onUnlocked_marks ..
  · rw [slit, own]
  · rw [slit, own]
  · exact (State.raise_raises _ (k := .orderStaged) _ _ (by simp)).after (State.setEndIncoming_lnk ..)

/-! ### An order that is done (R57) -/

theorem Order.allComplete_iff {o : Order} :
    o.allComplete = true ↔ ∀ j : LaneId, (o.lane j).isSome = true → o.runs[j].complete = true := by
  have zero : (o.lane 0).isSome = true := rfl
  have one : o.lane 1 = o.lane2 := rfl
  have second : (o.lane2.isNone || o.runs[(1 : LaneId)].complete) = true ↔ (o.lane2.isSome = true → o.runs[(1 : LaneId)].complete = true) := by
    cases o.lane2 <;> simp
  change (o.runs[(0 : LaneId)].complete && (o.lane2.isNone || o.runs[(1 : LaneId)].complete)) = true ↔ _
  rw [Bool.and_eq_true, second]
  constructor
  · rintro ⟨first, other⟩ j
    match j with
    | 0 => exact fun _ => first
    | 1 => exact other
  · exact fun all => ⟨all 0 zero, all 1⟩

/-- The order's record as it leaves the machine. -/
def Order.finished (o : Order) : Order := { o with phase := .done, outcome := o.finalOutcome }

/-- The book with a finished order at its tail. -/
def State.filed (s : State) (tag : Nat) (o : Order) : State :=
  { s with obk := { s.obk with orders := (s.obk.orders.filter fun x => x.tag ≠ tag) ++ [o.finished] } }

theorem State.filed_findOrder_self (s : State) (o : Order) : (s.filed o.tag o).findOrder o.tag = some o.finished := by
  have gone : (s.obk.orders.filter fun x => x.tag ≠ o.tag).find? (fun x => x.tag = o.tag) = none := by
    rw [List.find?_eq_none]
    intro x mem
    simpa using (List.mem_filter.mp mem).2
  have here : [o.finished].find? (fun x => x.tag = o.tag) = some o.finished := List.find?_cons_of_pos (by simp [Order.finished])
  unfold State.findOrder State.filed
  rw [List.find?_append, gone, here]
  rfl

theorem State.filed_findOrder_ne (s : State) {o : Order} {x : Nat} (h : x ≠ o.tag) : (s.filed o.tag o).findOrder x = s.findOrder x := by
  have kept : (s.obk.orders.filter fun y => y.tag ≠ o.tag).find? (fun y => y.tag = x) = s.obk.orders.find? fun y => y.tag = x := by
    rw [List.find?_filter]
    congr 1
    funext y
    by_cases same : y.tag = x <;> simp [same, h]
  have apart : [o.finished].find? (fun y => y.tag = x) = none := List.find?_eq_none.mpr fun y mem => by
    rw [List.mem_singleton.mp mem]
    exact fun same => h (of_decide_eq_true same).symm
  unfold State.findOrder State.filed
  rw [List.find?_append, kept, apart, Option.or_none]

theorem State.doneTest_waits {s : State} {tag : Nat} {o : Order} (found : s.findOrder tag = some o) (open_ : o.allComplete = false) :
    s.doneTest tag = s := by
  unfold State.doneTest
  rw [found]
  exact if_neg (by simp [open_])

theorem State.doneTest_files {s : State} {tag : Nat} {o : Order} (found : s.findOrder tag = some o) (drains : o.phase = .draining)
    (complete : o.allComplete = true) :
    (s.doneTest tag).obk = (s.filed tag o).obk ∧ s.Raises [.orderDone, .orderShort] (s.doneTest tag) := by
  have told : s.Raises [.orderDone, .orderShort] ((s.filed tag o).raise .orderDone (orderSubject tag) (natBytes 1 o.finished.outcome.ctorIdx)) :=
    (State.raise_raises _ (k := .orderDone) _ _ (by simp)).after rfl
  have test : s.doneTest tag =
      if o.finished.outcome = .short then
        ((s.filed tag o).raise .orderDone (orderSubject tag) (natBytes 1 o.finished.outcome.ctorIdx)).raise .orderShort (orderSubject tag) o.shortBytes
      else (s.filed tag o).raise .orderDone (orderSubject tag) (natBytes 1 o.finished.outcome.ctorIdx) := by
    unfold State.doneTest
    rw [found]
    exact if_pos (by simp [drains, complete])
  rw [test]
  split
  · exact ⟨rfl, told.trans (State.raise_raises _ (k := .orderShort) _ _ (by simp))⟩
  · exact ⟨rfl, told⟩

/-- What the test whether an order is done does to the book. -/
theorem State.doneTest_spec {s : State} {tag : Nat} {o : Order} (found : s.findOrder tag = some o) (drains : o.phase = .draining) :
    (o.allComplete = false → (s.doneTest tag).findOrder tag = some o) ∧
      (o.allComplete = true → (s.doneTest tag).findOrder tag = some o.finished) ∧
      (∀ x, x ≠ tag → (s.doneTest tag).findOrder x = s.findOrder x) ∧
      (s.doneTest tag).obk.endStatus = s.obk.endStatus ∧ (s.doneTest tag).obk.pendingIncoming = s.obk.pendingIncoming ∧
      s.Raises [.orderDone, .orderShort] (s.doneTest tag) := by
  obtain rfl : o.tag = tag := by simpa using List.find?_some found
  cases complete : o.allComplete with
  | false =>
    rw [State.doneTest_waits found complete]
    exact ⟨fun _ => found, by simp, fun _ _ => rfl, rfl, rfl, .refl _ s⟩
  | true =>
    obtain ⟨obk, raises⟩ := State.doneTest_files found drains complete
    have find (x : Nat) : (s.doneTest o.tag).findOrder x = (s.filed o.tag o).findOrder x := by
      unfold State.findOrder
      rw [obk]
    exact ⟨by simp, fun _ => (find _).trans (s.filed_findOrder_self o), fun x other => (find x).trans (s.filed_findOrder_ne other),
      by rw [obk]; rfl, by rw [obk]; rfl, raises⟩

/-! ### What staging leaves of the book and of the stations -/

theorem State.applyStaging_findOrder {s : State} {tag : Nat} (apart : ∀ q, s.orderIn .queued = some q → tag ≠ q.tag) :
    s.applyStaging.findOrder tag = s.findOrder tag := by
  rcases s.applyStaging_cases with e | ⟨i, q, -, -, queued, e⟩ <;> rw [e]
  obtain ⟨obk, -⟩ := s.stageAt_spec i q
  rw [State.findOrder_of_map (s := s) (t := s.stageAt i q) (by rw [obk]) (stagedRecord_tag i q)]
  rcases found : s.findOrder tag with _ | x
  · rfl
  · have own : x.tag = tag := by simpa using List.find?_some found
    exact congrArg some (stagedRecord_ne (by rw [own]; exact apart q queued))

theorem State.applyStaging_slit {s : State} {i : SlitId} (busy : (s.slit i).state ≠ .idle) : s.applyStaging.slit i = s.slit i := by
  rcases s.applyStaging_cases with e | ⟨k, q, -, idle, -, e⟩ <;> rw [e]
  obtain ⟨-, -, -, -, others, -⟩ := s.stageAt_spec k q
  refine others i fun same => busy ?_
  rw [same]
  simpa using List.find?_some idle

theorem State.applyStaging_rest (s : State) :
    s.applyStaging.obk.endStatus = s.obk.endStatus ∧ s.applyStaging.lsv = s.lsv ∧ s.Raises [.orderStaged] s.applyStaging := by
  rcases s.applyStaging_cases with e | ⟨i, q, -, -, -, e⟩ <;> rw [e]
  · exact ⟨rfl, rfl, .refl _ s⟩
  · obtain ⟨obk, -, -, -, -, lsv, raises⟩ := s.stageAt_spec i q
    exact ⟨by rw [obk], lsv, raises⟩

/-! ### The swap test (R49) -/

section SwapTest

variable {s : State} {o t : Order} (book : s.BookOk) (running : s.runningOrder = some o) (staged : s.stagedOrder = some t)
include book running staged

theorem State.swapBegun_orders : (s.swapBegun o t).obk.orders = s.obk.orders.map (s.swapRecord o t) := by
  rw [(State.swapBegun_obk book running staged).1]

theorem State.swapBegun_findOrder (tag : Nat) : (s.swapBegun o t).findOrder tag = (s.findOrder tag).map (s.swapRecord o t) :=
  State.findOrder_of_map (State.swapBegun_orders book running staged) (s.swapRecord_tag o t) tag

theorem State.swapBegun_in : (s.swapBegun o t).findOrder t.tag = some (s.swapIn o t) := by
  obtain ⟨-, -, there, -⟩ := State.swap_orders book running staged
  rw [State.swapBegun_findOrder book running staged, State.findOrder_of_mem book.tags there]
  exact congrArg some (if_pos rfl)

theorem State.swapBegun_out : (s.swapBegun o t).findOrder o.tag = some { o with phase := .draining, station := none } := by
  obtain ⟨here, -, -, -, apart⟩ := State.swap_orders book running staged
  rw [State.swapBegun_findOrder book running staged, State.findOrder_of_mem book.tags here]
  exact congrArg some ((if_neg apart).trans (if_pos rfl))

/-- The queued orders wait through a swap, and none is staged any more. -/
theorem State.swapBegun_queued : (s.swapBegun o t).orderIn .queued = s.orderIn .queued ∧ (s.swapBegun o t).stagedOrder = none := by
  obtain ⟨-, runs, -, waits, -⟩ := State.swap_orders book running staged
  have cases_ {x : Order} (mem : x ∈ s.obk.orders) := State.swapRecord_cases book running staged mem
  unfold State.stagedOrder State.orderIn
  rw [State.swapBegun_orders book running staged]
  refine ⟨find?_map_fixed (fun x mem => ?_) (fun x mem queued => ?_), List.find?_eq_none.mpr fun y mem => ?_⟩
  · rcases cases_ mem with ⟨is, e⟩ | ⟨is, e⟩ | ⟨e, -⟩
    · rw [e, is, waits]
      rfl
    · rw [e, is, runs]
      rfl
    · rw [e]
  · rcases cases_ mem with ⟨is, -⟩ | ⟨is, -⟩ | ⟨e, -⟩
    · simp [is, waits] at queued
    · simp [is, runs] at queued
    · exact e
  · obtain ⟨x, there, rfl⟩ := List.mem_map.mp mem
    rcases cases_ there with ⟨-, e⟩ | ⟨-, e⟩ | ⟨e, -, -, -, rests⟩
    · rw [e]
      simp [State.swapIn, Order.started]
    · rw [e]
      simp
    · rw [e]
      simpa using rests

/-- A queued order is neither of the two. -/
theorem State.swap_queued {q : Order} (queued : s.orderIn .queued = some q) :
    q ∈ s.obk.orders ∧ s.swapRecord o t q = q ∧ o.tag ≠ q.tag ∧ t.tag ≠ q.tag := by
  obtain ⟨-, runs, -, waits, -⟩ := State.swap_orders book running staged
  obtain ⟨mem, phase⟩ := State.orderIn_mem queued
  rcases State.swapRecord_cases book running staged mem with ⟨is, -⟩ | ⟨is, -⟩ | ⟨e, noto, nott, -⟩
  · rw [is, waits] at phase
    cases phase
  · rw [is, runs] at phase
    cases phase
  · exact ⟨mem, e, noto.symm, nott.symm⟩

/-- The swapped book after the next order has been staged. -/
theorem State.swapStaged_find {tag : Nat} (two : tag = o.tag ∨ tag = t.tag) :
    (s.swapBegun o t).applyStaging.findOrder tag = (s.swapBegun o t).findOrder tag := by
  refine State.applyStaging_findOrder fun q queued => ?_
  rw [(State.swapBegun_queued book running staged).1] at queued
  obtain ⟨-, -, noto, nott⟩ := State.swap_queued book running staged queued
  rcases two with rfl | rfl
  · exact noto
  · exact nott

variable (locked : s.obk.endStatus = .locked) (reached : o.endPos + s.dSlit ≤ s.linePos)
include locked reached

omit book in
theorem State.swapTest_swaps : s.swapTest = (s.swapBegun o t).applyStaging.doneTest o.tag := by
  unfold State.swapTest
  rw [running, staged]
  exact if_pos ⟨locked, reached⟩

/-- The orders, the GRADE entry, the notice and the end mark after a swap. -/
theorem State.swapTest_orders :
    let u := s.swapTest
    u.findOrder t.tag = some (s.swapIn o t) ∧
    ((∃ j : LaneId, (o.lane j).isSome = true ∧ o.runs[j].complete = false) →
      u.findOrder o.tag = some { o with phase := .draining, station := none }) ∧
    ((∀ j : LaneId, (o.lane j).isSome = true → o.runs[j].complete = true) → ∃ x, u.findOrder o.tag = some x ∧ x.phase = .done) ∧
    u.lsv.ceiling.grade = (s.gradeEntry t.grade).map (·.limit) ∧
    u.noticedWith .orderStarted .order t.tag (natBytes 6 (o.endPos + s.zc)) ∧
    u.obk.endStatus = (if (s.insertMark (s.endMark t.tag (s.swapIn o t).endPos none)).2 = .stored then .unlocked else .pending) := by
  obtain ⟨-, -, -, -, apart⟩ := State.swap_orders book running staged
  obtain ⟨obk, -⟩ := State.swapBegun_obk book running staged
  obtain ⟨status, lsv, staging⟩ := (s.swapBegun o t).applyStaging_rest
  have out := (State.swapStaged_find book running staged (.inl rfl)).trans (State.swapBegun_out book running staged)
  obtain ⟨waits, files, others, status', -, done⟩ := State.doneTest_spec out rfl
  rw [State.swapTest_swaps running staged locked reached]
  have complete : ({ o with phase := .draining, station := none } : Order).allComplete = o.allComplete := rfl
  rw [complete] at waits files
  refine ⟨?_, fun open_ => waits ?_, fun all => ⟨_, files (Order.allComplete_iff.mpr all), rfl⟩, ?_, ?_, ?_⟩
  · rw [others _ apart.symm, State.swapStaged_find book running staged (.inr rfl), State.swapBegun_in book running staged]
  · obtain ⟨j, has, not⟩ := open_
    refine Bool.eq_false_of_not_eq_true fun all => ?_
    rw [Order.allComplete_iff.mp all j has] at not
    cases not
  · have kept : ((s.swapBegun o t).applyStaging.doneTest o.tag).lsv = (s.swapBegun o t).applyStaging.lsv :=
      (State.doneTest_within ..).same .lsv (by simp)
    rw [kept, lsv]
    exact State.swapBegun_grade book running staged
  · exact done.noticedWith (staging.noticedWith (State.raise_noticedWith ..) (by simp)) (by simp)
  · rw [status', status, obk]

end SwapTest

/-! ### The stations and the end mark after a swap (R42, R45, R120) -/

/-- A stored mark is in its place. -/
theorem State.insertMark_stored {s : State} {m : Mark} (stored : (s.insertMark m).2 = .stored) :
    (s.insertMark m).1.map.marks = insertSorted m s.map.marks := by
  have takenIn (h : (s.takeInMark m).2 = .stored) : (s.takeInMark m).1.map.marks = insertSorted m s.map.marks := by
    unfold State.takeInMark at h ⊢
    split at h
    · next room =>
      rw [if_pos room]
      rfl
    · split at h <;> cases h
  rcases finish : m.finish with _ | e
  · rw [s.insertMark_open finish] at stored ⊢
    exact takenIn stored
  · by_cases late : e + s.dLast ≤ s.linePos
    · rw [s.insertMark_late finish late] at stored
      cases stored
    · rw [s.insertMark_ahead finish (not_le.mp late)] at stored ⊢
      exact takenIn stored

/-- The one unlocked mark of a list is the one that changes. -/
theorem mem_changeUnlocked_insertSorted {f : MarkBody → MarkBody} {m : Mark} {ms : List Mark} (first : m.isUnlockedChange = true)
    (others : ∀ x ∈ ms, x.isUnlockedChange = false) : { m with body := f m.body } ∈ changeUnlocked f (insertSorted m ms) := by
  obtain ⟨pre, post, old, -, -, new⟩ := insertSorted_placed m ms
  rw [new, changeUnlocked_split (fun x mem => others x (by rw [old]; exact List.mem_append_left _ mem)) first]
  exact List.mem_append_right _ List.mem_cons_self

section SwapStations

variable {s : State} {o t : Order}

theorem State.swapBegun_slit (k : SlitId) : (s.swapBegun o t).slit k = (s.stationsSwapped t).slit k := by
  have begun : (s.swapBegun o t).dec = ((s.swapBooked o t).insertEndMark (s.swapIn o t) none).dec := s.swapBegun_within.same .dec (by simp)
  have inserted : ((s.swapBooked o t).insertEndMark (s.swapIn o t) none).dec = (s.swapBooked o t).dec :=
    (State.insertEndMark_within ..).same .dec (by simp)
  unfold State.slit
  rw [begun, inserted, s.swapBooked_rest o t]

variable {i : SlitId} (station : t.station = some i)
include station

theorem State.swapBegun_engaged : ((s.swapBegun o t).slit i).state = .engaged := by
  rw [State.swapBegun_slit, State.stationsSwapped_slit station]
  exact congrArg SlitStation.state (if_pos rfl)

theorem State.swapBegun_left {k : SlitId} (other : k ≠ i) (engaged : (s.slit k).state = .engaged) :
    (s.swapBegun o t).slit k = { s.slit k with state := .idle, setup := none } := by
  rw [State.swapBegun_slit, State.stationsSwapped_slit station]
  exact (if_neg other).trans (if_pos engaged)

/-- The station that a swap frees is the one that staging takes. -/
theorem State.swapBegun_idle {k : SlitId} (other : k ≠ i) (engaged : (s.slit k).state = .engaged) :
    (s.swapBegun o t).idleStation = some k := by
  unfold State.idleStation
  rcases found : (allIds 2).find? (fun j => ((s.swapBegun o t).slit j).state = .idle) with _ | j
  · have none_ := List.find?_eq_none.mp found k (List.mem_finRange k)
    rw [State.swapBegun_left station other engaged] at none_
    exact absurd (decide_eq_true rfl) none_
  · have idle : ((s.swapBegun o t).slit j).state = .idle := by simpa using List.find?_some found
    have apart : j ≠ i := fun same => by
      rw [same, State.swapBegun_engaged station] at idle
      cases idle
    have apart' := Fin.val_ne_of_ne apart
    have other' := Fin.val_ne_of_ne other
    exact congrArg some (Fin.ext (by omega))

variable (book : s.BookOk) (running : s.runningOrder = some o) (staged : s.stagedOrder = some t)
  (locked : s.obk.endStatus = .locked) (reached : o.endPos + s.dSlit ≤ s.linePos)
include book running staged locked reached

omit station book in
theorem State.swapTest_rest :
    s.swapTest.map = (s.swapBegun o t).applyStaging.map ∧ s.swapTest.dec = (s.swapBegun o t).applyStaging.dec := by
  have done := (s.swapBegun o t).applyStaging.doneTest_within o.tag
  rw [State.swapTest_swaps running staged locked reached]
  exact ⟨done.map_eq, done.same .dec (by simp)⟩

omit station book in
theorem State.swapTest_slit (k : SlitId) : s.swapTest.slit k = (s.swapBegun o t).applyStaging.slit k := by
  unfold State.slit
  rw [(State.swapTest_rest running staged locked reached).2]

omit book in
theorem State.swapTest_engaged : (s.swapTest.slit i).state = .engaged := by
  have engaged := State.swapBegun_engaged (s := s) (o := o) station
  rw [State.swapTest_slit running staged locked reached, State.applyStaging_slit (by simp [engaged]), engaged]

/-- With no order waiting the freed station stays idle. -/
theorem State.swapTest_without (alone : ∀ x ∈ s.obk.orders, x.phase ≠ .queued) :
    s.swapTest.map.marks = (s.insertMark (s.endMark t.tag (s.swapIn o t).endPos none)).1.map.marks ∧
      ∀ k : SlitId, k ≠ i → (s.slit k).state = .engaged → (s.swapTest.slit k).state = .idle ∧ (s.swapTest.slit k).setup = none := by
  have none_ : (s.swapBegun o t).orderIn .queued = none := by
    rw [(State.swapBegun_queued book running staged).1]
    exact List.find?_eq_none.mpr fun x mem => by simpa using alone x mem
  have still := State.applyStaging_without none_
  obtain ⟨-, map⟩ := State.swapBegun_obk book running staged
  refine ⟨?_, fun k other engaged => ?_⟩
  · rw [(State.swapTest_rest running staged locked reached).1, still, map]
  · rw [State.swapTest_slit running staged locked reached, still, State.swapBegun_left station other engaged]
    exact ⟨rfl, rfl⟩

/-- With an order waiting the freed station positions for it, and the end mark names it. -/
theorem State.swapTest_stages {q : Order} (waiting : s.orderIn .queued = some q) {k : SlitId} (other : k ≠ i)
    (engaged : (s.slit k).state = .engaged) :
    s.swapTest.findOrder q.tag = some { q with phase := .staged, station := some k, setup := .positioning } ∧
      (s.swapTest.slit k).state = .positioning ∧ (s.swapTest.slit k).setup = some ⟨q.tag, q.knives, q.scores⟩ ∧
      (s.swapTest.obk.endStatus = .unlocked → s.endMark t.tag (s.swapIn o t).endPos (some q.tag) ∈ s.swapTest.map.marks) ∧
      (s.swapTest.obk.endStatus = .pending → s.swapTest.obk.pendingIncoming = some q.tag) := by
  obtain ⟨mem, fixed, noto, nott⟩ := State.swap_queued book running staged waiting
  obtain ⟨same, none_⟩ := State.swapBegun_queued book running staged
  obtain ⟨begun, map⟩ := State.swapBegun_obk book running staged
  have stages := State.applyStaging_stages none_ (State.swapBegun_idle station other engaged) (same.trans waiting)
  obtain ⟨obk, marks, state, setup, -⟩ := (s.swapBegun o t).stageAt_spec k q
  have out := (State.swapStaged_find book running staged (.inl rfl)).trans (State.swapBegun_out book running staged)
  obtain ⟨-, -, others, status, pending, -⟩ := State.doneTest_spec out rfl
  rw [State.swapTest_slit running staged locked reached, (State.swapTest_rest running staged locked reached).1,
    State.swapTest_swaps running staged locked reached, others q.tag noto.symm, status, pending, stages]
  have status' : ((s.swapBegun o t).stageAt k q).obk.endStatus = (s.swapBegun o t).obk.endStatus := by rw [obk]
  rw [status']
  refine ⟨?_, state, setup, fun unlocked => ?_, fun unplaced => ?_⟩
  · rw [State.findOrder_of_map (s := s.swapBegun o t) (t := (s.swapBegun o t).stageAt k q) (by rw [obk]) (stagedRecord_tag k q),
      State.swapBegun_findOrder book running staged, State.findOrder_of_mem book.tags mem]
    change some (stagedRecord k q (s.swapRecord o t q)) = _
    rw [fixed]
    exact congrArg some (if_pos rfl)
  · have stored : (s.insertMark (s.endMark t.tag (s.swapIn o t).endPos none)).2 = .stored := by
      by_contra refused
      rw [begun] at unlocked
      simp [refused] at unlocked
    have locked_ : ∀ x ∈ s.map.marks, x.isUnlockedChange = false := fun x there => by
      refine Bool.eq_false_of_not_eq_true fun is => ?_
      rw [(book.owned x there is).1] at locked
      cases locked
    rw [marks unlocked, map, State.insertMark_stored stored]
    exact mem_changeUnlocked_insertSorted rfl locked_
  · rw [obk]
    exact if_pos unplaced

end SwapStations

theorem State.swapTest_waits {s : State}
    (h : ∀ o t, s.runningOrder = some o → s.stagedOrder = some t → s.obk.endStatus ≠ .locked ∨ s.linePos < o.endPos + s.dSlit) :
    s.swapTest = s := by
  unfold State.swapTest
  split
  · next o t running staged =>
    refine if_neg fun ⟨locked, reached⟩ => ?_
    exact (h o t running staged).elim (fun no => no locked) (fun far => absurd reached far.not_ge)
  · rfl

/-! ### The LINE advance (R8) -/

/-- Settles O9: the counter, the bridges, the marks, the end mark's lock and the swap, each by the rules of its part. -/
theorem lineAdvance : Obligations.LineAdvance := by
  unfold Obligations.LineAdvance
  refine ⟨?advance, fun s d => ?marks, fun s d k => ?bridges, fun s => ?retry, fun s => ?lock, fun s => ?swap⟩
  case advance =>
    intro s ph held counts k p k' pair debt rises room
    obtain ⟨own, others, dst, link, held', fresh, pending⟩ := s.lineAdvance_counters ph k' (p - k.pos)
    obtain ⟨inUse, unused⟩ := s.lineAdvance_bridges ph k' (p - k.pos)
    refine ⟨_, exec_lineAdvance held counts pair debt rises room, rfl, own, ?_, others, inUse, unused, dst, link, held', fresh, pending⟩
    have position {u : State} (own : u.counter 0 = { k' with refPhase := ph }) : u.linePos = p := by
      unfold State.linePos
      rw [own]
      rfl
    exact position own
  case marks =>
    intro gone removed t
    have leaves (m : Mark) : s.leaves m = true ↔ gone m := State.leaves_iff
    have stays {m : Mark} (h : ¬gone m) : s.leaves m = false := Bool.eq_false_of_not_eq_true (mt (leaves m).mp h)
    refine ⟨fun none_ => ?_, fun pre m post marks before first => ?_, fun quiet => ?_, s.mapAdvance_eq d⟩
    · exact State.removeMarks_none (fun m mem => stays (none_ m mem)) _
    · exact State.removeMarks_first marks (fun x mem => stays (before x mem)) ((leaves m).mpr first)
    · have whole : t = s.withMarks (s.map.marks.filter fun m => !s.leaves m) t.map.changeCount := State.removeMarks_quiet _ quiet le_rfl
      have marks : t.map.marks = s.map.marks.filter fun m => !s.leaves m := by rw [whole]; rfl
      refine ⟨fun m => ?_, ?_, ?_⟩
      · rw [marks, List.mem_filter, Bool.not_eq_true', ← Bool.not_eq_true, leaves]
      · rw [marks]
        exact List.filter_sublist
      · rw [marks]
        exact whole
  case bridges =>
    refine ⟨?_, fun use short line => ?_⟩
    · unfold State.transferWeb
      simp only [State.webInUse_iff]
    · refine State.consumeBridge_stopTaken (State.webInUse_iff.mpr use) short ?_
      rcases line with line | line | line <;> rw [line] <;> rfl
  case retry =>
    refine ⟨State.retryPending_still, fun pending o running => ?_⟩
    obtain ⟨map, obk⟩ := State.retryPending_spec pending running
    exact ⟨map, obk, s.retryPending_within.keepsBut⟩
  case lock =>
    intro reached
    refine ⟨fun waits => ?_, fun o running unlocked here => ⟨fun t staged ready => ?_, fun unready step => ?_⟩⟩
    · rcases running : s.runningOrder with _ | o
      · exact State.lockTest_idle running
      · exact State.lockTest_rests running fun now => (waits o running).elim (fun no => no now.1) (fun far => far now.2)
    · have is : s.readyOrder = some t := by
        unfold State.readyOrder
        rw [staged]
        exact if_pos (decide_eq_true ready)
      rw [State.lockTest_locks running ⟨unlocked, here⟩ is]
      exact State.lockEnd_spec running staged
    · have none_ : s.readyOrder = none := by
        unfold State.readyOrder
        rcases staged : s.stagedOrder with _ | t
        · rfl
        · exact if_neg (by simpa using unready t staged)
      obtain ⟨obk, marks, setup, hold, noticed, counters, -, dst, stk⟩ := State.deferEnd_spec unlocked step (o := o)
      exact ⟨State.lockTest_defers running ⟨unlocked, here⟩ none_ step, obk, marks, setup, hold, noticed, counters, dst, stk⟩
  case swap =>
    refine ⟨State.swapTest_waits, fun o t book running staged locked reached => ?_⟩
    obtain ⟨runs, drains, done, grade, noticed, status⟩ := State.swapTest_orders book running staged locked reached
    have rest := s.swapTest_within
    refine ⟨runs, drains, done, grade, noticed, status, fun i station => ⟨?_, ?_, fun q waiting k other engaged => ?_⟩, ?_, ?_, ?_, ?_, ?_⟩
    · exact State.swapTest_engaged station running staged locked reached
    · exact State.swapTest_without station book running staged locked reached
    · exact State.swapTest_stages station book running staged locked reached waiting other engaged
    · exact rest.same .lcu (by simp)
    · exact rest.same .spc (by simp)
    · exact rest.same .bnd (by simp)
    · exact rest.same .dst (by simp)
    · exact rest.same .stk (by simp)

end Sys2Proof.Machine
end

section
/-! PROOF. The requests to the web map (R21, R22, R24), its two lookups (R33, R34) and its host commands (R23, R35). -/

namespace Sys2Proof.Machine

/-! ### Opening and closing a span (R22, R24) -/

theorem closeFirst_split {x : BondSource} {pre post : List Mark} {m : Mark} (e : Nat) (closed : ∀ y ∈ pre, y.isOpenSpan x = false)
    (opened : m.isOpenSpan x = true) :
    closeFirst x e (pre ++ m :: post) = pre ++ { m with finish := some (max m.start e) } :: post := by
  induction pre with
  | nil => exact if_pos opened
  | cons y ys ih =>
    have other : ¬y.isOpenSpan x = true := by simp [closed y]
    rw [List.cons_append, closeFirst, if_neg other, ih fun z mem => closed z (List.mem_cons_of_mem _ mem), List.cons_append]

/-- A close request ends the first open span of its source. -/
theorem State.closeSpan_split {s : State} {x : BondSource} {pre post : List Mark} {m : Mark} (e : Nat)
    (marks : s.map.marks = pre ++ m :: post) (closed : ∀ y ∈ pre, y.isOpenSpan x = false) (opened : m.isOpenSpan x = true) :
    s.closeSpan x e = s.setMarks (pre ++ { m with finish := some (max m.start e) } :: post) := by
  have some_ : s.map.marks.any (·.isOpenSpan x) = true := List.any_eq_true.mpr ⟨m, by simp [marks], opened⟩
  unfold State.closeSpan
  rw [if_pos some_, marks, closeFirst_split e closed opened]

/-- A close request of a source with no open span is a matter of its lost-span flag. -/
theorem State.closeSpan_none {s : State} {x : BondSource} (e : Nat) (closed : ∀ m ∈ s.map.marks, m.isOpenSpan x = false) :
    s.closeSpan x e = if s.lostSpan x then s.setLostSpan x false else s :=
  if_neg (by simpa using closed)

theorem State.setLostSpan_map (s : State) (x : BondSource) (b : Bool) :
    s.setLostSpan x b =
      { s with map := { s.map with lostZone := (s.setLostSpan x b).map.lostZone, lostGlue := (s.setLostSpan x b).map.lostGlue } } := by
  cases x <;> rfl

theorem State.lostSpan_cleared (s : State) (x y : BondSource) :
    (s.setLostSpan x false).lostSpan y = (decide (y ≠ x) && s.lostSpan y) := by
  by_cases same : y = x
  · subst same
    simp [s.lostSpan_setLostSpan]
  · rw [s.lostSpan_setLostSpan_ne (fun e => same e.symm)]
    simp [same]

theorem State.lostSpan_set (s : State) (x y : BondSource) : (s.setLostSpan x true).lostSpan y = (s.lostSpan y || decide (y = x)) := by
  by_cases same : y = x
  · subst same
    simp [s.lostSpan_setLostSpan]
  · rw [s.lostSpan_setLostSpan_ne (fun e => same e.symm)]
    simp [same]

/-! ### An insertion request (R21) -/

/-- A mark that does not come late is taken in. -/
theorem State.insertMark_of_not_late {s : State} {m : Mark} (ahead : ¬∃ e, m.finish = some e ∧ e + s.dLast ≤ s.linePos) :
    s.insertMark m = s.takeInMark m := by
  rcases finish : m.finish with _ | e
  · exact s.insertMark_open finish
  · exact s.insertMark_ahead finish (not_le.mp fun late => ahead ⟨e, finish, late⟩)

theorem State.takeInMark_room {s : State} (m : Mark) (room : s.map.marks.length < 128) :
    s.takeInMark m = (s.setMarks (insertSorted m s.map.marks), .stored) := if_pos room

theorem State.takeInMark_full {s : State} {m : Mark} (full : 128 ≤ s.map.marks.length) (change : m.isChange = true) :
    s.takeInMark m = (s, .full) := (if_neg (not_lt.mpr full)).trans (if_pos change)

theorem State.takeInMark_lost {s : State} {m : Mark} (full : 128 ≤ s.map.marks.length) (other : m.isChange = false) :
    s.takeInMark m = (s.loseMark m, .lost) := (if_neg (not_lt.mpr full)).trans (if_neg (by simp [other]))

/-- What a full map does for a mark it loses, before the lost-span flag. -/
def State.markLost (s : State) (m : Mark) : State :=
  let s1 := (s.lowerRa m.start).countLostMark
  s1.raise .mapFull ⟨.map, 0⟩ (natBytes 1 m.body.kindCode ++ natBytes 2 m.body.source ++ natBytes 6 m.start ++ optBytes 6 s1.map.ra)

theorem State.loseMark_eq (s : State) (m : Mark) :
    s.loseMark m = s.markLost m ∨ ∃ x, m.body = .bondRisk x ∧ m.finish = none ∧ s.loseMark m = (s.markLost m).setLostSpan x true := by
  unfold State.loseMark
  dsimp only
  split
  · next x body =>
    split
    · next is => exact .inr ⟨x, body, Option.isNone_iff_eq_none.mp is, rfl⟩
    · exact .inl rfl
  · exact .inl rfl

theorem State.loseMark_lostSpan (s : State) (m : Mark) (y : BondSource) :
    (s.loseMark m).lostSpan y = (s.lostSpan y || (decide (m.body = .bondRisk y) && m.finish.isNone)) := by
  have same : (s.markLost m).lostSpan y = s.lostSpan y := (by cases y <;> rfl : _ = (s.lowerRa m.start).lostSpan y).trans (s.lowerRa_lostSpan _ y)
  unfold State.loseMark
  dsimp only
  rw [← State.markLost]
  split
  · next x body =>
    rw [body]
    by_cases none_ : m.finish.isNone = true
    · rw [if_pos none_, State.lostSpan_set, same, none_]
      simp [eq_comm]
    · rw [if_neg none_, same]
      simp [none_]
  · next other =>
    have apart : m.body ≠ .bondRisk y := other y
    simp [same, apart]

theorem State.loseMark_spec (s : State) (m : Mark) :
    (s.loseMark m).map.lostMarks = min (s.map.lostMarks + 1) 65535 ∧ (s.loseMark m).map.ra = some (s.map.ra.elim m.start (min · m.start)) ∧
      ∃ n ∈ (s.loseMark m).lnk.notices, n.kind = .mapFull ∧ n.subject = ⟨.map, 0⟩ := by
  have lost : (s.markLost m).map.lostMarks = min (s.map.lostMarks + 1) 65535 := congrArg (countUp 65535) (s.lowerRa_rest m.start).2
  have ra : (s.markLost m).map.ra = some (s.map.ra.elim m.start (min · m.start)) := s.lowerRa_ra m.start
  obtain ⟨n, mem, kind, subject, -⟩ := ((s.lowerRa m.start).countLostMark).raise_noticedWith .mapFull .map 0
    (natBytes 1 m.body.kindCode ++ natBytes 2 m.body.source ++ natBytes 6 m.start ++ optBytes 6 (s.lowerRa m.start).countLostMark.map.ra)
  rcases s.loseMark_eq m with e | ⟨x, -, -, e⟩
  · rw [e]
    exact ⟨lost, ra, n, mem, kind, subject⟩
  · rw [e]
    cases x <;> exact ⟨lost, ra, n, mem, kind, subject⟩

/-- Settles O15: a close splits the map at the first open span; a request is late, stored, held back or lost. -/
theorem insertionRequest : Obligations.InsertionRequest := by
  unfold Obligations.InsertionRequest
  refine ⟨fun s x start e => ⟨rfl, fun pre m post => s.closeSpan_split e, fun closed => ⟨fun kept => ?_, fun lost => ?_⟩⟩,
    fun s m => ⟨fun late => ?late, fun ahead room => ?stored, fun ahead full change => ?full, fun ahead full other => ?lost⟩⟩
  · exact (s.closeSpan_none e closed).trans (if_neg (by simp [kept]))
  · rw [s.closeSpan_none e closed, if_pos lost]
    exact ⟨s.lostSpan_cleared x, s.setLostSpan_map x false⟩
  case late =>
    obtain ⟨e, finish, passed⟩ := late
    rw [s.insertMark_late finish passed]
    obtain ⟨n, mem, kind, subject, -⟩ := s.countLostMark.raise_noticedWith .markLate .map 0
      (natBytes 1 m.body.kindCode ++ natBytes 2 m.body.source ++ natBytes 6 m.start ++ natBytes 6 e)
    exact ⟨rfl, rfl, ⟨n, mem, kind, subject⟩, (s.countLostMark_within.step (State.raise_within ..) (by simp)).toTouches.keepsBut⟩
  case stored =>
    rw [State.insertMark_of_not_late ahead, State.takeInMark_room m room]
    obtain ⟨pre, post, old, before, behind, new⟩ := insertSorted_placed m s.map.marks
    exact ⟨rfl, pre, post, old, before, behind, by rw [new]; rfl⟩
  case full =>
    rw [State.insertMark_of_not_late ahead, State.takeInMark_full full change]
    exact ⟨rfl, rfl⟩
  case lost =>
    rw [State.insertMark_of_not_late ahead, State.takeInMark_lost full other]
    obtain ⟨count, ra, noticed⟩ := s.loseMark_spec m
    refine ⟨rfl, (s.loseMark_marks m).1, s.loseMark_bridges m, count, ra.trans ?_, s.loseMark_lostSpan m, noticed, (s.loseMark_within m).toTouches.keepsBut⟩
    cases s.map.ra <;> rfl

/-! ### The covering lookup and the grade lookup (R24, R33, R34) -/

theorem State.le_markEnd_iff (s : State) (q : Nat) (m : Mark) :
    q ≤ s.markEnd m ↔ (∃ e, m.finish = some e ∧ q ≤ e) ∨ (m.finish = none ∧ q ≤ s.markEnd { m with finish := none }) := by
  obtain ⟨start, finish, body⟩ := m
  cases finish with
  | none => simp
  | some e => simp [State.markEnd]

theorem State.mem_covering {s : State} {q0 q1 : Nat} {m : Mark} :
    m ∈ s.covering q0 q1 ↔ m ∈ s.map.marks ∧ m.start < q1 ∧ q0 ≤ s.markEnd m := by
  simp [State.covering]

/-- The last change mark at or below a position. -/
theorem filter_changes_getLast {pre post : List Mark} {m : Mark} {p : Nat} (change : m.isChange = true) (reached : m.start ≤ p)
    (ahead : ∀ x ∈ post, x.isChange = true → p < x.start) :
    ((pre ++ m :: post).filter fun x => x.isChange && decide (x.start ≤ p)).getLast? = some m := by
  have rest : (post.filter fun x => x.isChange && decide (x.start ≤ p)) = [] := by
    refine List.filter_eq_nil_iff.mpr fun x mem => ?_
    simpa using ahead x mem
  rw [List.filter_append, List.filter_cons_of_pos (by simp [change, reached]), rest, List.getLast?_append]
  rfl

theorem State.gradeOf_of_find {s : State} {tag : Nat} {o : Order} (h : s.findOrder tag = some o) : s.gradeOf tag = .grade o.grade := by
  unfold State.gradeOf
  rw [h]

theorem State.gradeOf_of_none {s : State} {tag : Nat} (h : s.findOrder tag = none) : s.gradeOf tag = .none := by
  unfold State.gradeOf
  rw [h]

section ChangeMark

variable {s : State} {p : Nat} {pre post : List Mark} {m : Mark} {out : Nat} {incoming : Option Nat} {locked : Bool}
  (marks : s.map.marks = pre ++ m :: post) (body : m.body = .orderChange out incoming locked) (reached : m.start ≤ p)
  (ahead : ∀ x ∈ post, x.isChange = true → p < x.start)

include marks body reached ahead

theorem State.gradeLookup_of_change :
    s.gradeLookup p =
      if p < m.start + s.zc then
        match s.gradeOf out with
        | .grade g => .changeZone g
        | other => other
      else s.gradeOf (incoming.getD out) := by
  have change : m.isChange = true := by
    unfold Mark.isChange
    rw [body]
  unfold State.gradeLookup
  rw [marks, filter_changes_getLast change reached ahead]
  simp only [body]
  split
  · rfl
  · cases incoming <;> rfl

/-- Within the change zone the outgoing order's grade is answered as that of the zone. -/
theorem State.gradeLookup_in_zone (inside : p < m.start + s.zc) :
    (∀ o, s.findOrder out = some o → s.gradeLookup p = .changeZone o.grade) ∧ (s.findOrder out = none → s.gradeLookup p = .none) := by
  rw [State.gradeLookup_of_change marks body reached ahead, if_pos inside]
  refine ⟨fun o found => ?_, fun gone => ?_⟩
  · rw [State.gradeOf_of_find found]
  · rw [State.gradeOf_of_none gone]

/-- Behind the change zone the incoming order's grade is answered, or the outgoing one's while none is known. -/
theorem State.gradeLookup_behind_zone (behind : m.start + s.zc ≤ p) :
    (∀ o, s.findOrder (incoming.getD out) = some o → s.gradeLookup p = .grade o.grade) ∧
      (s.findOrder (incoming.getD out) = none → s.gradeLookup p = .none) := by
  rw [State.gradeLookup_of_change marks body reached ahead, if_neg behind.not_gt]
  exact ⟨fun _ => State.gradeOf_of_find, State.gradeOf_of_none⟩

end ChangeMark

theorem State.gradeLookup_of_no_change {s : State} {p : Nat} (ahead : ∀ x ∈ s.map.marks, x.isChange = true → p < x.start) :
    (∀ o, s.runningOrder = some o → s.gradeLookup p = .grade o.grade) ∧ (s.runningOrder = none → s.gradeLookup p = .none) := by
  have none_ : (s.map.marks.filter fun x => x.isChange && decide (x.start ≤ p)) = [] := by
    refine List.filter_eq_nil_iff.mpr fun x mem => ?_
    simpa using ahead x mem
  unfold State.gradeLookup
  rw [none_]
  refine ⟨fun o runs => ?_, fun none_ => ?_⟩
  · simp [runs]
  · simp [none_]

/-- Settles O16: a mark covers up to its end; the last change mark reached, or the running order, gives the grade. -/
theorem mapLookups : Obligations.MapLookups := by
  unfold Obligations.MapLookups
  refine ⟨fun s q0 q1 => ⟨List.filter_sublist, fun m => ?_⟩, fun s p pre post m out incoming locked marks body reached ahead => ?_,
    fun s p ahead => State.gradeLookup_of_no_change ahead⟩
  · exact State.mem_covering.trans (and_congr_right' (and_congr_right' (s.le_markEnd_iff q0 m)))
  · exact ⟨State.gradeLookup_in_zone marks body reached ahead, State.gradeLookup_behind_zone marks body reached ahead⟩

/-! ### AddHostMark and ResumeSorting (R23, R35) -/

theorem State.addHostMark_checks {s : State} (start finish reason : Nat) (line : s.lsv.line ≠ .setup) :
    s.addHostMark start finish reason =
      match firstFailing
        [(within 1 255 reason, 3), (decide (start < Config.posLimit), 1), (decide (finish < Config.posLimit), 2)] with
      | some n => s.refuse (rangeReply n)
      | none =>
        if start + s.dCut < s.linePos then s.refuse (bareReply stLate)
        else if finish < start ∨ 1000000 < finish - start then s.refuse (rangeReply 2)
        else
          ((s.insertMark { start := start, finish := some finish, body := .hostMark reason }).1,
            okReply (flagBytes (decide ((s.insertMark { start := start, finish := some finish, body := .hostMark reason }).2 ≠ .stored)))) :=
  if_neg (by simp [State.lineIn, line])

theorem hostMark_fits_iff {start finish reason : Nat} :
    firstFailing [(within 1 255 reason, 3), (decide (start < Config.posLimit), 1), (decide (finish < Config.posLimit), 2)] = none ↔
      1 ≤ reason ∧ reason ≤ 255 ∧ start < 2 ^ 44 ∧ finish < 2 ^ 44 := by
  simp only [firstFailing_eq_none, List.forall_mem_cons, within_iff, decide_eq_true_eq, List.not_mem_nil, false_imp_iff, implies_true,
    and_true, and_assoc]
  rfl

theorem Vector.any_id_eq_true {n : Nat} {v : Vector Bool n} : v.toList.any id = true ↔ ∃ i : Fin n, v[i] = true := by
  simp only [List.any_eq_true, id, exists_eq_right, Vector.mem_toList_iff, Vector.mem_iff_getElem]
  exact ⟨fun ⟨i, lt, is⟩ => ⟨⟨i, lt⟩, is⟩, fun ⟨i, is⟩ => ⟨i, i.isLt, is⟩⟩

/-- What keeps the sorting from being resumed. -/
theorem State.sortingBlocked_iff {s : State} :
    s.sortingBlocked = true ↔ 128 ≤ s.map.marks.length ∨ (∃ k : WebId, k.val + 1 ≤ s.walls ∧ 32 ≤ (s.bridge k).entries.length) ∨
      ∃ x : BondSource, s.lostSpan x = true := by
  have spans : (∃ x : BondSource, s.lostSpan x = true) ↔ (∃ n : ZoneId, s.map.lostZone[n] = true) ∨ ∃ k : GlueId, s.map.lostGlue[k] = true := by
    refine ⟨fun ⟨x, is⟩ => ?_, fun h => h.elim (fun ⟨n, is⟩ => ⟨.zone n, is⟩) fun ⟨k, is⟩ => ⟨.glue k, is⟩⟩
    cases x with
    | zone n => exact .inl ⟨n, is⟩
    | glue k => exact .inr ⟨k, is⟩
  have bridges : ((allIds 3).any fun k => s.webInUse k && decide (Config.bridgeCapacity ≤ (s.bridge k).entries.length)) = true ↔
      ∃ k : WebId, k.val + 1 ≤ s.walls ∧ 32 ≤ (s.bridge k).entries.length := by
    simp only [allIds, List.any_eq_true, List.mem_finRange, true_and, Bool.and_eq_true, State.webInUse_iff, decide_eq_true_eq]
    rfl
  unfold State.sortingBlocked
  rw [Bool.or_eq_true, Bool.or_eq_true, Bool.or_eq_true, decide_eq_true_iff, bridges, Vector.any_id_eq_true, Vector.any_id_eq_true, or_assoc,
    or_assoc, spans]
  rfl

/-- Settles O18: the checks of R35 in their order, then an insertion request; ResumeSorting clears RA. -/
theorem mapCommands : Obligations.MapCommands := by
  unfold Obligations.MapCommands
  refine fun s tag serves => ⟨fun start finish reason => ⟨fun line => ?state, fun line out => ?range, fun line fits late => ?late,
    fun line fits near bad => ?length, fun line fits near ordered short => ?taken⟩, fun blocked => ?blocked, fun free r ra => ?cleared, fun free none_ => ?nothing⟩
  case state => exact State.answers_of_refuse serves rfl (if_pos (by simp [State.lineIn, line])) s.lineReply_head
  case range =>
    obtain ⟨n, failing⟩ := Option.ne_none_iff_exists'.mp (mt hostMark_fits_iff.mp out)
    refine State.answers_of_refuse serves rfl ((s.addHostMark_checks start finish reason line).trans ?_) (rangeReply_head n)
    rw [failing]
  case late =>
    refine State.answers_of_refuse serves rfl ((s.addHostMark_checks start finish reason line).trans ?_) (reply := bareReply stLate) rfl
    rw [hostMark_fits_iff.mpr fits]
    exact if_pos late
  case length =>
    refine State.answers_of_refuse serves rfl ((s.addHostMark_checks start finish reason line).trans ?_) (rangeReply_head 2)
    rw [hostMark_fits_iff.mpr fits]
    exact (if_neg (not_lt.mpr near)).trans (if_pos bad)
  case taken =>
    change hostCommand tag 0x22 (fun t => t.addHostMark start finish reason) s = _
    have far : ¬(finish < start ∨ 1000000 < finish - start) := by omega
    rw [hostCommand_serves _ _ _ serves, s.addHostMark_checks start finish reason line, hostMark_fits_iff.mpr fits]
    dsimp only
    rw [if_neg (not_lt.mpr near), if_neg far]
    split
    · next stored =>
      rw [stored]
      rfl
    · next unstored =>
      rw [decide_eq_true unstored]
      rfl
  case blocked => exact State.answers_of_refuse serves rfl (if_pos (State.sortingBlocked_iff.mpr blocked)) rfl
  case cleared =>
    change hostCommand tag 0x23 State.resumeSorting s = _
    rw [hostCommand_serves _ _ _ serves]
    unfold State.resumeSorting
    rw [if_neg (mt State.sortingBlocked_iff.mp free), ra]
    rfl
  case nothing =>
    change hostCommand tag 0x23 State.resumeSorting s = _
    rw [hostCommand_serves _ _ _ serves]
    unfold State.resumeSorting
    rw [if_neg (mt State.sortingBlocked_iff.mp free), none_]
    rfl

end Sys2Proof.Machine
end

section
/-! PROOF. The bridges' commands and what every change of a bridge shares (R29 to R32). -/

namespace Sys2Proof.Machine

/-! ### Levels (R31) -/

theorem State.keepsBut.trans {bs : List Block} {s t u : State} (h : s.keepsBut t bs) (h' : t.keepsBut u bs) : s.keepsBut u bs := by
  obtain ⟨same, link, held, fresh, pending⟩ := h
  obtain ⟨same', link', held', fresh', pending'⟩ := h'
  exact ⟨fun b out => (same b out).trans (same' b out), fun out => Eq.trans (link' out) (by rw [link out]), held'.trans held,
    fresh'.trans fresh, pending'.trans pending⟩

theorem State.onBridge_keepsBut (s : State) (k : WebId) (f : Bridge → Bridge) : s.keepsBut (s.onBridge k f) [.map, .lsv] :=
  ⟨fun b out => by cases b <;> first | rfl | simp at out, fun _ => rfl, rfl, rfl, rfl⟩

/-- A bridge changed, and the levels tested. -/
theorem State.onBridge_then {s u : State} {k : WebId} {f : Bridge → Bridge} (h : (s.onBridge k f).Within [.lsv] u) :
    u.bridge k = f (s.bridge k) ∧ (∀ j : WebId, j ≠ k → u.bridge j = s.bridge j) ∧ u.map = { s.map with bridges := u.map.bridges } ∧
      s.keepsBut u [.map, .lsv] := by
  have map : u.map = (s.onBridge k f).map := h.same .map (by simp)
  refine ⟨?_, fun j other => ?_, ?_, (s.onBridge_keepsBut k f).trans (h.toTouches.mono (by simp)).keepsBut⟩
  · unfold State.bridge
    rw [map]
    exact s.onBridge_self k f
  · unfold State.bridge
    rw [map]
    exact s.onBridge_ne k f other
  · rw [map]
    rfl

theorem State.raise_bridgeEntryOk {s : State} (h : s.bridgeEntryOk) (k : NoticeKind) (x : Subject) (d : List Byte) :
    (s.raise k x d).bridgeEntryOk := State.bridgeEntryOk_congr rfl rfl rfl h

theorem State.evalBridgeEntry_lsv (s : State) :
    s.evalBridgeEntry.lsv = { s.lsv with ceiling := { s.lsv.ceiling with bridge := s.evalBridgeEntry.lsv.ceiling.bridge } } := by
  unfold State.evalBridgeEntry
  rw [State.setEntry_lsv]
  rfl

theorem State.setContent_ok (s : State) (k : WebId) (v : Nat) : (s.setContent k v).bridgeEntryOk := by
  unfold State.setContent
  dsimp only
  split
  · exact State.raise_bridgeEntryOk (State.evalBridgeEntry_ok _) _ _ _
  · exact State.evalBridgeEntry_ok _

theorem State.setContent_rise {s : State} {k : WebId} {v : Nat} (below : (s.bridge k).content ≤ (s.bridge k).high)
    (above : (s.bridge k).high < v) : (s.setContent k v).noticedWith .bridgeHigh .bridge (k.val + 1) (natBytes 6 v) := by
  unfold State.setContent
  dsimp only
  rw [if_pos ⟨below, above⟩]
  exact State.raise_noticedWith ..

/-! ### Transfers (R30) -/

/-- The JOINT mark of an entry, about LINE − (X − e). -/
def jointMark (line x : Nat) (b : BridgeEntry) : Mark :=
  { start := line + b.e - (x + b.before), finish := some (line + b.e + b.after - x), body := .joint b.station b.suspect }

/-- An entry asked of the map, and counted when the map loses it. -/
def askJoint (line x : Nat) (p : State × Nat) (b : BridgeEntry) : State × Nat :=
  ((p.1.insertMark (jointMark line x b)).1, if (p.1.insertMark (jointMark line x b)).2 = .lost then p.2 + 1 else p.2)

theorem State.transferEntry_linePos (s : State) (x : Nat) (b : BridgeEntry) : (s.transferEntry x b).1.linePos = s.linePos :=
  (s.transferEntry_within x b).linePos

theorem State.transferEntry_eq {s : State} {line : Nat} (here : s.linePos = line) (x : Nat) (b : BridgeEntry) :
    s.transferEntry x b = s.insertMark (jointMark line x b) := by
  subst here
  rw [State.transferEntry, jointMark]

/-- The transfers ask for one entry after another. -/
theorem State.transferList_foldl {s : State} {line : Nat} (here : s.linePos = line) (x : Nat) (bs : List BridgeEntry) (n : Nat) :
    bs.foldl (askJoint line x) (s, n) = ((s.transferList x bs).1, n + (s.transferList x bs).2) := by
  induction bs generalizing s n with
  | nil => rfl
  | cons b bs ih =>
    rw [List.foldl_cons, askJoint, ← State.transferEntry_eq here, ih ((s.transferEntry_linePos x b).trans here), State.transferList]
    dsimp only
    split
    · rw [Nat.add_right_comm, Nat.add_assoc]
    · rfl

theorem takeWhile_split {α : Type} {p : α → Bool} {pre post : List α} (due : ∀ x ∈ pre, p x = true) (rest : ∀ x ∈ post.head?, p x = false) :
    (pre ++ post).takeWhile p = pre := by
  have none_ : post.takeWhile p = [] := by
    cases post with
    | nil => rfl
    | cons x xs => exact List.takeWhile_cons_of_neg (by simp [rest x rfl])
  rw [List.takeWhile_append_of_pos due, none_, List.append_nil]

/-- What `transferDue` does to a list whose due entries come first. -/
theorem State.transferDue_split {s : State} {k : WebId} {pre post : List BridgeEntry} (entries : (s.bridge k).entries = pre ++ post)
    (due : ∀ b ∈ pre, b.e ≤ s.mergeCoord k) (rest : ∀ b ∈ post.head?, s.mergeCoord k < b.e) :
    (s.transferDue k).2.1 = pre.length ∧
      ((s.transferDue k).1, (s.transferDue k).2.2) =
        pre.foldl (askJoint s.linePos (s.mergeCoord k)) (s.onBridge k fun b => { b with entries := post }, 0) := by
  have taken : ((s.bridge k).entries.takeWhile fun b => decide (b.e ≤ s.mergeCoord k)) = pre := by
    rw [entries]
    refine takeWhile_split (fun b mem => decide_eq_true (due b mem)) fun b mem => decide_eq_false (rest b mem).not_ge
  have left : (s.onBridge k fun b => { b with entries := b.entries.drop pre.length }) = s.onBridge k fun b => { b with entries := post } :=
    State.onBridge_congr (by rw [entries, List.drop_left])
  unfold State.transferDue
  dsimp only
  rw [taken, left, State.transferList_foldl (line := s.linePos) (s := s.onBridge k fun b => { b with entries := post }) rfl, Nat.zero_add]
  exact ⟨rfl, rfl⟩

theorem State.transferList_bridges (s : State) (x : Nat) (bs : List BridgeEntry) : (s.transferList x bs).1.map.bridges = s.map.bridges := by
  induction bs generalizing s with
  | nil => rfl
  | cons b bs ih =>
    rw [State.transferList]
    dsimp only
    rw [ih, State.transferEntry_eq rfl, State.insertMark_bridges]

theorem State.transferDue_bridge (s : State) (k : WebId) :
    (s.transferDue k).1.bridge k = { s.bridge k with entries := (s.bridge k).entries.drop (s.transferDue k).2.1 } :=
  (congrArg (fun v : Vector Bridge 3 => v[k]) (State.transferList_bridges ..)).trans (s.onBridge_self k _)

theorem State.transferDue_bridge_ne (s : State) {j k : WebId} (h : j ≠ k) : (s.transferDue k).1.bridge j = s.bridge j :=
  (congrArg (fun v : Vector Bridge 3 => v[j]) (State.transferList_bridges ..)).trans (s.onBridge_ne k _ h)

/-! ### ThreadBridge's effect (R32) -/

/-- The bridge threaded: its content given, its shortfall gone. -/
def State.threaded (s : State) (k : WebId) (v : Nat) : State := s.onBridge k fun b => { b with content := v, shortfall := 0 }

/-- What ThreadBridge does after the transfers: the levels. -/
theorem State.thread_within (s : State) (k : WebId) (v : Nat) : ((s.threaded k v).transferDue k).1.Within [.lsv] (s.thread k v).1 := by
  unfold State.thread State.threaded
  dsimp only
  exact .ite (fun _ => (State.evalBridgeEntry_within _).step (State.raise_within ..) (by simp)) fun _ => State.evalBridgeEntry_within _

theorem State.thread_bridge (s : State) (k : WebId) (v : Nat) :
    (s.thread k v).1.bridge k =
      { s.bridge k with
        content := v, shortfall := 0, entries := (s.bridge k).entries.drop ((s.threaded k v).transferDue k).2.1 } := by
  have map := (s.thread_within k v).map_eq
  unfold State.bridge
  rw [map]
  refine ((s.threaded k v).transferDue_bridge k).trans ?_
  rw [State.threaded, State.onBridge_self]
  rfl

theorem State.thread_bridge_ne (s : State) {j k : WebId} (v : Nat) (h : j ≠ k) : (s.thread k v).1.bridge j = s.bridge j := by
  unfold State.bridge
  rw [(s.thread_within k v).map_eq]
  exact ((s.threaded k v).transferDue_bridge_ne h).trans (s.onBridge_ne k _ h)

theorem State.thread_keepsBut (s : State) (k : WebId) (v : Nat) : s.keepsBut (s.thread k v).1 [.map, .lsv] :=
  ((s.onBridge_keepsBut k _).trans (((s.threaded k v).transferDue_within k).toTouches.mono (by simp)).keepsBut).trans
    ((s.thread_within k v).toTouches.mono (by simp)).keepsBut

theorem State.thread_mergeCoord (s : State) (k : WebId) (v : Nat) : (s.thread k v).1.mergeCoord k = s.webPos k - v := by
  have lcu : (s.thread k v).1.lcu = s.lcu := (s.thread_keepsBut k v).1 .lcu (by simp)
  unfold State.mergeCoord
  rw [s.thread_bridge]
  unfold State.webPos State.counter
  rw [lcu]

theorem State.thread_fst (s : State) (k : WebId) (v : Nat) :
    (s.thread k v).1 =
      if (s.bridge k).content ≤ (s.bridge k).high ∧ (s.bridge k).high < v then
        ((s.threaded k v).transferDue k).1.evalBridgeEntry.raise .bridgeHigh (bridgeSubject k) (natBytes 6 v)
      else ((s.threaded k v).transferDue k).1.evalBridgeEntry := rfl

theorem State.thread_levels (s : State) (k : WebId) (v : Nat) :
    (s.thread k v).1.bridgeEntryOk ∧
      (s.thread k v).1.lsv = { s.lsv with ceiling := { s.lsv.ceiling with bridge := (s.thread k v).1.lsv.ceiling.bridge } } ∧
      ((s.bridge k).content ≤ (s.bridge k).high → (s.bridge k).high < v → (s.thread k v).1.noticed .bridgeHigh .bridge (k.val + 1)) := by
  have lsv : ((s.threaded k v).transferDue k).1.lsv = s.lsv := ((s.threaded k v).transferDue_within k).same .lsv (by simp)
  rw [s.thread_fst]
  generalize ((s.threaded k v).transferDue k).1 = t at lsv ⊢
  have entry := t.evalBridgeEntry_lsv
  rw [lsv] at entry
  split
  · obtain ⟨e, mem, kind, subject, -⟩ := t.evalBridgeEntry.raise_noticedWith .bridgeHigh .bridge (k.val + 1) (natBytes 6 v)
    exact ⟨State.raise_bridgeEntryOk t.evalBridgeEntry_ok _ _ _, entry, fun _ _ => ⟨e, mem, kind, subject⟩⟩
  · next level => exact ⟨t.evalBridgeEntry_ok, entry, fun below above => absurd ⟨below, above⟩ level⟩

theorem State.thread_eq (s : State) (k : WebId) (v : Nat) :
    s.thread k v =
      ((s.thread k v).1, okReply (natBytes 6 v ++ natBytes 6 (s.webPos k - v) ++ natBytes 1 ((s.threaded k v).transferDue k).2.1 ++
        natBytes 1 ((s.threaded k v).transferDue k).2.2)) := by
  rw [← s.thread_mergeCoord k v]
  rfl

/-! ### The checks (R31, R32) -/

theorem idOf_web (k : WebId) : idOf 3 (k.val + 1) = some k := idOf_succ k

theorem State.setBridge_checks {s : State} {k : WebId} (slow high crawl : Nat) (line : s.lsv.line = .setup ∨ s.lsv.line = .ready) :
    s.setBridge (k.val + 1) slow high crawl =
      if !s.webInUse k then s.refuse (stateReply (bridgeSubject k) unusedState)
      else
        match firstFailing [(within 1 100 slow, 2), (within (slow + 1) 500 high, 3), (within 5 400 crawl, 4)] with
        | some n => s.refuse (rangeReply n)
        | none =>
          ((s.onBridge k fun b => { b with slow := metres slow, high := metres high, crawl := crawl }).evalBridgeEntry, okReply []) := by
  have in_ : ¬s.lsv.line ∉ [LineState.setup, .ready] := by rcases line with is | is <;> simp [is]
  unfold State.setBridge
  rw [if_neg (mt State.not_lineIn_iff.mp in_), idOf_web] <;> rfl

theorem State.threadBridge_checks {s : State} {k : WebId} (content : Nat) (line : s.lsv.line = .ready) :
    s.threadBridge (k.val + 1) content =
      if !s.webInUse k then s.refuse (stateReply (bridgeSubject k) unusedState)
      else if 500 < content ∨ s.webPos k < metres content then s.refuse (rangeReply 2)
      else s.thread k (metres content) := by
  unfold State.threadBridge
  rw [if_neg (mt State.not_lineIn_iff.mp (by simp [line])), idOf_web]

theorem bridge_fits_iff {slow high crawl : Nat} :
    firstFailing [(within 1 100 slow, 2), (within (slow + 1) 500 high, 3), (within 5 400 crawl, 4)] = none ↔
      1 ≤ slow ∧ slow ≤ 100 ∧ slow < high ∧ high ≤ 500 ∧ 5 ≤ crawl ∧ crawl ≤ 400 := by
  simp only [firstFailing_eq_none, List.forall_mem_cons, within_iff, List.not_mem_nil, false_imp_iff, implies_true, and_true, and_assoc]
  rfl

theorem State.not_webInUse_iff {s : State} {k : WebId} : (!s.webInUse k) = true ↔ s.walls < k.val + 1 := by
  rw [Bool.not_eq_true', ← Bool.not_eq_true, State.webInUse_iff, not_le]

/-- Settles O17: the content with its level tests, the transfers from the head of the list, and the two commands check by check. -/
theorem bridgeCommands : Obligations.BridgeCommands := by
  unfold Obligations.BridgeCommands
  refine ⟨fun s k v => ?content, fun s k pre post entries => ?transfers, fun s tag k serves => ⟨fun slow high crawl => ?setBridge, fun content => ?thread⟩⟩
  case content =>
    obtain ⟨-, -, map, keeps⟩ := State.onBridge_then (s.setContent_within k v)
    exact ⟨s.setContent_bridge k v, fun j other => s.setContent_bridge_ne v other, map, s.setContent_ok k v, State.setContent_rise, keeps⟩
  case transfers =>
    intro x t mark ask left due rest
    exact State.transferDue_split entries due rest
  case setBridge =>
    refine ⟨fun setup ready => ?_, fun line unused => ?_, fun line used out => ?_, fun line used fits => ?_⟩
    · exact State.answers_of_refuse serves rfl (if_pos (State.not_lineIn_iff.mpr (by simp [setup, ready]))) s.lineReply_head
    · exact State.answers_of_refuse serves rfl ((State.setBridge_checks slow high crawl line).trans (if_pos (State.not_webInUse_iff.mpr unused)))
        (stateReply_head ..)
    · obtain ⟨n, failing⟩ := Option.ne_none_iff_exists'.mp (mt bridge_fits_iff.mp out)
      refine State.answers_of_refuse serves rfl ((State.setBridge_checks slow high crawl line).trans ?_) (rangeReply_head n)
      rw [if_neg (mt State.not_webInUse_iff.mp used.not_gt), failing]
    · have done : s.setBridge (k.val + 1) slow high crawl =
          ((s.onBridge k fun b => { b with slow := metres slow, high := metres high, crawl := crawl }).evalBridgeEntry, okReply []) := by
        rw [State.setBridge_checks slow high crawl line, if_neg (mt State.not_webInUse_iff.mp used.not_gt), bridge_fits_iff.mpr fits]
      obtain ⟨own, others, map, keeps⟩ := State.onBridge_then (State.evalBridgeEntry_within
        (s.onBridge k fun b => { b with slow := metres slow, high := metres high, crawl := crawl }))
      refine ⟨_, ?_, own, others, map, State.evalBridgeEntry_ok _, State.evalBridgeEntry_lsv _, keeps⟩
      change hostCommand tag 0x20 (fun t => t.setBridge (k.val + 1) slow high crawl) s = _
      rw [hostCommand_serves _ _ _ serves, done]
      rfl
  case thread =>
    refine ⟨fun line => ?_, fun line unused => ?_, fun line used out => ?_, fun line used low high => ?_⟩
    · exact State.answers_of_refuse serves rfl (if_pos (State.not_lineIn_iff.mpr (by simpa using line))) s.lineReply_head
    · exact State.answers_of_refuse serves rfl ((State.threadBridge_checks content line).trans (if_pos (State.not_webInUse_iff.mpr unused)))
        (stateReply_head ..)
    · refine State.answers_of_refuse serves rfl ((State.threadBridge_checks content line).trans ?_) (rangeReply_head 2)
      rw [if_neg (mt State.not_webInUse_iff.mp used.not_gt)]
      exact if_pos out
    · have fits : ¬(500 < content ∨ s.webPos k < metres content) := fun out => out.elim low.not_gt high.not_gt
      have done : s.threadBridge (k.val + 1) content = s.thread k (metres content) := by
        rw [State.threadBridge_checks content line, if_neg (mt State.not_webInUse_iff.mp used.not_gt), if_neg fits]
      obtain ⟨ok, lsv, rises⟩ := s.thread_levels k (metres content)
      intro b t
      refine ⟨(s.thread k (metres content)).1, ?_, (s.thread_within k (metres content)).map_eq, s.thread_bridge k (metres content),
        s.thread_mergeCoord k (metres content), fun j other => s.thread_bridge_ne _ other, ok, lsv, rises, s.thread_keepsBut k (metres content)⟩
      change hostCommand tag 0x21 (fun t => t.threadBridge (k.val + 1) content) s = _
      rw [hostCommand_serves _ _ _ serves, done, s.thread_eq]
      rfl

end Sys2Proof.Machine
end

section
/-! PROOF. What the reports of a change of faults or of owners do to the owners (R87 to R89, R94, R95, R103, R109). -/

namespace Sys2Proof.Machine

/-! ### The BOND claims (R89) -/

/-- The claims and the BOND entry are those of the zones' present states. -/
structure State.BondFresh (s : State) : Prop where
  entry : s.bondEntryOk
  claims : ∀ n : ZoneId, (s.zone n).claim = s.bondClaim n

/-- The claim of a zone reads its switch, its state and the lookups. -/
theorem State.SameLookups.bondClaim {s t : State} (h : s.SameLookups t) {n : ZoneId} (enabled : (t.zone n).enabled = (s.zone n).enabled)
    (state : (t.zone n).state = (s.zone n).state) : t.bondClaim n = s.bondClaim n := by
  have lookup : t.zoneLookup n = s.zoneLookup n := by
    unfold State.zoneLookup State.zoneIn
    rw [h.linePos, h.zones, h.bnd]
  unfold State.bondClaim Zone.claims
  rw [enabled, state, lookup, h.gradeAt]

/-- Work that leaves the claims, the entry, and what both are judged by. -/
theorem State.BondFresh.congr {s t : State} (h : s.BondFresh) (lookups : s.SameLookups t) (entry : t.lsv.ceiling.bond = s.lsv.ceiling.bond)
    (zones : ∀ n, (t.zone n).enabled = (s.zone n).enabled ∧ (t.zone n).state = (s.zone n).state ∧ (t.zone n).claim = (s.zone n).claim) :
    t.BondFresh where
  entry := by
    have ok := h.entry
    unfold State.bondEntryOk at ok ⊢
    simpa only [entry, (zones _).2.2] using ok
  claims n := by
    obtain ⟨enabled, state, claim⟩ := zones n
    rw [claim, h.claims, lookups.bondClaim enabled state]

/-- The zones with the claims that `s` judges. -/
def State.claimed (s : State) : State := s.forAll 12 fun t n => t.onZone n fun z => { z with claim := s.bondClaim n }

theorem State.evalBond_eq (s : State) : s.evalBond = s.claimed.setEntry .bond (leastClaim ((allIds 12).map s.bondClaim)) := rfl

theorem State.claimed_zone (s : State) (n : ZoneId) : s.claimed.zone n = { s.zone n with claim := s.bondClaim n } := by
  obtain ⟨x, before, after⟩ := State.forAll_turn (R := fun t u => u.zone n = t.zone n) (fun _ => rfl) (fun h h' => h'.trans h)
    (f := fun t m => t.onZone m fun z => { z with claim := s.bondClaim m }) (i := n)
    (fun t m apart => t.onZone_ne m _ apart.symm) s
  exact after.trans ((x.onZone_self n _).trans (by rw [before]))

theorem State.claimed_rest (s : State) : s.claimed = { s with bnd := { s.bnd with zones := s.claimed.bnd.zones } } :=
  State.forAll_keep (P := fun t => t = { s with bnd := { s.bnd with zones := t.bnd.zones } })
    (fun t n h => by
      rw [h]
      rfl) rfl

theorem State.evalBond_lsv (s : State) :
    s.evalBond.lsv = { s.lsv with ceiling := { s.lsv.ceiling with bond := leastClaim ((allIds 12).map s.bondClaim) } } := by
  have lsv : s.claimed.lsv = s.lsv := by rw [s.claimed_rest]
  rw [State.evalBond_eq, State.setEntry_lsv, lsv]
  rfl

theorem State.evalBond_bnd (s : State) : s.evalBond.bnd = { s.bnd with zones := s.evalBond.bnd.zones } := by
  have same : s.evalBond.bnd = s.claimed.bnd := (State.setEntry_within _ .bond _).same .bnd (by simp)
  rw [same, s.claimed_rest]

theorem State.evalBond_claim (s : State) (n : ZoneId) : (s.evalBond.zone n).claim = s.bondClaim n := by
  have same : s.evalBond.bnd = s.claimed.bnd := (State.setEntry_within _ .bond _).same .bnd (by simp)
  have zone : s.evalBond.zone n = s.claimed.zone n := by
    unfold State.zone
    rw [same]
  rw [zone, s.claimed_zone]

theorem State.evalBond_map (s : State) : s.evalBond.map = s.map := by
  have same : s.evalBond.map = s.claimed.map := (State.setEntry_within _ .bond _).same .map (by simp)
  rw [same, s.claimed_rest]

theorem State.evalBond_sameLookups (s : State) : s.SameLookups s.evalBond := by
  have reports := s.evalBond_reports (.glue 0)
  refine ⟨by rw [s.evalBond_lsv], reports.within.same .lcu (by simp), reports.within.same .obk (by simp), reports.within.same .dec (by simp),
    ?_, by rw [s.evalBond_map], reports.opens.bridges, fun n => (reports.zoneSet n).1, reports.glueSet⟩
  rw [s.evalBond_bnd]

/-- The evaluation leaves what it evaluated (R89). -/
theorem State.evalBond_fresh (s : State) : s.evalBond.BondFresh := by
  have claims (n : ZoneId) : (s.evalBond.zone n).claim = s.evalBond.bondClaim n := by
    rw [s.evalBond_claim]
    exact (s.evalBond_sameLookups.bondClaim (by rw [s.evalBond_zone]) (by rw [s.evalBond_zone])).symm
  refine ⟨?_, claims⟩
  unfold State.bondEntryOk
  simp only [s.evalBond_claim, s.evalBond_lsv]
  constructor
  · exact fun n v claim => leastClaim_le (List.mem_map.mpr ⟨n, List.mem_finRange n, claim⟩)
  · intro v least
    obtain ⟨n, -, claim⟩ := List.mem_map.mp (leastClaim_mem least)
    exact ⟨n, claim⟩

/-! ### What a report tells (R169) -/

/-- The subject of a source's own notices. -/
def BondSource.subject : BondSource → Subject
  | .zone n => zoneSubject n
  | .glue k => glueSubject k

theorem mem_raiseIn_of_apart {k : NoticeKind} {x : Subject} {d : List Byte} {e : NoticeEntry} {es : List NoticeEntry} (mem : e ∈ es)
    (apart : e.kind = k → e.subject ≠ x) : e ∈ raiseIn k x d es := by
  induction es with
  | nil => cases mem
  | cons f fs ih =>
    unfold raiseIn
    split
    · next same =>
      rcases List.mem_cons.mp mem with rfl | mem
      · exact absurd same.2 (apart same.1)
      · exact List.mem_cons_of_mem _ mem
    · rcases List.mem_cons.mp mem with rfl | mem
      · exact List.mem_cons_self
      · exact List.mem_cons_of_mem _ (ih mem)

/-- What a report to `x` changes beside the zones and the stations: the BOND entry, open spans, and notices of `x` or of the line and the map. -/
structure State.Tells (x : BondSource) (s t : State) : Prop where
  bnd : t.bnd = { s.bnd with zones := t.bnd.zones, glues := t.bnd.glues }
  lsv : t.lsv = { s.lsv with ceiling := { s.lsv.ceiling with bond := t.lsv.ceiling.bond } }
  changes : t.map.marks.filter Mark.isChange = s.map.marks.filter Mark.isChange
  notices : ∀ e ∈ s.lnk.notices, e.kind = .zoneFault ∨ e.kind = .glueFault → e.subject ≠ x.subject → e ∈ t.lnk.notices

namespace State.Tells

variable {x : BondSource} {s t u : State}

theorem refl (x : BondSource) (s : State) : s.Tells x s := ⟨rfl, rfl, rfl, fun _ mem _ _ => mem⟩

theorem trans (h : s.Tells x t) (h' : t.Tells x u) : s.Tells x u where
  bnd := by rw [h'.bnd, h.bnd]
  lsv := by rw [h'.lsv, h.lsv]
  changes := h'.changes.trans h.changes
  notices e mem kind apart := h'.notices e (h.notices e mem kind apart) kind apart

/-- An update of zones and stations. -/
theorem of_bnd {z : Vector Zone 12} {g : Vector GlueStation 4} : s.Tells x { s with bnd := { s.bnd with zones := z, glues := g } } :=
  ⟨rfl, rfl, rfl, fun _ mem _ _ => mem⟩

end State.Tells

theorem State.raise_tells (x : BondSource) (s : State) (k : NoticeKind) (y : Subject) (d : List Byte)
    (own : k = .zoneFault ∨ k = .glueFault → y = x.subject) : s.Tells x (s.raise k y d) :=
  ⟨rfl, rfl, rfl, fun _ mem kind apart => mem_raiseIn_of_apart mem fun same subject => apart (subject.trans (own (same ▸ kind)))⟩

theorem insertSorted_changes {m : Mark} (other : m.isChange = false) (ms : List Mark) :
    (insertSorted m ms).filter Mark.isChange = ms.filter Mark.isChange := by
  obtain ⟨pre, post, old, -, -, new⟩ := insertSorted_placed m ms
  rw [new, old, List.filter_append, List.filter_append, List.filter_cons_of_neg (by simp [other])]

theorem State.openSpan_raises (s : State) (x : BondSource) (p : Nat) : s.Raises [.mapFull] (s.openSpan x p) where
  mem e mem kind := by
    have lost : (s.loseMark { start := p, finish := none, body := .bondRisk x }).lnk.notices =
        (s.markLost { start := p, finish := none, body := .bondRisk x }).lnk.notices := by cases x <;> rfl
    rw [State.openSpan_eq]
    split
    · exact mem
    · rw [lost]
      refine mem_raiseIn_of_kind_ne ?_ fun full => kind (by simp [full])
      change e ∈ (s.lowerRa p).lnk.notices
      rwa [State.lowerRa_lnk]

theorem State.openSpan_tells (x : BondSource) (s : State) (p : Nat) : s.Tells x (s.openSpan x p) := by
  have within := s.openSpan_within x p
  have bnd : (s.openSpan x p).bnd = s.bnd := within.same .bnd (by simp)
  have lsv : (s.openSpan x p).lsv = s.lsv := within.same .lsv (by simp)
  refine ⟨by rw [bnd], by rw [lsv], ?_, fun e mem kind _ => (s.openSpan_raises x p).mem e mem ?_⟩
  · rw [State.openSpan_eq]
    split
    · exact insertSorted_changes rfl _
    · exact congrArg _ (s.loseMark_marks _).1
  · rcases kind with kind | kind <;> simp [kind]

theorem State.claimed_lnk (s : State) : s.claimed.lnk = s.lnk := by rw [s.claimed_rest]

theorem State.evalBond_raises (s : State) : s.Raises lineKinds s.evalBond :=
  (State.setEntry_raises s.claimed .bond _).after s.claimed_lnk

theorem State.evalBond_tells (x : BondSource) (s : State) : s.Tells x s.evalBond where
  bnd := s.evalBond_sameLookups.bnd
  lsv := by rw [s.evalBond_lsv]
  changes := s.evalBond_sameLookups.changes
  notices e mem kind _ := s.evalBond_raises.mem e mem (by rcases kind with kind | kind <;> simp [kind, lineKinds])

/-- A report leaves what the lookups read. -/
theorem State.Reports.sameLookups {x : BondSource} {s t : State} (h : s.Reports x t) (tells : s.Tells x t) : s.SameLookups t :=
  ⟨by rw [tells.lsv], h.within.same .lcu (by simp), h.within.same .obk (by simp), h.within.same .dec (by simp), tells.bnd, tells.changes,
    h.opens.bridges, fun n => (h.zoneSet n).1, h.glueSet⟩

/-! ### A report to a zone (R87 to R89) -/

/-- A zone told of its output, `start` being where it would open a span. -/
def Zone.told (z : Zone) (start : Nat) (b : Bool) : Zone :=
  if b = false then { z with output := false }
  else if z.enabled = false ∨ z.state = .fault then { z with output := true }
  else { z with output := true, state := .fault, demand := 0, span := some (z.span.getD start) }

/-- A zone that would enter FAULT. -/
def Zone.sound (z : Zone) : Prop := z.enabled = true ∧ z.state ≠ .fault

theorem Zone.not_sound {z : Zone} : ¬z.sound ↔ z.enabled = false ∨ z.state = .fault := by
  unfold Zone.sound
  rw [not_and_or, Bool.not_eq_true, not_not]

theorem State.spanStart_zone (s : State) (n : ZoneId) : s.spanStart (.zone n) = s.linePos - s.zoneOut n := rfl

theorem State.zoneTold_spanStart (s : State) (n : ZoneId) (b : Bool) : (s.zoneTold n b).spanStart (.zone n) = s.spanStart (.zone n) := by
  have out : (s.zoneTold n b).zoneOut n = s.zoneOut n := by
    unfold State.zoneOut
    rw [s.zoneTold_self]
  rw [State.spanStart_zone, State.spanStart_zone, out]
  rfl

theorem State.zoneFaulted_spanStart (s : State) (n : ZoneId) : (s.zoneFaulted n).spanStart (.zone n) = s.spanStart (.zone n) := by
  have out : (s.zoneFaulted n).zoneOut n = s.zoneOut n := by
    unfold State.zoneOut
    rw [(s.zoneFaulted_spec n).2]
  rw [State.spanStart_zone, State.spanStart_zone, out, (s.zoneFaulted_spec n).1.within.linePos]

/-- The zone in FAULT with its span, before the claims. -/
def State.zoneDown (s : State) (n : ZoneId) : State :=
  if (s.zone n).span.isSome then s.zoneFaulted n else (s.zoneFaulted n).openZoneSpan n

theorem State.enterZone_fault_of {s : State} {n : ZoneId} (sound : (s.zone n).state ≠ .fault) :
    s.enterZone n .fault = (s.zoneDown n).evalBond := by
  unfold State.zoneDown
  rw [State.enterZone_fault, if_neg sound, (s.zoneFaulted_spec n).2]

theorem State.zoneFaulted_tells (s : State) (n : ZoneId) : s.Tells (.zone n) (s.zoneFaulted n) :=
  State.Tells.of_bnd.trans (State.raise_tells _ _ _ _ _ fun _ => rfl)

theorem State.openZoneSpan_tells (s : State) (n : ZoneId) : s.Tells (.zone n) (s.openZoneSpan n) :=
  (State.openSpan_tells _ s _).trans .of_bnd

theorem State.zoneDown_spec (s : State) (n : ZoneId) :
    s.Tells (.zone n) (s.zoneDown n) ∧
      (s.zoneDown n).zone n = { s.zone n with state := .fault, demand := 0, span := some ((s.zone n).span.getD (s.spanStart (.zone n))) } ∧
      (s.zoneDown n).map = if (s.zone n).span = none then (s.openSpan (.zone n) (s.spanStart (.zone n))).map else s.map := by
  obtain ⟨-, zone⟩ := s.zoneFaulted_spec n
  obtain ⟨-, -, zone'⟩ := (s.zoneFaulted n).openZoneSpan_spec n
  have start := s.zoneFaulted_spanStart n
  rw [State.spanStart_zone (s.zoneFaulted n)] at start
  unfold State.zoneDown
  rcases span : (s.zone n).span with _ | p
  · rw [if_neg (by simp), if_pos rfl, zone', zone, start]
    refine ⟨(s.zoneFaulted_tells n).trans (State.openZoneSpan_tells ..), rfl, ?_⟩
    unfold State.openZoneSpan
    dsimp only
    rw [start]
    exact (State.insertMark_congr (s := s) (t := s.zoneFaulted n) rfl rfl rfl _).1
  · rw [if_pos Option.isSome_some, if_neg (by simp), zone, ← span]
    refine ⟨s.zoneFaulted_tells n, ?_, rfl⟩
    rw [span, Option.getD_some, ← span]

theorem State.zoneFaulted_noticed (s : State) (n : ZoneId) :
    (s.zoneFaulted n).noticedWith .zoneFault .heatZone (n.val + 1) (bitSetBytes 1 [(s.zone n).sensor, (s.zone n).output]) := by
  have zone : (s.onZone n fun z => { z with state := .fault, demand := 0 }).zone n = { s.zone n with state := .fault, demand := 0 } :=
    s.onZone_self n _
  unfold State.zoneFaulted
  dsimp only
  rw [zone]
  exact State.raise_noticedWith ..

theorem State.zoneDown_noticed (s : State) (n : ZoneId) :
    (s.zoneDown n).evalBond.noticedWith .zoneFault .heatZone (n.val + 1) (bitSetBytes 1 [(s.zone n).sensor, (s.zone n).output]) := by
  obtain ⟨e, mem, kind, subject, detail⟩ := s.zoneFaulted_noticed n
  have other : e.subject ≠ BondSource.subject (.glue 0) := by simp [subject, BondSource.subject, glueSubject]
  have opened : e ∈ (s.zoneDown n).lnk.notices := by
    unfold State.zoneDown
    split
    · exact mem
    · exact (State.openSpan_raises (s.zoneFaulted n) (.zone n) _).mem e mem (by simp [kind])
  exact ⟨e, (State.evalBond_tells (.glue 0) _).notices e opened (.inl kind) other, kind, subject, detail⟩

end Sys2Proof.Machine
end

section
/-! PROOF. The owners of outputs as the reports of a change have told them (R87, R94, R95, R103, R109). -/

namespace Sys2Proof.Machine

/-! ### One report to a zone -/

theorem State.zoneReport_rests {s : State} {n : ZoneId} {b : Bool} (rests : b = true → ¬(s.zone n).sound) :
    s.zoneReport n b = s.zoneTold n b := by
  rw [State.zoneReport_eq]
  split
  · next both =>
    obtain ⟨isFault, enabled⟩ := Bool.and_eq_true_iff.mp both
    have faulted : ((s.zoneTold n b).zone n).state = .fault := by
      rw [s.zoneTold_self]
      exact (Zone.not_sound.mp (rests isFault)).resolve_left (by simp [enabled])
    rw [State.enterZone_fault, if_pos faulted]
  · rfl

theorem State.zoneReport_enters {s : State} {n : ZoneId} (sound : (s.zone n).sound) :
    s.zoneReport n true = ((s.zoneTold n true).zoneDown n).evalBond := by
  obtain ⟨enabled, state⟩ := sound
  rw [State.zoneReport_eq, if_pos (by simp [enabled]), State.enterZone_fault_of]
  rw [s.zoneTold_self]
  exact state

theorem State.zoneTold_tells (s : State) (n : ZoneId) (b : Bool) : s.Tells (.zone n) (s.zoneTold n b) := .of_bnd

theorem State.zoneReport_tells (s : State) (n : ZoneId) (b : Bool) : s.Tells (.zone n) (s.zoneReport n b) := by
  by_cases enters : b = true ∧ (s.zone n).sound
  · obtain ⟨rfl, sound⟩ := enters
    rw [State.zoneReport_enters sound]
    exact ((s.zoneTold_tells n true).trans (State.zoneDown_spec _ n).1).trans (State.evalBond_tells _ _)
  · rw [State.zoneReport_rests fun isFault sound => enters ⟨isFault, sound⟩]
    exact s.zoneTold_tells n b

/-- A report to a zone, its claim aside. -/
theorem State.zoneReport_zone (s : State) (n : ZoneId) (b : Bool) :
    (s.zoneReport n b).zone n =
      { (s.zone n).told (s.spanStart (.zone n)) b with claim := ((s.zoneReport n b).zone n).claim } := by
  unfold Zone.told
  cases b
  · rw [State.zoneReport_rests (b := false) fun h => absurd h (by decide), s.zoneTold_self]
    rfl
  · rw [if_neg (by decide)]
    by_cases sound : (s.zone n).sound
    · obtain ⟨-, zone, -⟩ := (s.zoneTold n true).zoneDown_spec n
      rw [State.zoneReport_enters sound, State.evalBond_zone, zone, s.zoneTold_self, s.zoneTold_spanStart, if_neg (mt Zone.not_sound.mpr (not_not.mpr sound))]
    · rw [State.zoneReport_rests fun _ => sound, s.zoneTold_self, if_pos (Zone.not_sound.mp sound)]

/-! ### One report to a glue station -/

/-- A station that would enter FAULT. -/
def GlueStation.sound (g : GlueStation) : Prop := g.state ≠ .off ∧ g.state ≠ .fault

theorem State.glueReport_rests {s : State} {k : GlueId} {b : Bool} (rests : b = true → ¬(s.glue k).sound) :
    s.glueReport k b = s ∨ s.glueReport k b = s.onGlue k fun g => { g with output := b } := by
  by_cases off : (s.glue k).state = .off
  · exact .inl (s.glueReport_off off b)
  · cases b
    · exact .inr (s.glueReport_clear off)
    · exact .inr (s.glueReport_joins (by_contra fun apart => rests rfl ⟨off, apart⟩))

/-- A station that enters FAULT, its span opened, before its notice. -/
def State.glueDown (s : State) (k : GlueId) : State := (s.glueFaulted k .output).openGlueSpan k

theorem State.glueReport_enters {s : State} {k : GlueId} (sound : (s.glue k).sound) :
    s.glueReport k true = (s.glueDown k).raise .glueFault (glueSubject k) (natBytes 1 1) := s.glueReport_faults sound.1 sound.2

theorem State.glueFaulted_tells (s : State) (k : GlueId) (c : GlueCause) : s.Tells (.glue k) (s.glueFaulted k c) := .of_bnd

theorem State.openGlueSpan_tells (s : State) (k : GlueId) : s.Tells (.glue k) (s.openGlueSpan k) := by
  unfold State.openGlueSpan
  split
  · exact .refl _ s
  · exact (State.openSpan_tells _ s _).trans .of_bnd

theorem State.glueDown_rest (s : State) (k : GlueId) :
    (s.glueDown k).map = (if (s.glue k).span = none then (s.openSpan (.glue k) (s.gluePoint k)).map else s.map) ∧
      (s.glueDown k).bnd.zones = s.bnd.zones ∧ (s.glueDown k).lsv = s.lsv := by
  have span : ((s.glueFaulted k .output).glue k).span = (s.glue k).span := by
    simp only [State.glueFaulted, State.setPair, State.setGlueState, State.onGlue_self]
    split <;> rfl
  have point : (s.glueFaulted k .output).gluePoint k = s.gluePoint k := (s.glueFaulted_reports k).gluePoint k
  unfold State.glueDown State.openGlueSpan
  rw [span, point]
  rcases (s.glue k).span with _ | p
  · have bnd : ((s.glueFaulted k .output).openSpan (.glue k) (s.gluePoint k)).bnd = (s.glueFaulted k .output).bnd :=
      (State.openSpan_within ..).same .bnd (by simp)
    have lsv : ((s.glueFaulted k .output).openSpan (.glue k) (s.gluePoint k)).lsv = (s.glueFaulted k .output).lsv :=
      (State.openSpan_within ..).same .lsv (by simp)
    exact ⟨(State.insertMark_congr (s := s) (t := s.glueFaulted k .output) rfl rfl rfl _).1, congrArg (·.zones) bnd, lsv⟩
  · exact ⟨rfl, rfl, rfl⟩

theorem State.glueReport_tells (s : State) (k : GlueId) (b : Bool) : s.Tells (.glue k) (s.glueReport k b) := by
  by_cases enters : b = true ∧ (s.glue k).sound
  · obtain ⟨rfl, sound⟩ := enters
    rw [State.glueReport_enters sound]
    exact ((s.glueFaulted_tells k .output).trans (State.openGlueSpan_tells _ k)).trans (State.raise_tells _ _ _ _ _ fun _ => rfl)
  · rcases State.glueReport_rests fun isFault sound => enters ⟨isFault, sound⟩ with e | e <;> rw [e]
    · exact .refl _ s
    · exact .of_bnd

/-- A report to a station leaves the zones and the ceiling table. -/
theorem State.glueReport_zones (s : State) (k : GlueId) (b : Bool) :
    (s.glueReport k b).bnd.zones = s.bnd.zones ∧ (s.glueReport k b).lsv = s.lsv := by
  by_cases enters : b = true ∧ (s.glue k).sound
  · obtain ⟨rfl, sound⟩ := enters
    rw [State.glueReport_enters sound]
    exact (s.glueDown_rest k).2
  · rcases State.glueReport_rests fun isFault sound => enters ⟨isFault, sound⟩ with e | e <;> rw [e] <;> exact ⟨rfl, rfl⟩

/-! ### One report to an owner -/

/-- The source would open a span at a fault report. -/
def State.ready (s : State) : BondSource → Prop
  | .zone n => (s.zone n).sound ∧ (s.zone n).span = none
  | .glue k => (s.glue k).sound ∧ (s.glue k).span = none

theorem State.ownerReport_tells (s : State) (w : Owner) (b : Bool) : s.Tells w.source (s.ownerReport w b) := by
  cases w with
  | zone n => exact s.zoneReport_tells n b
  | sideA k => exact s.glueReport_tells k b
  | sideB k => exact s.glueReport_tells k b

theorem State.glueReport_map {s : State} {k : GlueId} {b : Bool} :
    (¬(b = true ∧ s.ready (.glue k)) → (s.glueReport k b).map = s.map) ∧
      (b = true → s.ready (.glue k) → (s.glueReport k b).map = (s.openSpan (.glue k) (s.spanStart (.glue k))).map) := by
  refine ⟨fun rests => ?_, fun isFault ready => ?_⟩
  · by_cases enters : b = true ∧ (s.glue k).sound
    · obtain ⟨rfl, sound⟩ := enters
      rw [State.glueReport_enters sound]
      exact (s.glueDown_rest k).1.trans (if_neg fun none_ => rests ⟨rfl, sound, none_⟩)
    · rcases State.glueReport_rests fun isFault sound => enters ⟨isFault, sound⟩ with e | e
      · rw [e]
      · rw [e]
        rfl
  · subst isFault
    rw [State.glueReport_enters ready.1]
    exact (s.glueDown_rest k).1.trans (if_pos ready.2)

theorem State.zoneReport_map {s : State} {n : ZoneId} {b : Bool} :
    (¬(b = true ∧ s.ready (.zone n)) → (s.zoneReport n b).map = s.map) ∧
      (b = true → s.ready (.zone n) → (s.zoneReport n b).map = (s.openSpan (.zone n) (s.spanStart (.zone n))).map) := by
  have down (sound : (s.zone n).sound) : (s.zoneReport n true).map =
      if (s.zone n).span = none then (s.openSpan (.zone n) (s.spanStart (.zone n))).map else s.map := by
    obtain ⟨-, -, map⟩ := (s.zoneTold n true).zoneDown_spec n
    rw [State.zoneReport_enters sound, State.evalBond_map, map, s.zoneTold_self, s.zoneTold_spanStart]
    have told := (State.insertMark_congr (s := s) (t := s.zoneTold n true) rfl rfl rfl
      { start := s.spanStart (.zone n), finish := none, body := .bondRisk (.zone n) }).1
    exact if_congr Iff.rfl told rfl
  refine ⟨fun rests => ?_, fun isFault ready => ?_⟩
  · by_cases enters : b = true ∧ (s.zone n).sound
    · obtain ⟨rfl, sound⟩ := enters
      exact (down sound).trans (if_neg fun none_ => rests ⟨rfl, sound, none_⟩)
    · rw [State.zoneReport_rests fun isFault sound => enters ⟨isFault, sound⟩]
      rfl
  · subst isFault
    exact (down ready.1).trans (if_pos ready.2)

/-- A report opens the span of a source that is ready for it, and changes nothing else of the map. -/
theorem State.ownerReport_map (s : State) (w : Owner) (b : Bool) :
    (¬(b = true ∧ s.ready w.source) → (s.ownerReport w b).map = s.map) ∧
      (b = true → s.ready w.source → (s.ownerReport w b).map = (s.openSpan w.source (s.spanStart w.source)).map) := by
  cases w with
  | zone n => exact State.zoneReport_map
  | sideA k => exact State.glueReport_map
  | sideB k => exact State.glueReport_map

/-- A source is as ready after a report as before it, unless the report was a fault of its own. -/
theorem State.ownerReport_ready (s : State) (w : Owner) (b : Bool) (y : BondSource) :
    (s.ownerReport w b).ready y ↔ s.ready y ∧ ¬(b = true ∧ w.source = y) := by
  have reports := s.ownerReport_reports w b
  by_cases own : w.source = y
  · subst own
    cases b
    · simp only [Bool.false_eq_true, not_false_eq_true, and_true]
      rcases source : w.source with n | k
      · rw [s.ownerReport_zone source, State.ready, State.ready, s.zoneReport_zone]
        rfl
      · obtain ⟨-, glue, -⟩ := s.glueReport_spec k false
        rw [s.ownerReport_glue source, State.ready, State.ready, glue]
        unfold GlueStation.told
        split
        · rfl
        · rfl
    · simp only [and_self, not_true_eq_false, and_false, iff_false]
      rcases source : w.source with n | k
      · rw [s.ownerReport_zone source, State.ready]
        rintro ⟨⟨enabled, sound⟩, -⟩
        exact sound ((s.zoneReport_faulted n).2 enabled)
      · rw [s.ownerReport_glue source, State.ready]
        rintro ⟨⟨on, sound⟩, -⟩
        by_cases off : (s.glue k).state = .off
        · rw [s.glueReport_off off] at on
          exact on off
        · exact sound (s.glueReport_faulted off).2
  · simp only [own, and_false, not_false_eq_true, and_true]
    cases y with
    | zone n =>
      rw [State.ready, State.ready, reports.zones n own]
      rfl
    | glue k => rw [State.ready, State.ready, reports.glues k own]

theorem State.Reports.spanStart {x : BondSource} {s t : State} (h : s.Reports x t) (y : BondSource) : t.spanStart y = s.spanStart y := by
  cases y with
  | zone n => exact h.sends.spanStart n
  | glue k => exact h.gluePoint k

/-! ### The spans that the reports open (R88, R95) -/

theorem State.openSpan_congr {s t : State} (map : t.map = s.map) (lcu : t.lcu = s.lcu) (x : BondSource) (p : Nat) :
    (t.openSpan x p).map = (s.openSpan x p).map :=
  (State.insertMark_congr map (by unfold State.linePos State.counter; rw [lcu]) (by unfold State.dLast; rw [lcu]) _).1

/-- Reports that fault no source ready for a span leave the map. -/
theorem State.takeReports_map_rests {rs : List (Owner × Bool)} {s : State} (rests : ∀ r ∈ rs, r.2 = true → ¬s.ready r.1.source) :
    (s.takeReports rs).map = s.map := by
  induction rs generalizing s with
  | nil => rfl
  | cons r rs ih =>
    rw [State.takeReports_cons, ih fun q mem isFault ready => rests q (List.mem_cons_of_mem _ mem) isFault ((s.ownerReport_ready ..).mp ready).1]
    exact (s.ownerReport_map r.1 r.2).1 fun ⟨isFault, ready⟩ => rests r List.mem_cons_self isFault ready

/-- Reports of which one source alone opens a span. -/
theorem State.takeReports_map_opens {rs : List (Owner × Bool)} {s : State} {x : BondSource} (ready : s.ready x)
    (sent : ∃ r ∈ rs, r.2 = true ∧ r.1.source = x) (alone : ∀ r ∈ rs, r.2 = true → s.ready r.1.source → r.1.source = x) :
    (s.takeReports rs).map = (s.openSpan x (s.spanStart x)).map := by
  induction rs generalizing s with
  | nil =>
    obtain ⟨r, mem, -⟩ := sent
    cases mem
  | cons r rs ih =>
    rw [State.takeReports_cons]
    have reports := s.ownerReport_reports r.1 r.2
    by_cases own : r.2 = true ∧ r.1.source = x
    · obtain ⟨isFault, rfl⟩ := own
      rw [State.takeReports_map_rests fun q mem isFault' ready' => ?_]
      · exact (s.ownerReport_map r.1 r.2).2 isFault ready
      · obtain ⟨before, apart⟩ := (s.ownerReport_ready ..).mp ready'
        exact apart ⟨isFault, (alone q (List.mem_cons_of_mem _ mem) isFault' before).symm⟩
    · have map : (s.ownerReport r.1 r.2).map = s.map := (s.ownerReport_map r.1 r.2).1 fun ⟨isFault, ready'⟩ =>
        own ⟨isFault, alone r List.mem_cons_self isFault ready'⟩
      obtain ⟨q, mem, isFault, source⟩ := sent
      have later : q ∈ rs := (List.mem_cons.mp mem).resolve_left fun e => own (e ▸ ⟨isFault, source⟩)
      rw [ih ((s.ownerReport_ready ..).mpr ⟨ready, own⟩) ⟨q, later, isFault, source⟩ fun p mem isFault' ready' =>
        alone p (List.mem_cons_of_mem _ mem) isFault' ((s.ownerReport_ready ..).mp ready').1, reports.spanStart]
      exact State.openSpan_congr map (reports.within.same .lcu (by simp)) x _

theorem State.openSpan_marks {s : State} {x : BondSource} {p : Nat} {m : Mark} (mem : m ∈ (s.openSpan x p).map.marks) :
    m ∈ s.map.marks ∨ m = { start := p, finish := none, body := .bondRisk x } := by
  rw [State.openSpan_eq] at mem
  split at mem
  · exact (mem_insertSorted.mp mem).symm
  · rw [(s.loseMark_marks _).1] at mem
    exact .inl mem

/-- A mark that the reports bring is the open span of a source that was ready for it. -/
theorem State.takeReports_marks {rs : List (Owner × Bool)} {s : State} {m : Mark} (mem : m ∈ (s.takeReports rs).map.marks) :
    m ∈ s.map.marks ∨ ∃ x, (∃ r ∈ rs, r.2 = true ∧ r.1.source = x) ∧ s.ready x ∧
      m = { start := s.spanStart x, finish := none, body := .bondRisk x } := by
  induction rs generalizing s with
  | nil => exact .inl mem
  | cons r rs ih =>
    rw [State.takeReports_cons] at mem
    rcases ih mem with here | ⟨x, ⟨q, later, isFault, source⟩, ready, e⟩
    · by_cases opens : r.2 = true ∧ s.ready r.1.source
      · rw [(s.ownerReport_map r.1 r.2).2 opens.1 opens.2] at here
        exact (State.openSpan_marks here).imp_right fun e => ⟨_, ⟨r, List.mem_cons_self, opens.1, rfl⟩, opens.2, e⟩
      · rw [(s.ownerReport_map r.1 r.2).1 opens] at here
        exact .inl here
    · rw [(s.ownerReport_reports r.1 r.2).spanStart] at e
      exact .inr ⟨x, ⟨q, List.mem_cons_of_mem _ later, isFault, source⟩, ((s.ownerReport_ready ..).mp ready).1, e⟩

end Sys2Proof.Machine
end

section
/-! PROOF. A change of faults or of owners tells the owners what it should, and no more (R87, R94, R103, R109). -/

namespace Sys2Proof.Machine

/-! ### Which reports a change sends -/

theorem mem_outputReports_iff {old new : State} {o : OutputId} {w : Owner} :
    ((w, true) ∈ outputReports old new o ↔
      new.ownedBy o = some w ∧ new.faulted o = true ∧ ¬(old.ownedBy o = some w ∧ old.faulted o = true)) ∧
    ((w, false) ∈ outputReports old new o ↔
      old.ownedBy o = some w ∧ old.faulted o = true ∧ ¬(new.ownedBy o = some w ∧ new.faulted o = true)) := by
  unfold outputReports
  generalize old.ownedBy o = before, new.ownedBy o = after, old.faulted o = was, new.faulted o = is
  dsimp only
  by_cases same : before = after
  · subst same
    rw [if_pos rfl]
    rcases before with _ | v
    · simp
    · cases was <;> cases is <;> simp [eq_comm]
  · rw [if_neg same]
    rcases before with _ | u <;> rcases after with _ | v
    · exact absurd rfl same
    · cases is <;> simp [eq_comm]
    · cases was <;> simp [eq_comm]
    · have apart : u ≠ v := fun e => same (e ▸ rfl)
      have only (h : w = v) (h' : w = u) : False := apart (h'.symm.trans h)
      cases was <;> cases is <;> simp [eq_comm]
      exact ⟨only, fun h' h => only h h'⟩

theorem mem_changeReports_iff {old new : State} {r : Owner × Bool} : r ∈ changeReports old new ↔ ∃ o, r ∈ outputReports old new o := by
  rw [changeReports_eq, List.mem_append, mem_reportsOf, mem_reportsOf]
  cases r.2 <;> simp

theorem fault_sent_iff {old new : State} {w : Owner} : (w, true) ∈ changeReports old new ↔ FaultReported old new w := by
  simp only [mem_changeReports_iff, mem_outputReports_iff.1, FaultReported]

theorem clear_sent_iff {old new : State} {w : Owner} : (w, false) ∈ changeReports old new ↔ FaultReported new old w := by
  simp only [mem_changeReports_iff, mem_outputReports_iff.2, FaultReported]

/-- A source takes a fault report, of the zone or of a side of the station. -/
theorem fault_reaches_glue {old new : State} {k : GlueId} :
    (∃ r ∈ changeReports old new, r.2 = true ∧ r.1.source = .glue k) ↔ GlueFaultReported old new k := by
  unfold GlueFaultReported
  rw [← fault_sent_iff, ← fault_sent_iff]
  constructor
  · rintro ⟨⟨w, b⟩, mem, isFault, source⟩
    dsimp only at isFault source
    subst isFault
    rcases Owner.source_glue.mp source with rfl | rfl
    · exact .inl mem
    · exact .inr mem
  · rintro (mem | mem)
    · exact ⟨_, mem, rfl, rfl⟩
    · exact ⟨_, mem, rfl, rfl⟩

theorem fault_reaches_zone {old new : State} {n : ZoneId} :
    (∃ r ∈ changeReports old new, r.2 = true ∧ r.1.source = .zone n) ↔ FaultReported old new (.zone n) := by
  rw [← fault_sent_iff]
  constructor
  · rintro ⟨⟨w, b⟩, mem, isFault, source⟩
    dsimp only at isFault source
    subst isFault
    exact Owner.source_zone.mp source ▸ mem
  · exact fun mem => ⟨_, mem, rfl, rfl⟩

theorem opensSpan_iff {old new : State} {x : BondSource} :
    OpensSpan old new x ↔ (∃ r ∈ changeReports old new, r.2 = true ∧ r.1.source = x) ∧ new.ready x := by
  cases x with
  | zone n =>
    rw [fault_reaches_zone]
    simp only [OpensSpan, State.ready, Zone.sound, and_assoc]
  | glue k =>
    rw [fault_reaches_glue]
    simp only [OpensSpan, State.ready, GlueStation.sound, and_assoc]

/-! ### The claims along the reports (R89) -/

theorem State.zone_of_zones {s t : State} (h : t.bnd.zones = s.bnd.zones) (n : ZoneId) : t.zone n = s.zone n := by
  unfold State.zone
  rw [h]

theorem State.glueReport_fresh {s : State} (h : s.BondFresh) (k : GlueId) (b : Bool) : (s.glueReport k b).BondFresh := by
  obtain ⟨zones, lsv⟩ := s.glueReport_zones k b
  refine h.congr ((s.glueReport_spec k b).1.sameLookups (s.glueReport_tells k b)) (by rw [lsv]) fun n => ?_
  rw [State.zone_of_zones zones]
  exact ⟨rfl, rfl, rfl⟩

theorem State.zoneTold_zone (s : State) (n m : ZoneId) (b : Bool) :
    (s.zoneTold n b).zone m = { s.zone m with output := ((s.zoneTold n b).zone m).output } := by
  by_cases own : m = n
  · subst own
    rw [s.zoneTold_self]
  · rw [State.zoneTold, s.onZone_ne n _ own]

theorem State.zoneReport_fresh {s : State} (h : s.BondFresh) (n : ZoneId) (b : Bool) : (s.zoneReport n b).BondFresh := by
  by_cases enters : b = true ∧ (s.zone n).sound
  · obtain ⟨rfl, sound⟩ := enters
    rw [State.zoneReport_enters sound]
    exact State.evalBond_fresh _
  · rw [State.zoneReport_rests fun isFault sound => enters ⟨isFault, sound⟩]
    have told : s.Reports (.zone n) (s.zoneTold n b) := s.onZone_reports n _ ⟨rfl, rfl⟩
    refine h.congr (told.sameLookups (s.zoneTold_tells n b)) rfl fun m => ?_
    rw [s.zoneTold_zone]
    exact ⟨rfl, rfl, rfl⟩

theorem State.ownerReport_fresh {s : State} (h : s.BondFresh) (w : Owner) (b : Bool) : (s.ownerReport w b).BondFresh := by
  cases w with
  | zone n => exact State.zoneReport_fresh h n b
  | sideA k => exact State.glueReport_fresh h k b
  | sideB k => exact State.glueReport_fresh h k b

theorem State.takeReports_fresh {s : State} (h : s.BondFresh) (rs : List (Owner × Bool)) : (s.takeReports rs).BondFresh :=
  State.takeReports_chain (R := fun t u => t.BondFresh → u.BondFresh) (fun _ => id) (fun f g x => g (f x))
    (fun _ r _ x => State.ownerReport_fresh x r.1 r.2) s h

theorem Zone.told_sound {z : Zone} {start : Nat} {b : Bool} (h : (z.told start b).sound) : z.sound := by
  unfold Zone.told at h
  split at h
  · exact h
  · split at h
    · exact h
    · exact absurd rfl h.2

theorem State.ownerReport_sound {s : State} {w : Owner} {b : Bool} {n : ZoneId} (h : ((s.ownerReport w b).zone n).sound) : (s.zone n).sound := by
  by_cases own : w.source = .zone n
  · rw [s.ownerReport_zone own, s.zoneReport_zone] at h
    exact Zone.told_sound (z := s.zone n) (start := s.spanStart (.zone n)) (b := b) h
  · rw [(s.ownerReport_reports w b).zones n own] at h
    exact h

/-- A report that faults no sound zone leaves the claims and the BOND entry. -/
theorem State.ownerReport_rests {s : State} {w : Owner} {b : Bool} (rests : ∀ n, w = .zone n → b = true → ¬(s.zone n).sound) :
    (s.ownerReport w b).lsv = s.lsv ∧ ∀ m, ((s.ownerReport w b).zone m).claim = (s.zone m).claim := by
  have glue (k : GlueId) : (s.glueReport k b).lsv = s.lsv ∧ ∀ m, ((s.glueReport k b).zone m).claim = (s.zone m).claim := by
    obtain ⟨zones, lsv⟩ := s.glueReport_zones k b
    exact ⟨lsv, fun m => by rw [State.zone_of_zones zones]⟩
  cases w with
  | zone n =>
    have told : s.ownerReport (.zone n) b = s.zoneTold n b := State.zoneReport_rests (rests n rfl)
    rw [told]
    exact ⟨rfl, fun m => by rw [s.zoneTold_zone]⟩
  | sideA k => exact glue k
  | sideB k => exact glue k

theorem State.takeReports_rests {rs : List (Owner × Bool)} {s : State} (rests : ∀ n, (.zone n, true) ∈ rs → ¬(s.zone n).sound) :
    (s.takeReports rs).lsv = s.lsv ∧ ∀ m, ((s.takeReports rs).zone m).claim = (s.zone m).claim := by
  induction rs generalizing s with
  | nil => exact ⟨rfl, fun _ => rfl⟩
  | cons r rs ih =>
    obtain ⟨w, b⟩ := r
    obtain ⟨lsv, claims⟩ := State.ownerReport_rests (s := s) (w := w) (b := b) fun n zone isFault =>
      rests n (by rw [← zone, ← isFault]; exact List.mem_cons_self)
    obtain ⟨lsv', claims'⟩ := ih (s := s.ownerReport w b) fun n mem sound => rests n (List.mem_cons_of_mem _ mem) (State.ownerReport_sound sound)
    exact ⟨lsv'.trans lsv, fun m => (claims' m).trans (claims m)⟩

/-! ### A zone along the reports -/

/-- A told zone stays as it is, its claim aside, and its notice stays pending. -/
structure State.ZoneStays (n : ZoneId) (s t : State) : Prop where
  faulted : t.ZoneFaulted n
  zone : t.zone n = { s.zone n with claim := (t.zone n).claim }
  noticed : ∀ d, s.noticedWith .zoneFault .heatZone (n.val + 1) d → t.noticedWith .zoneFault .heatZone (n.val + 1) d

theorem BondSource.subject_zone_ne {w : Owner} {n : ZoneId} (other : w.source ≠ .zone n) : (⟨.heatZone, n.val + 1⟩ : Subject) ≠ w.source.subject := by
  rcases source : w.source with m | k
  · rw [source] at other
    intro same
    simp only [BondSource.subject, zoneSubject, Subject.mk.injEq, Nat.add_right_cancel_iff, true_and] at same
    exact other (by rw [Fin.ext same])
  · simp [BondSource.subject, glueSubject]

theorem State.takeReports_zoneStays {n : ZoneId} {rs : List (Owner × Bool)} (faults : ∀ r ∈ rs, r.2 = true) {s : State}
    (h : s.ZoneFaulted n) : s.ZoneStays n (s.takeReports rs) := by
  refine State.takeReports_chain (R := fun t u => t.ZoneFaulted n → t.ZoneStays n u) (fun _ h => ⟨h, rfl, fun _ => id⟩)
    (fun h h' x => ?_) (fun t r hr x => ?_) s h
  · have first := h x
    have second := h' first.faulted
    exact ⟨second.faulted, by rw [second.zone, first.zone], fun d noticed => second.noticed d (first.noticed d noticed)⟩
  · obtain ⟨output, state⟩ := x
    by_cases own : r.1.source = .zone n
    · have rests : ¬(t.zone n).sound := fun sound => sound.2 (state sound.1)
      have told : { t.zone n with output := true } = t.zone n := by rw [← output]
      rw [t.ownerReport_zone own, faults r hr, State.zoneReport_rests fun _ => rests]
      have zone : (t.zoneTold n true).zone n = t.zone n := (t.zoneTold_self n true).trans told
      exact ⟨by rw [State.ZoneFaulted, zone]; exact ⟨output, state⟩, by rw [zone], fun _ => id⟩
    · have zone := (t.ownerReport_reports r.1 r.2).zones n own
      refine ⟨by rw [State.ZoneFaulted, zone]; exact ⟨output, state⟩, zone, fun d noticed => ?_⟩
      obtain ⟨e, mem, kind, subject, detail⟩ := noticed
      have apart : e.subject ≠ r.1.source.subject := by
        rw [subject]
        exact BondSource.subject_zone_ne own
      exact ⟨e, (t.ownerReport_tells r.1 r.2).notices e mem (.inl kind) apart, kind, subject, detail⟩

theorem Zone.told_fault (z : Zone) (start : Nat) (o : Bool) (c : Option Nat) :
    { z with output := o, claim := c }.told start true = { z.told start true with claim := c } := by
  unfold Zone.told
  by_cases rests : z.enabled = false ∨ z.state = .fault
  · simp [rests]
  · simp [rests]

/-- A zone that takes a fault report (R85, R87 to R89). -/
theorem State.sendReports_zoneToldFault {old new : State} {n : ZoneId} (reported : FaultReported old new (.zone n)) :
    new.zoneToldFault (new.sendReports old) n := by
  obtain ⟨r, mem, isFault, source⟩ := fault_reaches_zone.mpr reported
  have sent : r ∈ reportsOf old new true := mem_reportsOf.mpr ⟨mem_changeReports_iff.mp mem, isFault⟩
  obtain ⟨pre, w, post, split, own, before, behind⟩ := changeReports_split sent source
  have cleared := (State.takeReports_zoneCleared before new).zone
  have start := (new.takeReports_sends pre).spanStart n
  rw [State.sendReports_eq, split, State.takeReports_append, State.takeReports_cons]
  dsimp only
  rw [State.ownerReport_zone _ own]
  have zone := (new.takeReports pre).zoneReport_zone n true
  rw [State.spanStart_zone, start, cleared, Zone.told_fault] at zone
  have stays := State.takeReports_zoneStays behind ((new.takeReports pre).zoneReport_faulted n)
  have final := stays.zone
  rw [zone] at final
  refine ⟨fun rests => ?_, fun enabled sound => ⟨?_, ?_⟩⟩
  · refine final.trans ?_
    unfold Zone.told
    rw [if_neg (by decide), if_pos rests]
  · refine final.trans ?_
    unfold Zone.told
    rw [if_neg (by decide), if_neg (by simp [enabled, sound])]
    rfl
  · have sound' : ((new.takeReports pre).zone n).sound := by
      rw [cleared]
      exact ⟨enabled, sound⟩
    have enters := State.zoneReport_enters sound'
    have noticed := ((new.takeReports pre).zoneTold n true).zoneDown_noticed n
    have sensor : ((new.takeReports pre).zone n).sensor = (new.zone n).sensor := by rw [cleared]
    rw [State.zoneTold_self, ← enters] at noticed
    dsimp only at noticed
    rw [sensor] at noticed
    have fresh := State.evalBond_fresh (((new.takeReports pre).zoneTold n true).zoneDown n)
    rw [← enters] at fresh
    have kept := State.takeReports_fresh fresh post
    exact ⟨stays.noticed _ noticed, kept.entry, kept.claims⟩

/-- A zone that takes clear reports alone. -/
theorem State.sendReports_zoneToldClear {old new : State} {n : ZoneId} (sound : ¬FaultReported old new (.zone n))
    (reported : FaultReported new old (.zone n)) :
    (new.sendReports old).zone n = { new.zone n with output := false, claim := ((new.sendReports old).zone n).claim } := by
  have clear (r : Owner × Bool) (mem : r ∈ changeReports old new) (source : r.1.source = .zone n) : r.2 = false :=
    Bool.eq_false_iff.mpr fun isFault => sound (fault_reaches_zone.mp ⟨r, mem, isFault, source⟩)
  obtain ⟨pre, post, split⟩ := List.append_of_mem (clear_sent_iff.mpr reported)
  have zone := (State.takeReports_zoneCleared clear new).zone
  have output : ((new.takeReports (changeReports old new)).zone n).output = false := by
    rw [split, State.takeReports_append, State.takeReports_cons]
    exact (State.takeReports_zoneCleared (fun q mem => clear q (by rw [split]; simp [mem])) _).output ((State.zoneReport_spec _ n false).2.1)
  rw [output] at zone
  exact zone

theorem State.sendReports_zoneSame {old new : State} {n : ZoneId} (sound : ¬FaultReported old new (.zone n))
    (unreported : ¬FaultReported new old (.zone n)) :
    (new.sendReports old).zone n = { new.zone n with claim := ((new.sendReports old).zone n).claim } := by
  refine State.takeReports_chain (R := fun t u => u.zone n = { t.zone n with claim := (u.zone n).claim }) (fun _ => rfl)
    (fun h h' => by rw [h', h]) (fun t r mem => (t.ownerReport_reports r.1 r.2).zones n fun source => ?_) new
  obtain ⟨w, b⟩ := r
  obtain rfl := Owner.source_zone.mp source
  cases b
  · exact unreported (clear_sent_iff.mp mem)
  · exact sound (fault_sent_iff.mp mem)

/-! ### A glue station along the reports -/

/-- A told station stays as it is, and its notice stays pending. -/
structure State.GlueStays (k : GlueId) (s t : State) : Prop where
  glue : t.glue k = s.glue k
  noticed : ∀ d, s.noticedWith .glueFault .glueStation (k.val + 1) d → t.noticedWith .glueFault .glueStation (k.val + 1) d

theorem BondSource.subject_glue_ne {w : Owner} {k : GlueId} (other : w.source ≠ .glue k) :
    (⟨.glueStation, k.val + 1⟩ : Subject) ≠ w.source.subject := by
  rcases source : w.source with n | j
  · simp [BondSource.subject, zoneSubject]
  · rw [source] at other
    intro same
    simp only [BondSource.subject, glueSubject, Subject.mk.injEq, Nat.add_right_cancel_iff, true_and] at same
    exact other (by rw [Fin.ext same])

theorem State.takeReports_glueStays {k : GlueId} {rs : List (Owner × Bool)} (faults : ∀ r ∈ rs, r.2 = true) {s : State}
    (h : (s.glue k).state = .off ∨ s.GlueFaulted k) : s.GlueStays k (s.takeReports rs) := by
  refine State.takeReports_chain (R := fun t u => (t.glue k).state = .off ∨ t.GlueFaulted k → t.GlueStays k u)
    (fun _ _ => ⟨rfl, fun _ => id⟩) (fun h h' x => ?_) (fun t r hr x => ?_) s h
  · have first := h x
    have second := h' (by rw [State.GlueFaulted, first.glue]; exact x)
    exact ⟨second.glue.trans first.glue, fun d noticed => second.noticed d (first.noticed d noticed)⟩
  · by_cases own : r.1.source = .glue k
    · rw [t.ownerReport_glue own, faults r hr]
      rcases x with off | ⟨output, faulted⟩
      · rw [t.glueReport_off off]
        exact ⟨rfl, fun _ => id⟩
      · rw [t.glueReport_joins faulted]
        exact ⟨(t.onGlue_self k _).trans (by rw [← output]), fun _ => id⟩
    · refine ⟨(t.ownerReport_reports r.1 r.2).glues k own, fun d noticed => ?_⟩
      obtain ⟨e, mem, kind, subject, detail⟩ := noticed
      have apart : e.subject ≠ r.1.source.subject := by
        rw [subject]
        exact BondSource.subject_glue_ne own
      exact ⟨e, (t.ownerReport_tells r.1 r.2).notices e mem (.inr kind) apart, kind, subject, detail⟩

theorem GlueStation.told_fault (g : GlueStation) (point : Nat) (o : Bool) (on : g.state ≠ .off) :
    { g with output := o }.told point true = g.told point true := by
  unfold GlueStation.told
  by_cases faulted : g.state = .fault
  · simp [faulted]
  · simp [on, faulted]

/-- A station that takes a fault report of its pair (R94, R95). -/
theorem State.sendReports_glueToldFault {old new : State} {k : GlueId} (reported : GlueFaultReported old new k) :
    new.glueToldFault (new.sendReports old) k := by
  unfold State.glueToldFault
  dsimp only
  by_cases off : (new.glue k).state = .off
  · refine ⟨fun _ => (State.takeReports_glueOff _ off).1, fun faulted => ?_, fun on => absurd off on⟩
    rw [off] at faulted
    cases faulted
  obtain ⟨r, mem, isFault, source⟩ := fault_reaches_glue.mpr reported
  have sent : r ∈ reportsOf old new true := mem_reportsOf.mpr ⟨mem_changeReports_iff.mp mem, isFault⟩
  obtain ⟨pre, w, post, split, own, before, behind⟩ := changeReports_split sent source
  have cleared := (State.takeReports_glueCleared before new).glue
  have on : ((new.takeReports pre).glue k).state ≠ .off := by
    rw [cleared]
    exact off
  obtain ⟨-, glue, -⟩ := (new.takeReports pre).glueReport_spec k true
  rw [(new.takeReports_sends pre).gluePoint, cleared, GlueStation.told_fault _ _ _ off] at glue
  have stays := State.takeReports_glueStays behind (.inr ((new.takeReports pre).glueReport_faulted on))
  rw [State.sendReports_eq, split, State.takeReports_append, State.takeReports_cons]
  dsimp only
  rw [State.ownerReport_glue _ own]
  refine ⟨fun is => absurd is off, fun faulted => ?_, fun _ sound => ⟨?_, ?_⟩⟩
  · refine (stays.glue.trans glue).trans ?_
    unfold GlueStation.told
    rw [if_neg off, if_neg (by decide), if_pos faulted]
  · refine (stays.glue.trans glue).trans ?_
    unfold GlueStation.told
    rw [if_neg off, if_neg (by decide), if_neg sound]
    rfl
  · have sound' : ((new.takeReports pre).glue k).sound := by
      rw [cleared]
      exact ⟨off, sound⟩
    refine stays.noticed _ ?_
    rw [State.glueReport_enters sound']
    exact State.raise_noticedWith ..

/-- A station that takes clear reports alone. -/
theorem State.sendReports_glueToldClear {old new : State} {k : GlueId} (sound : ¬GlueFaultReported old new k)
    (reported : GlueFaultReported new old k) :
    (new.sendReports old).glue k = if (new.glue k).state = .off then new.glue k else { new.glue k with output := false } := by
  split
  · next off => exact (State.takeReports_glueOff _ off).1
  · next on =>
    have clear (r : Owner × Bool) (mem : r ∈ changeReports old new) (source : r.1.source = .glue k) : r.2 = false :=
      Bool.eq_false_iff.mpr fun isFault => sound (fault_reaches_glue.mp ⟨r, mem, isFault, source⟩)
    obtain ⟨w, sent, own⟩ : ∃ w, (w, false) ∈ changeReports old new ∧ w.source = .glue k :=
      reported.elim (fun h => ⟨_, clear_sent_iff.mpr h, rfl⟩) fun h => ⟨_, clear_sent_iff.mpr h, rfl⟩
    obtain ⟨pre, post, split⟩ := List.append_of_mem sent
    have glue := (State.takeReports_glueCleared clear new).glue
    have output : ((new.takeReports (changeReports old new)).glue k).output = false := by
      rw [split, State.takeReports_append, State.takeReports_cons]
      refine (State.takeReports_glueCleared (fun q mem => clear q (by rw [split]; simp [mem])) _).output ?_
      have first := (State.takeReports_glueCleared (fun q mem => clear q (by rw [split]; simp [mem])) new (k := k) (rs := pre)).glue
      have stillOn : ((new.takeReports pre).glue k).state ≠ .off := by
        rw [first]
        exact on
      rw [State.ownerReport_glue _ own, State.glueReport_clear _ stillOn, State.onGlue_self]
    rw [output] at glue
    exact glue

theorem State.sendReports_glueSame {old new : State} {k : GlueId} (sound : ¬GlueFaultReported old new k)
    (unreported : ¬GlueFaultReported new old k) : (new.sendReports old).glue k = new.glue k := by
  refine State.takeReports_chain (R := fun t u => u.glue k = t.glue k) (fun _ => rfl) (fun h h' => h'.trans h)
    (fun t r mem => (t.ownerReport_reports r.1 r.2).glues k fun source => ?_) new
  obtain ⟨w, b⟩ := r
  cases b
  · rcases Owner.source_glue.mp source with rfl | rfl
    · exact unreported (.inl (clear_sent_iff.mp mem))
    · exact unreported (.inr (clear_sent_iff.mp mem))
  · rcases Owner.source_glue.mp source with rfl | rfl
    · exact sound (.inl (fault_sent_iff.mp mem))
    · exact sound (.inr (fault_sent_iff.mp mem))

/-! ### The owners told -/

theorem State.sendReports_opens {old new : State} {x : BondSource} (opens : OpensSpan old new x) :
    (new.sendReports old).spanOpened x (new.spanStart x) := by
  cases x with
  | zone n =>
    obtain ⟨reported, enabled, sound, none_⟩ := opens
    obtain ⟨o, sent⟩ := mem_changeReports_iff.mp (fault_sent_iff.mpr reported)
    exact (State.sendReports_zoneFault sent).2 enabled sound none_
  | glue k =>
    obtain ⟨reported, on, sound, none_⟩ := opens
    obtain ⟨⟨w, b⟩, mem, isFault, source⟩ := fault_reaches_glue.mpr reported
    dsimp only at isFault source
    subst isFault
    obtain ⟨o, sent⟩ := mem_changeReports_iff.mp mem
    exact (State.sendReports_glueFault sent source on).2 sound none_

theorem State.sendReports_tells (old new : State) :
    (new.sendReports old).bnd = { new.bnd with zones := (new.sendReports old).bnd.zones, glues := (new.sendReports old).bnd.glues } ∧
      (new.sendReports old).lsv =
        { new.lsv with ceiling := { new.lsv.ceiling with bond := (new.sendReports old).lsv.ceiling.bond } } := by
  refine State.takeReports_chain
    (R := fun t u => u.bnd = { t.bnd with zones := u.bnd.zones, glues := u.bnd.glues } ∧
      u.lsv = { t.lsv with ceiling := { t.lsv.ceiling with bond := u.lsv.ceiling.bond } })
    (fun _ => ⟨rfl, rfl⟩) (fun h h' => ⟨?_, ?_⟩) (fun t r _ => ⟨(t.ownerReport_tells r.1 r.2).bnd, (t.ownerReport_tells r.1 r.2).lsv⟩) new
  · rw [h'.1, h.1]
  · rw [h'.2, h.2]

/-- The reports of a change tell the owners of it. -/
theorem ownersTold (old new : State) : OwnersTold old new (new.sendReports old) where
  zoneFault _ := State.sendReports_zoneToldFault
  zoneClear _ := State.sendReports_zoneToldClear
  zoneSame _ := State.sendReports_zoneSame
  claims rests := State.takeReports_rests fun n sent => Zone.not_sound.mpr (rests n (fault_sent_iff.mp sent))
  glueFault _ := State.sendReports_glueToldFault
  glueClear _ := State.sendReports_glueToldClear
  glueSame _ := State.sendReports_glueSame
  spans _ := State.sendReports_opens
  oneSpan x opens alone := by
    obtain ⟨sent, ready⟩ := opensSpan_iff.mp opens
    exact State.takeReports_map_opens ready sent fun r mem isFault ready' => alone _ (opensSpan_iff.mpr ⟨⟨r, mem, isFault, rfl⟩, ready'⟩)
  noSpan none_ := State.takeReports_map_rests fun r mem isFault ready => none_ _ (opensSpan_iff.mpr ⟨⟨r, mem, isFault, rfl⟩, ready⟩)
  marks m mem := (State.takeReports_marks mem).imp_right fun ⟨x, sent, ready, e⟩ => ⟨x, opensSpan_iff.mpr ⟨sent, ready⟩, e⟩
  kept := (new.takeReports_sends _).marks
  bridges := (new.takeReports_sends _).bridges
  bnd := (State.sendReports_tells old new).1
  lsv := (State.sendReports_tells old new).2
  frame := (new.takeReports_sends _).within.toTouches.keepsBut

end Sys2Proof.Machine
end

section
/-! PROOF. SetZone, SetZoneEnable and SetBondCommon (R82, R83, R88, R89, R103). -/

namespace Sys2Proof.Machine

/-! ### A zone switched off (R83, R88, R89) -/

theorem State.closeSpan_congr {s t : State} (map : t.map = s.map) (x : BondSource) (e : Nat) : (t.closeSpan x e).map = (s.closeSpan x e).map := by
  have lost : t.lostSpan x = s.lostSpan x := by
    unfold State.lostSpan
    rw [map]
  unfold State.closeSpan
  rw [map, lost]
  split
  · simp only [State.setMarks, map]
  · split
    · exact State.setLostSpan_congr map x false
    · exact map

/-- A zone that leaves LOW and FAULT has no span, and the map has its end. -/
theorem State.closeZoneSpan_spec (s : State) (n : ZoneId) :
    (s.closeZoneSpan n).zone n = { s.zone n with span := none } ∧ (∀ m : ZoneId, m ≠ n → (s.closeZoneSpan n).zone m = s.zone m) ∧
      (s.closeZoneSpan n).map = (if (s.zone n).span = none then s.map else (s.closeSpan (.zone n) (s.linePos - s.zoneIn n)).map) ∧
      (s.closeZoneSpan n).bnd.glues = s.bnd.glues := by
  have bnd (e : Nat) : (s.closeSpan (.zone n) e).bnd = s.bnd := (s.closeSpan_within ..).same .bnd (by simp)
  have zone (e : Nat) (m : ZoneId) : (s.closeSpan (.zone n) e).zone m = s.zone m := State.zone_of_zones (congrArg (·.zones) (bnd e)) m
  unfold State.closeZoneSpan
  rcases span : (s.zone n).span with _ | p
  · rw [if_neg (by simp)]
    refine ⟨?_, fun _ _ => rfl, rfl, rfl⟩
    rw [← span]
  · rw [if_pos Option.isSome_some, State.onZone_self, zone]
    refine ⟨rfl, fun m other => ?_, (if_neg (by simp)).symm, congrArg (·.glues) (bnd _)⟩
    rw [State.onZone_ne _ n _ other, zone]

theorem State.enterZone_off_of {s : State} {n : ZoneId} (on : (s.zone n).state ≠ .off) :
    s.enterZone n .off = ((s.onZone n fun z => { z with state := .off, demand := 0 }).closeZoneSpan n).evalBond := by
  unfold State.enterZone
  rw [if_neg on]
  rfl

/-- The zone OFF and disabled, before its span is closed. -/
def State.zoneOff (s : State) (n : ZoneId) : State := s.onZone n fun z => { z with enabled := false, state := .off, demand := 0 }

theorem State.zoneOff_zone (s : State) (n : ZoneId) :
    (s.zoneOff n).zone n = { s.zone n with enabled := false, state := .off, demand := 0 } := s.onZone_self n _

theorem State.zoneOff_zoneIn (s : State) (n : ZoneId) : (s.zoneOff n).zoneIn n = s.zoneIn n := by
  unfold State.zoneIn
  rw [s.zoneOff_zone]

theorem State.putEnable_off {s : State} {n : ZoneId} (enabled : (s.zone n).enabled = true) (on : (s.zone n).state ≠ .off) :
    s.putEnable n false = ((s.zoneOff n).closeZoneSpan n).evalBond := by
  have first : ((s.onZone n fun z => { z with enabled := false }).zone n).state ≠ .off := by
    rw [s.onZone_self]
    exact on
  have both : (s.onZone n fun z => { z with enabled := false }).onZone n (fun z => { z with state := .off, demand := 0 }) = s.zoneOff n := by
    simp only [State.zoneOff, State.onZone, modifyAt_modifyAt]
  unfold State.putEnable
  rw [if_neg (by simp [enabled]), if_neg (by simp), State.enterZone_off_of first, both]

theorem State.putEnable_same {s : State} {n : ZoneId} {b : Bool} (same : (s.zone n).enabled = b) : s.putEnable n b = s := if_pos same.symm

theorem State.putEnable_on {s : State} {n : ZoneId} (disabled : (s.zone n).enabled = false) :
    s.putEnable n true = s.onZone n fun z => { z with enabled := true } := by
  unfold State.putEnable
  rw [if_neg (by simp [disabled]), if_pos rfl]

theorem State.putEnable_off_rests {s : State} {n : ZoneId} (enabled : (s.zone n).enabled = true) (off : (s.zone n).state = .off) :
    s.putEnable n false = s.onZone n fun z => { z with enabled := false } := by
  unfold State.putEnable
  rw [if_neg (by simp [enabled]), if_neg (by simp)]
  refine if_pos ?_
  rw [s.onZone_self]
  exact off

/-- What disabling an enabled zone that is not OFF does. -/
theorem State.putEnable_off_spec {s : State} {n : ZoneId} (enabled : (s.zone n).enabled = true) (on : (s.zone n).state ≠ .off) :
    let u := s.putEnable n false
    u.zone n = { s.zone n with enabled := false, state := .off, demand := 0, claim := none, span := none } ∧
      (u.map = if (s.zone n).span = none then s.map else (s.closeSpan (.zone n) (s.linePos - s.zoneIn n)).map) ∧
      (∀ m : ZoneId, m ≠ n → u.zone m = { s.zone m with claim := (u.zone m).claim }) ∧ u.bnd.glues = s.bnd.glues ∧ u.bondEntryOk ∧
      (∀ m : ZoneId, (u.zone m).claim = u.bondClaim m) ∧
      u.lsv = { s.lsv with ceiling := { s.lsv.ceiling with bond := u.lsv.ceiling.bond } } ∧ s.keepsBut u [.map, .bnd, .lsv] := by
  intro u
  have done : u = ((s.zoneOff n).closeZoneSpan n).evalBond := State.putEnable_off enabled on
  obtain ⟨zone, others, map, glues⟩ := (s.zoneOff n).closeZoneSpan_spec n
  have closed := (s.zoneOff n).closeZoneSpan_within n
  have off := s.zoneOff_zone n
  have bnd := ((s.zoneOff n).closeZoneSpan n).evalBond_bnd
  obtain ⟨entry, claims⟩ := ((s.zoneOff n).closeZoneSpan n).evalBond_fresh
  rw [off] at zone map
  have silent : ((s.zoneOff n).closeZoneSpan n).bondClaim n = none := by
    unfold State.bondClaim Zone.claims
    rw [zone]
    rfl
  rw [done]
  refine ⟨?_, ?_, fun m other => ?_, ?_, entry, claims, ?_, ?_⟩
  · rw [State.evalBond_zone, State.evalBond_claim, silent, zone]
  · rw [State.evalBond_map, map, s.zoneOff_zoneIn]
    exact if_congr Iff.rfl rfl (State.closeSpan_congr (s := s) (t := s.zoneOff n) rfl _ _)
  · rw [State.evalBond_zone, others m other, State.zoneOff, s.onZone_ne n _ other]
  · rw [bnd]
    exact glues
  · have lsv : ((s.zoneOff n).closeZoneSpan n).lsv = s.lsv := closed.same .lsv (by simp)
    rw [State.evalBond_lsv, lsv]
  · have first : s.Within [.map, .bnd, .lsv] (s.zoneOff n) := (s.bnd_within _).mono (by simp)
    exact ((first.step closed (by simp)).trans (State.evalBond_reports (.glue 0) _).within).toTouches.keepsBut

/-! ### The checks (R82, R83) -/

theorem zone_fits_iff {a : ZoneArgs} :
    firstFailing (zoneChecks a) = none ↔
      (a.dIn ≤ 119999 ∧ a.dOut ≤ 119999 ∧ a.dIn < a.dOut ∧ (1 ≤ a.channel ∧ a.channel ≤ 12) ∧ (10 ≤ a.band ∧ a.band ≤ 300) ∧ a.gain ≤ 20) ∧
        1 ≤ a.output ∧ a.output ≤ 16 := by
  simp only [zoneChecks, firstFailing_eq_none, List.forall_mem_cons, within_iff, decide_eq_true_eq, Bool.and_eq_true, List.not_mem_nil,
    false_imp_iff, implies_true, and_true]
  tauto

section SetZone

variable {s : State} {n : ZoneId} {a : ZoneArgs} (line : s.lsv.line = .setup) (zone : a.zone = n.val + 1)

include line zone

theorem State.setZone_enabled (enabled : (s.zone n).enabled = true) :
    s.setZone a = s.refuse (stateReply (zoneSubject n) (s.zone n).state.ctorIdx) := by
  unfold State.setZone
  rw [if_neg (by simp [State.lineIn, line]), zone, idOf_succ]
  exact if_pos enabled

theorem State.setZone_range (disabled : (s.zone n).enabled = false) {f : Nat} (failing : firstFailing (zoneChecks a) = some f) :
    s.setZone a = s.refuse (rangeReply f) := by
  unfold State.setZone
  rw [if_neg (by simp [State.lineIn, line]), zone, idOf_succ]
  refine (if_neg (by simp [disabled])).trans ?_
  rw [failing]

theorem State.setZone_taken (disabled : (s.zone n).enabled = false) (passed : firstFailing (zoneChecks a) = none) {o : OutputId}
    (output : a.output = o.val + 1) :
    s.setZone a = ((s.onZone n fun z => { z with settings := some (zoneSettingsOf a o) }).sendReports s, okReply []) := by
  unfold State.setZone
  rw [if_neg (by simp [State.lineIn, line]), zone, idOf_succ]
  refine (if_neg (by simp [disabled])).trans ?_
  rw [passed, output, idOf_succ]

end SetZone

/-- The line stands where the zones' switches and the common settings are taken. -/
def State.settingsTaken (s : State) : Prop := s.lsv.line = .setup ∨ s.lsv.line = .ready ∨ s.lsv.line = .park

theorem State.not_settingsTaken_iff {s : State} : (!s.lineIn [.setup, .ready, .park]) = true ↔ ¬s.settingsTaken := by
  rw [State.not_lineIn_iff]
  simp [State.settingsTaken]

section SetZoneEnable

variable {s : State} (n : ZoneId) (taken : s.settingsTaken)

include taken

theorem State.setZoneEnable_unset {enable : Nat} (on : enable = 1) (unset : (s.zone n).settings = none) :
    s.setZoneEnable (n.val + 1) enable = s.refuse (stateReply (zoneSubject n) (s.zone n).state.ctorIdx) := by
  unfold State.setZoneEnable
  rw [if_neg (mt State.not_settingsTaken_iff.mp (not_not.mpr taken)), idOf_succ]
  exact if_pos ⟨on, by simp [unset]⟩

theorem State.setZoneEnable_range {enable : Nat} (range : 1 < enable) : s.setZoneEnable (n.val + 1) enable = s.refuse (rangeReply 2) := by
  have none_ : flagOf enable = none := (if_neg (by omega)).trans (if_neg (by omega))
  unfold State.setZoneEnable
  rw [if_neg (mt State.not_settingsTaken_iff.mp (not_not.mpr taken)), idOf_succ]
  refine (if_neg fun h => by omega).trans ?_
  rw [none_]

/-- A switch that is taken. -/
theorem State.setZoneEnable_taken {b : Bool} (set : b = true → (s.zone n).settings ≠ none) :
    s.setZoneEnable (n.val + 1) b.toNat =
      (s.putEnable n b, okReply (natBytes 1 ((s.putEnable n b).zone n).state.ctorIdx ++ flagBytes ((s.putEnable n b).zone n).enabled)) := by
  have flag : flagOf b.toNat = some b := by cases b <;> rfl
  have passed : ¬(b.toNat = 1 ∧ (s.zone n).settings.isNone = true) := by
    rintro ⟨on, unset⟩
    cases b
    · cases on
    · exact set rfl (Option.isNone_iff_eq_none.mp unset)
  unfold State.setZoneEnable
  rw [if_neg (mt State.not_settingsTaken_iff.mp (not_not.mpr taken)), idOf_succ]
  refine (if_neg passed).trans ?_
  rw [flag]

/-- The switch of a zone, executed. -/
theorem exec_setZoneEnable {tag : Nat} (serves : s.serves) {b : Bool} (set : b = true → (s.zone n).settings ≠ none) :
    ∃ p, exec (.setZoneEnable tag (n.val + 1) b.toNat) s = .next ((s.putEnable n b).replied tag 0x53 p) ∧ p.head? = some 0#8 := by
  refine ⟨okReply (natBytes 1 ((s.putEnable n b).zone n).state.ctorIdx ++ flagBytes ((s.putEnable n b).zone n).enabled), ?_, rfl⟩
  change hostCommand tag 0x53 (fun t => t.setZoneEnable (n.val + 1) b.toNat) s = _
  rw [hostCommand_serves _ _ _ serves, State.setZoneEnable_taken n taken set]

end SetZoneEnable

theorem bondCommon_fits_iff {heatLead glueLead standby : Nat} :
    firstFailing [(decide (heatLead ≤ 50), 1), (decide (glueLead ≤ 20), 2), (within 600 2000 standby, 3)] = none ↔
      heatLead ≤ 50 ∧ glueLead ≤ 20 ∧ 600 ≤ standby ∧ standby ≤ 2000 := by
  simp only [firstFailing_eq_none, List.forall_mem_cons, within_iff, decide_eq_true_eq, List.not_mem_nil, false_imp_iff, implies_true, and_true]

/-- Settles O30: a zone's settings with the owners told, its switch case by case, and the common settings. -/
theorem bondSettings : Obligations.BondSettings := by
  unfold Obligations.BondSettings
  refine fun s tag serves => ⟨fun n a zone => ?setZone, fun n enable => ?enable, fun heatLead glueLead standby => ?common⟩
  case setZone =>
    refine ⟨fun line => ?_, fun line enabled => ?_, fun line disabled out => ?_, fun line disabled fits o output => ?_⟩
    · exact State.answers_of_refuse serves rfl (if_pos (State.not_lineIn_iff.mpr (by simpa using line))) s.lineReply_head
    · exact State.answers_of_refuse serves rfl (State.setZone_enabled line zone enabled) (stateReply_head ..)
    · obtain ⟨f, failing⟩ : ∃ f, firstFailing (zoneChecks a) = some f := by
        refine Option.ne_none_iff_exists'.mp fun passed => ?_
        obtain ⟨fits, low, high⟩ := zone_fits_iff.mp passed
        exact out.elim (fun h => h fits) fun h => h.elim (fun h => by omega) fun h => by omega
      exact State.answers_of_refuse serves rfl (State.setZone_range line zone disabled failing) (rangeReply_head f)
    · have in_ : 1 ≤ a.output ∧ a.output ≤ 16 := by omega
      have done := State.setZone_taken line zone disabled (zone_fits_iff.mpr ⟨fits, in_⟩) output
      have told := ownersTold s (s.onZone n fun z => { z with settings := some (zoneSettingsOf a o) })
      have sends := (s.onZone n fun z => { z with settings := some (zoneSettingsOf a o) }).takeReports_sends
        (changeReports s (s.onZone n fun z => { z with settings := some (zoneSettingsOf a o) }))
      have own := s.onZone_self n fun z => { z with settings := some (zoneSettingsOf a o) }
      refine ⟨_, ?_, ⟨?_, told⟩, ?_, fun m other => ?_, congrArg (·.grades) told.bnd, ?_⟩
      · change hostCommand tag 0x52 (fun t => t.setZone a) s = _
        rw [hostCommand_serves _ _ _ serves, done]
        rfl
      · refine (sends.zones n).1.trans ?_
        rw [own]
        rfl
      · refine (sends.zones n).2.trans ?_
        rw [own]
        exact disabled
      · refine (sends.zones m).1.trans ?_
        rw [s.onZone_ne n _ other]
      · have first : s.Within [.map, .bnd, .lsv] (s.onZone n fun z => { z with settings := some (zoneSettingsOf a o) }) :=
          (s.bnd_within _).mono (by simp)
        exact first.toTouches.keepsBut.trans told.frame
  case enable =>
    intro c z
    refine ⟨fun line => ?_, fun taken on unset => ?_, fun taken range => ?_, fun taken on set disabled => ?_, fun taken off enabled rests => ?_,
      fun taken off enabled on => ?_, fun taken same => ?_⟩
    · exact State.answers_of_refuse serves rfl (if_pos (State.not_settingsTaken_iff.mpr line)) s.lineReply_head
    · exact State.answers_of_refuse serves rfl (State.setZoneEnable_unset n taken on unset) (stateReply_head ..)
    · exact State.answers_of_refuse serves rfl (State.setZoneEnable_range n taken range) (rangeReply_head 2)
    · obtain ⟨p, done, head⟩ := exec_setZoneEnable n taken (tag := tag) serves (b := true) fun _ => set
      rw [State.putEnable_on disabled] at done
      subst on
      exact ⟨p, done, head⟩
    · obtain ⟨p, done, head⟩ := exec_setZoneEnable n taken (tag := tag) serves (b := false) fun h => nomatch h
      rw [State.putEnable_off_rests enabled rests] at done
      subst off
      exact ⟨p, done, head⟩
    · obtain ⟨p, done, head⟩ := exec_setZoneEnable n taken (tag := tag) serves (b := false) fun h => nomatch h
      subst off
      exact ⟨s.putEnable n false, p, done, head, State.putEnable_off_spec enabled on⟩
    · rcases same with ⟨on, set, enabled⟩ | ⟨off, disabled⟩
      · obtain ⟨p, done, head⟩ := exec_setZoneEnable n taken (tag := tag) serves (b := true) fun _ => set
        rw [State.putEnable_same enabled] at done
        subst on
        exact ⟨p, done, head⟩
      · obtain ⟨p, done, head⟩ := exec_setZoneEnable n taken (tag := tag) serves (b := false) fun h => nomatch h
        rw [State.putEnable_same disabled] at done
        subst off
        exact ⟨p, done, head⟩
  case common =>
    intro c
    refine ⟨fun line => ?_, fun taken out => ?_, fun taken fit => ?_⟩
    · exact State.answers_of_refuse serves rfl (if_pos (State.not_settingsTaken_iff.mpr line)) s.lineReply_head
    · obtain ⟨n, failing⟩ := Option.ne_none_iff_exists'.mp (mt bondCommon_fits_iff.mp out)
      refine State.answers_of_refuse serves rfl (reply := rangeReply n) ?_ (rangeReply_head n)
      refine (if_neg (mt State.not_settingsTaken_iff.mp (not_not.mpr taken))).trans ?_
      rw [failing]
    · change hostCommand tag 0x54 (fun t => t.setBondCommon heatLead glueLead standby) s = _
      rw [hostCommand_serves _ _ _ serves]
      unfold State.setBondCommon
      rw [if_neg (mt State.not_settingsTaken_iff.mp (not_not.mpr taken)), bondCommon_fits_iff.mpr fit]
      rfl

end Sys2Proof.Machine
end

section
/-! PROOF. What a piece of the part's work keeps of the web map, the order book and the law of R26 (R19, R20, R26, R29, R39, R41, R45): the
relation `State.Steady`, and the requests and updates that are made in many places. -/

namespace Sys2Proof.Machine

/- One theorem at a time: with a thread for each, the stacks of the threads that wait would take the memory. -/
set_option Elab.async false

/-! ### The order book seen through tags, states and ends -/

/-- What the laws of the book read of an order. -/
def Order.standing (o : Order) : Nat × OrderPhase := (o.tag, o.phase)

theorem standing_tags (os : List Order) : os.map (·.tag) = (os.map Order.standing).map (·.1) := by
  rw [List.map_map]
  rfl

theorem standing_count (os : List Order) (p : OrderPhase) :
    (os.filter fun o => o.phase = p).length = ((os.map Order.standing).filter fun x => x.2 = p).length := by
  rw [List.filter_map, List.length_map]
  rfl

theorem State.runningOrder_isSome_iff {s : State} : s.runningOrder ≠ none ↔ ∃ o ∈ s.obk.orders, o.phase = .running := by
  unfold State.runningOrder State.orderIn
  rw [ne_eq, List.find?_eq_none]
  push Not
  simp only [decide_eq_true_eq]

theorem standing_runs {os : List Order} : (∃ o ∈ os, o.phase = .running) ↔ ∃ x ∈ os.map Order.standing, x.2 = .running := by
  simp [Order.standing]

/-- The unlocked ORDER_CHANGE marks of the map. -/
def State.unlockedMarks (s : State) : List Mark := s.map.marks.filter (·.isUnlockedChange)

theorem State.mem_unlockedMarks {s : State} {m : Mark} : m ∈ s.unlockedMarks ↔ m ∈ s.map.marks ∧ m.isUnlockedChange = true :=
  List.mem_filter

/-- The laws of the book read the tags and states of the orders, the status of the end mark and the unlocked marks. -/
theorem State.BookOk.congr {s t : State} (h : s.BookOk) (orders : t.obk.orders.map Order.standing = s.obk.orders.map Order.standing)
    (status : t.obk.endStatus = s.obk.endStatus) (changes : t.unlockedMarks.length ≤ s.unlockedMarks.length) : t.BookOk where
  capacity := by
    have same := congrArg List.length orders
    simp only [List.length_map] at same
    exact same ▸ h.capacity
  tags := by
    rw [standing_tags, orders, ← standing_tags]
    exact h.tags
  running := by
    rw [standing_count, orders, ← standing_count]
    exact h.running
  staged := by
    rw [standing_count, orders, ← standing_count]
    exact h.staged
  unlocked := changes.trans h.unlocked
  owned m mem is := by
    have some_ : 0 < s.unlockedMarks.length := (List.length_pos_of_mem (State.mem_unlockedMarks.mpr ⟨mem, is⟩)).trans_le changes
    obtain ⟨x, here⟩ := List.exists_mem_of_length_pos some_
    obtain ⟨there, unlocked⟩ := State.mem_unlockedMarks.mp here
    obtain ⟨stands, runs⟩ := h.owned x there unlocked
    refine ⟨status.trans stands, ?_⟩
    rw [State.runningOrder_isSome_iff, standing_runs] at runs ⊢
    rwa [orders]

/-- What the settings' ranges and Commit give the law of R26 (R14, R17, R46, R82). -/
structure State.Distances (s : State) : Prop where
  step : 0 < s.obk.deferStep
  slit : s.dSlit ≤ s.dLast
  zones : ∀ n : ZoneId, s.zoneIn n < s.dLast

/-- The end of the running order, while its mark is placed and unlocked, lies ahead of R26's line. -/
def State.EndsAhead (s : State) : Prop :=
  s.obk.endStatus = .unlocked → ∀ o ∈ s.obk.orders, o.phase = .running → s.linePos < o.endPos + s.zc + s.dLast

/-! ### Steady work -/

/-- What a piece of work leaves of the positions and the settings, and the laws of the map and the bridge lists that it keeps. -/
structure State.Settled (s t : State) : Prop where
  counters : t.lcu.counters = s.lcu.counters
  geometry : t.lcu.geometry = s.lcu.geometry
  zc : t.zc = s.zc
  settings : ∀ n, (t.zone n).settings = (s.zone n).settings
  deferStep : t.obk.deferStep = s.obk.deferStep
  map : s.MapOk → t.MapOk
  entries : s.EntriesAhead → t.EntriesAhead

/-- Work that keeps the laws of the book too. -/
structure State.Regular (s t : State) : Prop extends State.Settled s t where
  book : s.BookOk → t.BookOk

/-- Regular work that keeps the law of R26 while the end of the running order lies ahead, and lets it lie ahead. -/
structure State.Orderly (s t : State) : Prop extends State.Regular s t where
  ends : s.BookOk → s.Distances → s.EndsAhead → t.EndsAhead
  trimmed : s.BookOk → s.Distances → s.EndsAhead → s.MarksAhead → t.MarksAhead

/-- Orderly work that keeps the law of R26 wherever the end of the running order lies. -/
structure State.Steady (s t : State) : Prop extends State.Orderly s t where
  marks : s.BookOk → s.Distances → s.MarksAhead → t.MarksAhead

section Position

variable {s t : State} (counters : t.lcu.counters = s.lcu.counters) (geometry : t.lcu.geometry = s.lcu.geometry)

include counters in
theorem State.linePos_of : t.linePos = s.linePos := by
  unfold State.linePos State.counter
  rw [counters]

include geometry in
theorem State.dLast_of : t.dLast = s.dLast := by
  unfold State.dLast
  rw [geometry]

end Position

theorem State.zc_of {s t : State} (dec : t.dec = s.dec) : t.zc = s.zc := by
  unfold State.zc
  rw [dec]

theorem State.settings_of {s t : State} (bnd : t.bnd = s.bnd) (n : ZoneId) : (t.zone n).settings = (s.zone n).settings := by
  unfold State.zone
  rw [bnd]

theorem State.zoneIn_of {s t : State} {n : ZoneId} (settings : (t.zone n).settings = (s.zone n).settings) : t.zoneIn n = s.zoneIn n := by
  unfold State.zoneIn
  rw [settings]

/-- The distances read the station distances, the settings of the zones and the defer step. -/
theorem State.Distances.congr {s t : State} (d : s.Distances) (geometry : t.lcu.geometry = s.lcu.geometry)
    (settings : ∀ n, (t.zone n).settings = (s.zone n).settings) (deferStep : t.obk.deferStep = s.obk.deferStep) : t.Distances where
  step := deferStep ▸ d.step
  slit := by
    unfold State.dSlit State.dLast
    rw [geometry]
    exact d.slit
  zones n := by
    rw [State.zoneIn_of (settings n), State.dLast_of geometry]
    exact d.zones n

namespace State.Settled

variable {s t u : State}

theorem linePos (h : s.Settled t) : t.linePos = s.linePos := State.linePos_of h.counters

theorem dLast (h : s.Settled t) : t.dLast = s.dLast := State.dLast_of h.geometry

theorem dSlit (h : s.Settled t) : t.dSlit = s.dSlit := congrArg Geometry.slit h.geometry

theorem distances (h : s.Settled t) (d : s.Distances) : t.Distances := d.congr h.geometry h.settings h.deferStep

theorem refl (s : State) : s.Settled s := ⟨rfl, rfl, rfl, fun _ => rfl, rfl, id, id⟩

theorem trans (h : s.Settled t) (h' : t.Settled u) : s.Settled u where
  counters := h'.counters.trans h.counters
  geometry := h'.geometry.trans h.geometry
  zc := h'.zc.trans h.zc
  settings n := (h'.settings n).trans (h.settings n)
  deferStep := h'.deferStep.trans h.deferStep
  map i := h'.map (h.map i)
  entries i := h'.entries (h.entries i)

/-- The law of R26 through work that adds no mark behind its line. -/
theorem marksAhead (h : s.Settled t) (i : s.MarksAhead)
    (marks : ∀ m ∈ t.map.marks, ∀ e, m.finish = some e → (∃ x ∈ s.map.marks, x.finish = some e) ∨ s.linePos < e + s.dLast) : t.MarksAhead :=
  fun m mem e finish => by
    rw [h.linePos, h.dLast]
    exact (marks m mem e finish).elim (fun ⟨x, there, ends⟩ => i x there e ends) id

/-- The end of the running order through work that moves it nowhere behind the line of R26. -/
theorem endsAhead (h : s.Settled t) (status : t.obk.endStatus = .unlocked → s.obk.endStatus = .unlocked) (i : s.EndsAhead)
    (orders : s.obk.endStatus = .unlocked → ∀ o ∈ t.obk.orders, o.phase = .running →
      (∃ x ∈ s.obk.orders, x.phase = .running ∧ x.endPos ≤ o.endPos) ∨ s.linePos < o.endPos + s.zc + s.dLast) : t.EndsAhead :=
  fun stands o mem runs => by
    rw [h.linePos, h.zc, h.dLast]
    rcases orders (status stands) o mem runs with ⟨x, there, phase, ends⟩ | ahead
    · have far := i (status stands) x there phase
      omega
    · exact ahead

end State.Settled

namespace State.Regular

variable {s t u : State}

theorem refl (s : State) : s.Regular s := ⟨.refl s, id⟩

theorem trans (h : s.Regular t) (h' : t.Regular u) : s.Regular u := ⟨h.toSettled.trans h'.toSettled, fun i => h'.book (h.book i)⟩

end State.Regular

namespace State.Orderly

variable {s t u : State}

theorem refl (s : State) : s.Orderly s := ⟨.refl s, fun _ _ => id, fun _ _ _ => id⟩

theorem trans (h : s.Orderly t) (h' : t.Orderly u) : s.Orderly u where
  toRegular := h.toRegular.trans h'.toRegular
  ends b d i := h'.ends (h.book b) (h.distances d) (h.ends b d i)
  trimmed b d e i := h'.trimmed (h.book b) (h.distances d) (h.ends b d e) (h.trimmed b d e i)

theorem ite {c : Prop} [Decidable c] (h : c → s.Orderly t) (h' : ¬c → s.Orderly u) : s.Orderly (if c then t else u) := by
  split
  · next is => exact h is
  · next isnt => exact h' isnt

end State.Orderly

namespace State.Steady

variable {s t u : State}

theorem of_regular (h : s.Regular t) (ends : s.BookOk → s.Distances → s.EndsAhead → t.EndsAhead)
    (marks : s.BookOk → s.Distances → s.MarksAhead → t.MarksAhead) : s.Steady t := ⟨⟨h, ends, fun b d _ => marks b d⟩, marks⟩

theorem refl (s : State) : s.Steady s := ⟨.refl s, fun _ _ => id⟩

theorem trans (h : s.Steady t) (h' : t.Steady u) : s.Steady u where
  toOrderly := h.toOrderly.trans h'.toOrderly
  marks b d i := h'.marks (h.book b) (h.distances d) (h.marks b d i)

theorem ite {c : Prop} [Decidable c] (h : c → s.Steady t) (h' : ¬c → s.Steady u) : s.Steady (if c then t else u) := by
  split
  · next is => exact h is
  · next isnt => exact h' isnt

theorem foldl {α : Type} {f : State → α → State} (hf : ∀ (t : State) (a : α), t.Steady (f t a)) :
    ∀ (l : List α) (s : State), s.Steady (l.foldl f s)
  | [], s => .refl s
  | a :: l, s => (hf s a).trans (foldl hf l (f s a))

theorem forAll {n : Nat} {f : State → Fin n → State} (hf : ∀ (t : State) (i : Fin n), t.Steady (f t i)) : s.Steady (s.forAll n f) :=
  foldl hf _ _

end State.Steady

/-- Work that leaves the settings of the zones, of the dry end and of the order book. -/
theorem State.Touches.settled {bs : List Block} {s t : State} (h : s.Touches bs t) (zc : t.zc = s.zc)
    (settings : ∀ n, (t.zone n).settings = (s.zone n).settings) (deferStep : t.obk.deferStep = s.obk.deferStep) : s.Settled t :=
  ⟨by rw [h.lcu], by rw [h.lcu], zc, settings, deferStep, h.map, h.ahead⟩

/-- Work that leaves the tags, states and ends of the orders. -/
theorem State.Touches.steady_of {bs : List Block} {s t : State} (h : s.Touches bs t) (zc : t.zc = s.zc)
    (settings : ∀ n, (t.zone n).settings = (s.zone n).settings) (deferStep : t.obk.deferStep = s.obk.deferStep)
    (orders : s.BookOk → t.obk.orders.map (fun o => (o.standing, o.endPos)) = s.obk.orders.map fun o => (o.standing, o.endPos))
    (status : t.obk.endStatus = s.obk.endStatus) (changes : t.unlockedMarks.length ≤ s.unlockedMarks.length)
    (marks : s.Distances → s.MarksAhead → t.MarksAhead) : s.Steady t := by
  have standing (b : s.BookOk) : t.obk.orders.map Order.standing = s.obk.orders.map Order.standing := by
    have same := congrArg (List.map Prod.fst) (orders b)
    simpa only [List.map_map, Function.comp_def] using same
  have regular : s.Regular t := ⟨h.settled zc settings deferStep, fun b => b.congr (standing b) status changes⟩
  refine .of_regular regular (fun b _ e => regular.endsAhead (status ▸ id) e fun _ o mem runs => .inl ?_) fun _ => marks
  have here := List.mem_map_of_mem (f := fun o : Order => (o.standing, o.endPos)) mem
  rw [orders b] at here
  obtain ⟨x, there, same⟩ := List.mem_map.mp here
  exact ⟨x, there, (congrArg (fun y => y.1.2) same).trans runs, (congrArg (·.2) same).le⟩

/-- Work that leaves the map, the book, the bond controller and the dry end. -/
theorem State.Touches.steady {bs : List Block} {s t : State} (h : s.Touches bs t)
    (quiet : ∀ b ∈ [Block.map, .obk, .bnd, .dec], b ∉ Block.lnk :: bs := by simp) : s.Steady t := by
  have map : t.map = s.map := h.same .map (quiet _ (by simp))
  have obk : t.obk = s.obk := h.same .obk (quiet _ (by simp))
  refine h.steady_of (State.zc_of (h.same .dec (quiet _ (by simp)))) (State.settings_of (h.same .bnd (quiet _ (by simp)))) (by rw [obk])
    (fun _ => by rw [obk]) (by rw [obk]) ?_ fun _ i => ?_
  · unfold State.unlockedMarks
    rw [map]
  · exact i.congr (State.linePos_of (by rw [h.lcu])) (State.dLast_of (by rw [h.lcu])) fun m mem => .inr ⟨m, map ▸ mem, rfl⟩

theorem State.Within.steady {bs : List Block} {s t : State} (h : s.Within bs t)
    (quiet : ∀ b ∈ [Block.map, .obk, .bnd, .dec], b ∉ Block.lnk :: bs := by simp) : s.Steady t := h.toTouches.steady quiet

/-- A further piece of work that leaves the map, the book, the bond controller and the dry end. -/
theorem State.Steady.quiet {bs : List Block} {s t u : State} (h : s.Steady t) (h' : t.Within bs u)
    (quiet : ∀ b ∈ [Block.map, .obk, .bnd, .dec], b ∉ Block.lnk :: bs := by simp) : s.Steady u := h.trans (h'.steady quiet)

/-! ### Updates of one block -/

/-- Zones changed outside their settings. -/
theorem State.bnd_steady (s : State) (x : Bnd) (settings : ∀ n : ZoneId, x.zones[n].settings = s.bnd.zones[n].settings := by exact fun _ => rfl) :
    s.Steady { s with bnd := x } :=
  (s.bnd_within x).toTouches.steady_of rfl settings rfl (fun _ => rfl) rfl le_rfl fun _ i => i.congr rfl rfl fun m mem => .inr ⟨m, mem, rfl⟩

theorem State.onZone_steady (s : State) (n : ZoneId) (f : Zone → Zone) (settings : ∀ z, (f z).settings = z.settings := by exact fun _ => rfl) :
    s.Steady (s.onZone n f) :=
  s.bnd_steady _ fun m => by
    by_cases same : m = n
    · subst same
      exact (congrArg Zone.settings (getElem_modifyAt_self ..)).trans (settings _)
    · exact congrArg Zone.settings (getElem_modifyAt_ne _ _ same)

theorem State.onGlue_steady (s : State) (k : GlueId) (f : GlueStation → GlueStation) : s.Steady (s.onGlue k f) := s.bnd_steady _

/-- The dry end changed outside the change zone length. -/
theorem State.dec_steady (s : State) (x : Dec) (zc : x.zoneMult * x.scrapLen = s.zc := by rfl) : s.Steady { s with dec := x } :=
  (s.dec_within x).toTouches.steady_of zc (fun _ => rfl) rfl (fun _ => rfl) rfl le_rfl fun _ i => i.congr rfl rfl fun m mem => .inr ⟨m, mem, rfl⟩

theorem State.onSlit_steady (s : State) (i : SlitId) (f : SlitStation → SlitStation) : s.Steady (s.onSlit i f) := s.dec_steady _

theorem State.onLane_steady (s : State) (j : LaneId) (f : CutLane → CutLane) : s.Steady (s.onLane j f) := s.dec_steady _

theorem State.onQueue_steady (s : State) (j : LaneId) (f : SheetQueue → SheetQueue) : s.Steady (s.onQueue j f) := s.dec_steady _

/-- The book changed outside the tags, states and ends of its orders, the status of the end mark and the defer step. -/
theorem State.obk_steady (s : State) (x : Obk)
    (orders : s.BookOk → x.orders.map (fun o => (o.standing, o.endPos)) = s.obk.orders.map fun o => (o.standing, o.endPos) := by exact fun _ => rfl)
    (status : x.endStatus = s.obk.endStatus := by rfl) (deferStep : x.deferStep = s.obk.deferStep := by rfl) : s.Steady { s with obk := x } :=
  (s.obk_within x).toTouches.steady_of rfl (fun _ => rfl) deferStep orders status le_rfl fun _ i => i.congr rfl rfl fun m mem => .inr ⟨m, mem, rfl⟩

theorem State.onOrder_steady (s : State) (tag : Nat) (f : Order → Order)
    (same : ∀ o, ((f o).standing, (f o).endPos) = (o.standing, o.endPos) := by exact fun _ => rfl) : s.Steady (s.onOrder tag f) :=
  s.obk_steady _ fun _ => by
    rw [List.map_map]
    refine List.map_congr_left fun o _ => ?_
    simp only [Function.comp_def]
    split
    · exact same o
    · rfl

theorem State.onRun_steady (s : State) (tag : Nat) (j : LaneId) (f : LaneRun → LaneRun) : s.Steady (s.onRun tag j f) := s.onOrder_steady tag _

theorem State.onTally_steady (s : State) (tag : Nat) (j : LaneId) (f : Tally → Tally) : s.Steady (s.onTally tag j f) := s.onRun_steady tag j _

/-! ### Requests to the web map -/

theorem insertSorted_perm (m : Mark) (ms : List Mark) : (insertSorted m ms).Perm (m :: ms) := by
  obtain ⟨pre, post, old, -, -, new⟩ := insertSorted_placed m ms
  rw [new, old]
  exact List.perm_middle

/-- A request that is not stored leaves the marks. -/
theorem State.insertMark_unstored {s : State} {m : Mark} (h : (s.insertMark m).2 ≠ .stored) : (s.insertMark m).1.map.marks = s.map.marks := by
  have takenIn (h : (s.takeInMark m).2 ≠ .stored) : (s.takeInMark m).1.map.marks = s.map.marks := by
    unfold State.takeInMark at h ⊢
    split at h
    · exact absurd rfl h
    · next full =>
      rw [if_neg full]
      split
      · rfl
      · exact (s.loseMark_marks m).1
  rcases finish : m.finish with _ | e
  · rw [s.insertMark_open finish] at h ⊢
    exact takenIn h
  · by_cases late : e + s.dLast ≤ s.linePos
    · rw [s.insertMark_late finish late]
      rfl
    · rw [s.insertMark_ahead finish (not_le.mp late)] at h ⊢
      exact takenIn h

/-- A mark that is stored is not a late one. -/
theorem State.insertMark_stored_ahead {s : State} {m : Mark} (h : (s.insertMark m).2 = .stored) {e : Nat} (finish : m.finish = some e) :
    s.linePos < e + s.dLast := by
  by_contra late
  rw [s.insertMark_late finish (not_lt.mp late)] at h
  cases h

theorem State.insertMark_unlocked_le (s : State) {m : Mark} (other : m.isUnlockedChange = false) :
    (s.insertMark m).1.unlockedMarks.length ≤ s.unlockedMarks.length := by
  unfold State.unlockedMarks
  by_cases stored : (s.insertMark m).2 = .stored
  · rw [State.insertMark_stored stored, ((insertSorted_perm m s.map.marks).filter _).length_eq, List.filter_cons_of_neg (by simp [other])]
  · rw [State.insertMark_unstored stored]

/-- Work on the web map alone. -/
theorem State.Within.steady_map {s t : State} (h : s.Within [.map] t) (changes : t.unlockedMarks.length ≤ s.unlockedMarks.length)
    (marks : s.Distances → s.MarksAhead → t.MarksAhead) : s.Steady t := by
  have obk : t.obk = s.obk := h.same .obk (by simp)
  exact h.toTouches.steady_of (State.zc_of (h.same .dec (by simp))) (State.settings_of (h.same .bnd (by simp))) (by rw [obk])
    (fun _ => by rw [obk]) (by rw [obk]) changes marks

theorem State.insertMark_steady (s : State) (m : Mark) (ordered : ∀ e, m.finish = some e → m.start ≤ e)
    (other : m.isUnlockedChange = false := by rfl) : s.Steady (s.insertMark m).1 :=
  (s.insertMark_within m ordered).steady_map (s.insertMark_unlocked_le other) fun _ i => i.insertMark m

theorem State.openSpan_steady (s : State) (x : BondSource) (p : Nat) : s.Steady (s.openSpan x p) :=
  s.insertMark_steady _ fun _ h => by cases h

theorem Mark.isUnlockedChange_of_not_change {m : Mark} (h : m.isChange = false) : m.isUnlockedChange = false := by
  revert h
  unfold Mark.isChange Mark.isUnlockedChange
  split <;> simp

theorem filter_unlocked_changes (ms : List Mark) : (ms.filter Mark.isChange).filter (·.isUnlockedChange) = ms.filter (·.isUnlockedChange) := by
  rw [List.filter_filter]
  refine List.filter_congr fun m _ => ?_
  cases is : m.isChange
  · simp [Mark.isUnlockedChange_of_not_change is]
  · simp

theorem State.unlockedMarks_of_changes {s t : State} (h : t.map.marks.filter Mark.isChange = s.map.marks.filter Mark.isChange) :
    t.unlockedMarks = s.unlockedMarks := by
  unfold State.unlockedMarks
  rw [← filter_unlocked_changes, h, filter_unlocked_changes]

/-- A close request with an end that lies ahead. -/
theorem State.closeSpan_steady (s : State) (x : BondSource) (e : Nat) (ahead : s.Distances → s.linePos < e + s.dLast) :
    s.Steady (s.closeSpan x e) :=
  (s.closeSpan_within x e).steady_map (congrArg List.length (State.unlockedMarks_of_changes (s.closeSpan_changes x e))).le fun d i => i.closeSpan x e (ahead d)

end Sys2Proof.Machine
end

section
/-! PROOF. The bond controller's work is steady: it opens spans and closes them with ends that lie ahead (R24, R84 to R97). -/

namespace Sys2Proof.Machine

/- One theorem at a time: with a thread for each, the stacks of the threads that wait would take the memory. -/
set_option Elab.async false

/-! ### Heat zones -/

theorem State.evalZone_steady (s : State) (n : ZoneId) : s.Steady (s.evalZone n) := by
  unfold State.evalZone
  exact .ite (fun _ => s.onZone_steady n _) fun _ => .refl s

theorem State.evalBond_steady (s : State) : s.Steady s.evalBond :=
  (State.Steady.forAll fun t n => t.onZone_steady n _).quiet (State.setEntry_within ..)

theorem State.openZoneSpan_steady (s : State) (n : ZoneId) : s.Steady (s.openZoneSpan n) :=
  (s.openSpan_steady _ _).trans (State.onZone_steady ..)

/-- The end of a zone's span lies D_in behind LINE, and D_in is below D_LAST (R24, R88). -/
theorem State.closeZoneSpan_steady (s : State) (n : ZoneId) : s.Steady (s.closeZoneSpan n) := by
  have ahead (d : s.Distances) : s.linePos < s.linePos - s.zoneIn n + s.dLast := by
    have zone := d.zones n
    omega
  unfold State.closeZoneSpan
  exact .ite (fun _ => (s.closeSpan_steady _ _ ahead).trans (State.onZone_steady ..)) fun _ => .refl s

theorem State.enterZone_steady (s : State) (n : ZoneId) (new : ZoneState) : s.Steady (s.enterZone n new) := by
  have spans (t : State) : t.Steady
      (if new = .low ∨ new = .fault then (if (t.zone n).span.isSome then t else t.openZoneSpan n) else t.closeZoneSpan n) :=
    .ite (fun _ => .ite (fun _ => .refl t) fun _ => t.openZoneSpan_steady n) fun _ => t.closeZoneSpan_steady n
  have told (t : State) : t.Steady (if new = .fault then t.raise .zoneFault (zoneSubject n) (t.zone n).causeBytes else t) :=
    .ite (fun _ => (t.raise_within ..).steady) fun _ => .refl t
  unfold State.enterZone
  exact .ite (fun _ => .refl s) fun _ => (((s.onZone_steady n _).trans (told _)).trans (spans _)).trans (State.evalBond_steady _)

theorem State.postDemand_steady (s : State) (n : ZoneId) (r : Reading) : s.Steady (s.postDemand n r) :=
  s.onZone_steady n _ fun _ => by split <;> rfl

theorem State.zoneSensorFault_steady (s : State) (n : ZoneId) : s.Steady (s.zoneSensorFault n) :=
  (s.onZone_steady n _).trans (State.enterZone_steady ..)

theorem State.judgeTemperature_steady (s : State) (n : ZoneId) (r : Reading) : s.Steady (s.judgeTemperature n r) := by
  unfold State.judgeTemperature
  split
  · exact (s.onZone_steady n _).trans (State.zoneSensorFault_steady _ n)
  · exact (s.onZone_steady n _).trans (.ite (fun _ => State.zoneSensorFault_steady _ n) fun _ => .refl _)
  · dsimp only
    split
    · exact (s.onZone_steady n _).trans (State.enterZone_steady ..)
    · exact s.onZone_steady n _

theorem State.takeTemperature_steady (s : State) (n : ZoneId) (r : Reading) : s.Steady (s.takeTemperature n r) := by
  unfold State.takeTemperature
  exact (s.onZone_steady n _).trans (.ite (fun _ => (((State.evalZone_steady _ n).trans (State.judgeTemperature_steady _ n r)).trans
    (State.postDemand_steady _ n r)).trans (State.evalBond_steady _)) fun _ => .refl _)

theorem State.zoneReport_steady (s : State) (n : ZoneId) (isFault : Bool) : s.Steady (s.zoneReport n isFault) := by
  unfold State.zoneReport
  exact (s.onZone_steady n _).trans (.ite (fun _ => State.enterZone_steady ..) fun _ => .refl _)

/-! ### Glue stations -/

theorem State.setGlueState_steady (s : State) (k : GlueId) (new : GlueState) : s.Steady (s.setGlueState k new) := s.onGlue_steady k _

theorem State.setPair_steady (s : State) (k : GlueId) (a b : Level) : s.Steady (s.setPair k a b) := s.onGlue_steady k _

theorem State.driveToward_steady (s : State) (k : GlueId) (r : Nat) : s.Steady (s.driveToward k r) := by
  unfold State.driveToward
  exact .ite (fun _ => s.setPair_steady ..) fun _ => s.setPair_steady ..

theorem State.leavePair_steady (s : State) (k : GlueId) : s.Steady (s.leavePair k) := by
  unfold State.leavePair
  split <;> exact s.setPair_steady ..

/-- A glue point does not lie behind LINE (R24, R95). -/
theorem State.closeGlueSpan_steady (s : State) (k : GlueId) : s.Steady (s.closeGlueSpan k) := by
  have ahead (d : s.Distances) : s.linePos < s.gluePoint k + s.dLast := by
    have zone := d.zones 0
    unfold State.gluePoint
    split <;> omega
  unfold State.closeGlueSpan
  exact .ite (fun _ => (s.closeSpan_steady _ _ ahead).trans (State.onGlue_steady ..)) fun _ => .refl s

theorem State.judgeGap_steady (s : State) (k : GlueId) (r : Nat) : s.Steady (s.judgeGap k r) := by
  unfold State.judgeGap
  split
  · refine .ite (fun _ => ?resting) fun _ => .ite (fun _ => ?moving) fun _ => .refl s
    case resting => exact .ite (fun _ => s.setGlueState_steady ..) fun _ => (s.setGlueState_steady ..).trans (State.driveToward_steady ..)
    case moving =>
      exact .ite (fun _ => ((s.leavePair_steady k).trans (State.setGlueState_steady ..)).trans (State.closeGlueSpan_steady _ k))
        fun _ => s.driveToward_steady ..
  · exact .refl s

theorem State.evalGlue_steady (s : State) (k : GlueId) : s.Steady (s.evalGlue k) := by
  unfold State.evalGlue
  split
  · refine .ite (fun _ => .refl s) fun _ => .ite (fun _ => .refl s) fun _ => ?_
    dsimp only
    split
    · exact (s.onGlue_steady k _).trans (State.judgeGap_steady ..)
    · exact s.onGlue_steady k _
  · exact .refl s

theorem State.openGlueSpan_steady (s : State) (k : GlueId) : s.Steady (s.openGlueSpan k) := by
  unfold State.openGlueSpan
  exact .ite (fun _ => .refl s) fun _ => (s.openSpan_steady _ _).trans (State.onGlue_steady ..)

theorem State.glueFault_steady (s : State) (k : GlueId) (c : GlueCause) : s.Steady (s.glueFault k c) := by
  have faults := (((s.onGlue_steady k (·.addCause c)).trans (State.setGlueState_steady _ k .fault)).trans
    (State.setPair_steady _ k .off .off)).trans (State.openGlueSpan_steady _ k)
  unfold State.glueFault
  split
  · exact .refl s
  · exact s.onGlue_steady k _
  all_goals exact faults.quiet (State.raise_within ..)

theorem State.glueReport_steady (s : State) (k : GlueId) (isFault : Bool) : s.Steady (s.glueReport k isFault) := by
  unfold State.glueReport
  exact .ite (fun _ => s.glueFault_steady k _) fun _ => .ite (fun _ => .refl s) fun _ => s.onGlue_steady k _

theorem State.takeGap_steady (s : State) (k : GlueId) (r : Reading) : s.Steady (s.takeGap k r) := by
  have read := ((s.onGlue_steady k GlueStation.takeRules).trans (State.evalGlue_steady _ k)).trans
    (State.onGlue_steady _ k fun g => { g with latest := r })
  unfold State.takeGap
  refine .ite (fun _ => .refl s) fun _ => read.trans ?_
  split
  · exact (State.onGlue_steady ..).trans (State.judgeGap_steady ..)
  · exact (State.onGlue_steady ..).trans (State.glueFault_steady ..)
  · exact (State.onGlue_steady ..).trans (.ite (fun _ => State.glueFault_steady ..) fun _ => .refl _)

theorem State.glueTakesUp_steady (s : State) (k : GlueId) : s.Steady (s.glueTakesUp k) := by
  unfold State.glueTakesUp
  split
  · exact ((s.onGlue_steady k _).trans (State.setGlueState_steady ..)).trans (State.setPair_steady ..)
  · exact .refl s

theorem State.glueTakenOut_steady (s : State) (k : GlueId) : s.Steady (s.glueTakenOut k) := by
  unfold State.glueTakenOut
  exact .ite (fun _ => .refl s) fun _ => (((s.closeGlueSpan_steady k).trans (State.setGlueState_steady ..)).trans
    (State.setPair_steady ..)).trans (State.onGlue_steady ..)

/-! ### All zones and stations -/

theorem State.endStop_steady (s : State) : s.Steady s.endStop := by
  unfold State.endStop
  exact .ite (fun _ => s.bnd_steady _) fun _ => .refl s

theorem State.evalBonds_steady (s : State) : s.Steady s.evalBonds :=
  (State.Steady.forAll State.evalZone_steady).trans (.forAll State.evalGlue_steady)

theorem State.bondLineAdvance_steady (s : State) : s.Steady s.bondLineAdvance := s.endStop_steady.trans (State.evalBonds_steady _)

theorem State.bondWebAdvance_steady (s : State) (k : WebId) : s.Steady (s.bondWebAdvance k) := s.evalGlue_steady _

theorem State.countZeroSpeed_steady (s : State) : s.Steady s.countZeroSpeed := by
  unfold State.countZeroSpeed
  exact .ite (fun _ => .ite (fun _ => s.bnd_steady _) fun _ => s.bnd_steady _) fun _ => s.bnd_steady _

theorem State.ownerReport_steady (s : State) (w : Owner) (isFault : Bool) : s.Steady (s.ownerReport w isFault) := by
  unfold State.ownerReport
  split
  · exact s.zoneReport_steady ..
  all_goals exact s.glueReport_steady ..

theorem State.sendReports_steady (s old : State) : s.Steady (s.sendReports old) :=
  .foldl (fun t (r : Owner × Bool) => t.ownerReport_steady r.1 r.2) _ _

theorem State.recoverGlue_steady (s : State) (k : GlueId) : s.Steady (s.recoverGlue k) := by
  unfold State.recoverGlue
  split
  · refine (s.onGlue_steady k _).trans (.ite (fun _ => ?_) fun _ => .refl _)
    dsimp only
    split
    · exact (State.setGlueState_steady ..).trans (State.judgeGap_steady ..)
    · exact State.setGlueState_steady ..
  · exact .refl s

theorem State.rebuildGlue_steady (s old : State) (k : GlueId) : s.Steady (old.rebuildGlue s k) := by
  unfold State.rebuildGlue
  exact .ite (fun _ => s.glueTakenOut_steady k) fun _ => .ite (fun _ => s.glueTakesUp_steady k) fun _ => .refl s

theorem State.rejudgeGlue_steady (s : State) (k : GlueId) : s.Steady (s.rejudgeGlue k) := by
  unfold State.rejudgeGlue
  split
  · exact .ite (fun _ => .refl s) fun _ => .ite (fun _ => (s.onGlue_steady k _).trans (State.glueFault_steady ..)) fun _ =>
      .ite (fun _ => s.onGlue_steady k _) fun _ => s.onGlue_steady k _
  · exact .refl s

theorem State.reportKept_steady (s : State) (o : OutputId) : s.Steady (s.reportKept o) := by
  unfold State.reportKept
  split
  · exact .ite (fun _ => s.ownerReport_steady ..) fun _ => .refl s
  · exact .refl s

/-! ### The line state (R148, R152, R153) -/

theorem State.announceBond_steady (s : State) (old new : LineState) : s.Steady (s.announceBond old new) := by
  unfold State.announceBond
  exact .ite (fun _ => s.evalBonds_steady) fun _ => .refl s

theorem State.changeLine_steady (s : State) (new : LineState) : s.Steady (s.changeLine new) :=
  (((s.enterLine_touches new).steady.quiet (State.announceSplice_within ..)).trans (State.announceBond_steady ..)).quiet
    (State.raiseLine_within ..)

theorem State.addHold_steady (s : State) (c : HoldCause) : s.Steady (s.addHold c) := (s.addHold_touches c).steady

theorem State.removeHold_steady (s : State) (c : HoldCause) : s.Steady (s.removeHold c) := (s.removeHold_touches c).steady

theorem State.stopCause_steady (s : State) (c : StopCause) (d : Option Subject) : s.Steady (s.stopCause c d) := by
  have changed (r : StopRecord) (new : LineState) : s.Steady ((s.setRecord r).changeLine new) :=
    (s.setRecord_within r).steady.trans (State.changeLine_steady ..)
  have noticed (r : StopRecord) (old : LineState) : s.Steady ((s.setRecord r).raiseLine old) :=
    (s.setRecord_within r).steady.quiet (State.raiseLine_within ..)
  unfold State.stopCause
  split
  case h_3 => exact .ite (fun _ => changed ..) fun _ => .ite (fun _ => noticed ..) fun _ => noticed ..
  case h_6 | h_7 => exact noticed ..
  all_goals exact changed ..

end Sys2Proof.Machine
end

section
/-! PROOF. The order book's own work: which orders stand in the book, the end mark locked, deferred, moved and inserted, the swap and the first
start (R39 to R57). -/

namespace Sys2Proof.Machine

/- One theorem at a time: with a thread for each, the stacks of the threads that wait would take the memory. -/
set_option Elab.async false

/-! ### The laws of the book, order by order -/

theorem length_filter_le_one {α : Type} {p : α → Bool} {l : List α} (distinct : l.Nodup)
    (same : ∀ x ∈ l, ∀ y ∈ l, p x = true → p y = true → x = y) : (l.filter p).length ≤ 1 := by
  have apart := distinct.filter p
  rcases shape : l.filter p with _ | ⟨a, _ | ⟨b, rest⟩⟩
  · simp
  · simp
  · have ha : a ∈ l ∧ p a = true := List.mem_filter.mp (by simp [shape])
    have hb : b ∈ l ∧ p b = true := List.mem_filter.mp (by simp [shape])
    rw [shape, same a ha.1 b hb.1 ha.2 hb.2] at apart
    simp at apart

/-- At most one order of the book is in the given state. -/
def State.OneIn (s : State) (p : OrderPhase) : Prop :=
  ∀ x ∈ s.obk.orders, ∀ y ∈ s.obk.orders, x.phase = p → y.phase = p → x.tag = y.tag

namespace State.OneIn

variable {s t : State} {p : OrderPhase}

theorem of_count (h : (s.obk.orders.filter fun o => o.phase = p).length ≤ 1) : s.OneIn p := fun x hx y hy px py =>
  congrArg Order.tag (eq_of_filter_le_one h hx hy (by simpa using px) (by simpa using py))

theorem count (h : s.OneIn p) (tags : (s.obk.orders.map (·.tag)).Nodup) : (s.obk.orders.filter fun o => o.phase = p).length ≤ 1 :=
  length_filter_le_one (.of_map _ tags) fun x hx y hy px py =>
    State.order_of_tag tags hx hy (h x hx y hy (of_decide_eq_true px) (of_decide_eq_true py))

/-- Records changed, and none of them put into the state. -/
theorem mapped (h : s.OneIn p) {f : Order → Order} (orders : t.obk.orders = s.obk.orders.map f)
    (tags : ∀ x ∈ s.obk.orders, (f x).tag = x.tag) (still : ∀ x ∈ s.obk.orders, (f x).phase = p → x.phase = p) : t.OneIn p := by
  intro x' hx' y' hy' px py
  rw [orders] at hx' hy'
  obtain ⟨x, hx, rfl⟩ := List.mem_map.mp hx'
  obtain ⟨y, hy, rfl⟩ := List.mem_map.mp hy'
  rw [tags x hx, tags y hy]
  exact h x hx y hy (still x hx px) (still y hy py)

theorem single (n : Nat) (h : ∀ x ∈ s.obk.orders, x.phase = p → x.tag = n) : s.OneIn p := fun x hx y hy px py =>
  (h x hx px).trans (h y hy py).symm

end State.OneIn

namespace State.BookOk

variable {s t : State}

theorem of_oneIn (capacity : t.obk.orders.length ≤ Config.bookCapacity) (tags : (t.obk.orders.map (·.tag)).Nodup)
    (running : t.OneIn .running) (staged : t.OneIn .staged) (unlocked : t.unlockedMarks.length ≤ 1)
    (owned : ∀ m ∈ t.unlockedMarks, t.obk.endStatus = .unlocked ∧ ∃ o ∈ t.obk.orders, o.phase = .running) : t.BookOk where
  capacity := capacity
  tags := tags
  running := running.count tags
  staged := staged.count tags
  unlocked := unlocked
  owned m mem is := by
    rw [State.runningOrder_isSome_iff]
    exact owned m (State.mem_unlockedMarks.mpr ⟨mem, is⟩)

theorem oneRunning (h : s.BookOk) : s.OneIn .running := .of_count h.running

theorem oneStaged (h : s.BookOk) : s.OneIn .staged := .of_count h.staged

theorem ownedMarks (h : s.BookOk) {m : Mark} (mem : m ∈ s.unlockedMarks) :
    s.obk.endStatus = .unlocked ∧ ∃ o ∈ s.obk.orders, o.phase = .running := by
  obtain ⟨here, is⟩ := State.mem_unlockedMarks.mp mem
  obtain ⟨status, runs⟩ := h.owned m here is
  exact ⟨status, State.runningOrder_isSome_iff.mp runs⟩

/-- No unlocked mark stands while the end mark is not placed, or is locked. -/
theorem noUnlocked (h : s.BookOk) (status : s.obk.endStatus ≠ .unlocked) : s.unlockedMarks = [] :=
  List.eq_nil_iff_forall_not_mem.mpr fun _ mem => status (h.ownedMarks mem).1

theorem noUnlocked_of_idle (h : s.BookOk) (idle : s.runningOrder = none) : s.unlockedMarks = [] :=
  List.eq_nil_iff_forall_not_mem.mpr fun _ mem => State.runningOrder_isSome_iff.mpr (h.ownedMarks mem).2 idle

/-- The records changed under their tags. -/
theorem mapped (h : s.BookOk) {f : Order → Order} (orders : t.obk.orders = s.obk.orders.map f) (tags : ∀ x ∈ s.obk.orders, (f x).tag = x.tag)
    (running : t.OneIn .running) (staged : t.OneIn .staged) (unlocked : t.unlockedMarks.length ≤ 1)
    (owned : ∀ m ∈ t.unlockedMarks, t.obk.endStatus = .unlocked ∧ ∃ o ∈ t.obk.orders, o.phase = .running) : t.BookOk := by
  refine of_oneIn ?_ ?_ running staged unlocked owned
  · rw [orders, List.length_map]
    exact h.capacity
  · rw [orders, List.map_map]
    exact (List.map_congr_left (f := Order.tag ∘ f) (g := Order.tag) tags) ▸ h.tags

/-- The orders left as they are. -/
theorem remarked (h : s.BookOk) (orders : t.obk.orders = s.obk.orders) (unlocked : t.unlockedMarks.length ≤ 1)
    (owned : ∀ m ∈ t.unlockedMarks, t.obk.endStatus = .unlocked ∧ ∃ o ∈ s.obk.orders, o.phase = .running) : t.BookOk :=
  h.mapped (f := id) (by rw [orders, List.map_id]) (fun _ _ => rfl) (h.oneRunning.mapped (f := id) (by rw [orders, List.map_id]) (fun _ _ => rfl) fun _ _ => id)
    (h.oneStaged.mapped (f := id) (by rw [orders, List.map_id]) (fun _ _ => rfl) fun _ _ => id) unlocked (orders ▸ owned)

theorem runningOrder_of (h : s.BookOk) {o x : Order} (running : s.runningOrder = some o) (mem : x ∈ s.obk.orders) (runs : x.phase = .running) :
    x = o := by
  obtain ⟨there, phase⟩ := State.orderIn_mem running
  exact State.order_of_tag h.tags mem there (h.oneRunning x mem o there runs phase)

/-- The order found under a tag is the only one of that tag. -/
theorem found_eq (h : s.BookOk) {tag : Nat} {o x : Order} (found : s.findOrder tag = some o) (mem : x ∈ s.obk.orders) (same : x.tag = tag) :
    x = o := by
  have is := State.findOrder_of_mem h.tags mem
  rw [same, found] at is
  exact (Option.some.inj is).symm

end State.BookOk

/-! ### Orders that enter and leave the book, and records changed -/

/-- Orders put in and taken out that neither run nor are staged. -/
theorem State.obk_members (s : State) (x : Obk)
    (room : s.BookOk → x.orders.length ≤ Config.bookCapacity ∧ (x.orders.map (·.tag)).Nodup)
    (old : ∀ o ∈ x.orders, o ∈ s.obk.orders ∨ o.phase ≠ .running ∧ o.phase ≠ .staged)
    (runs : s.BookOk → ∀ o ∈ s.obk.orders, o.phase = .running → o ∈ x.orders)
    (status : x.endStatus = s.obk.endStatus := by rfl) (deferStep : x.deferStep = s.obk.deferStep := by rfl) : s.Steady { s with obk := x } := by
  have settled : s.Settled { s with obk := x } := (s.obk_within x).toTouches.settled rfl (fun _ => rfl) deferStep
  have one {p : OrderPhase} (h : s.OneIn p) (is : p = .running ∨ p = .staged) : State.OneIn { s with obk := x } p := by
    have there : ∀ o ∈ x.orders, o.phase = p → o ∈ s.obk.orders := fun o mem phase =>
      (old o mem).resolve_right fun other => is.elim (fun e => other.1 (phase.trans e)) fun e => other.2 (phase.trans e)
    exact fun a ha b hb pa pb => h a (there a ha pa) b (there b hb pb) pa pb
  refine .of_regular ⟨settled, fun b => ?_⟩ (fun _ _ e => settled.endsAhead (fun h => status ▸ h) e fun _ o mem phase => .inl ?_) fun _ _ i => i.congr rfl rfl fun m mem => .inr ⟨m, mem, rfl⟩
  · obtain ⟨capacity, tags⟩ := room b
    refine .of_oneIn capacity tags (one b.oneRunning (.inl rfl)) (one b.oneStaged (.inr rfl)) b.unlocked fun m mem => ?_
    obtain ⟨stands, o, there, phase⟩ := b.ownedMarks mem
    exact ⟨status.trans stands, o, runs b o there phase, phase⟩
  · exact ⟨o, (old o mem).resolve_right fun other => other.1 phase, phase, le_rfl⟩

/-- An order that neither runs nor is to run leaves the book. -/
theorem State.dropOrder_steady {s : State} {tag : Nat} {o : Order} (found : s.findOrder tag = some o) (rests : o.phase ≠ .running) :
    s.Steady (s.dropOrder tag) := by
  refine s.obk_members _ (fun b => ⟨(List.length_filter_le ..).trans b.capacity, b.tags.sublist (List.filter_sublist.map _)⟩)
    (fun x mem => .inl (List.mem_filter.mp mem).1) fun b x mem runs => List.mem_filter.mpr ⟨mem, ?_⟩
  simp only [ne_eq, decide_not, Bool.not_eq_eq_eq_not, Bool.not_true, decide_eq_false_iff_not]
  exact fun same => rests (b.found_eq found mem same ▸ runs)

/-- A record of the book replaced under its tag, state and end. -/
theorem State.replaced_steady {s : State} {tag : Nat} {o r : Order} (found : s.findOrder tag = some o) (same : r.standing = o.standing)
    (ends : r.endPos = o.endPos) : s.Steady (s.onOrder tag fun _ => r) := by
  refine s.obk_steady _ fun b => ?_
  rw [List.map_map]
  refine List.map_congr_left fun x mem => ?_
  simp only [Function.comp_def]
  split
  · next is => rw [b.found_eq found mem is, same, ends]
  · rfl

theorem nodup_tags_filed {os : List Order} (tags : (os.map (·.tag)).Nodup) {d : Order} :
    (((os.filter fun x => x.tag ≠ d.tag) ++ [d]).map (·.tag)).Nodup := by
  rw [List.map_append, List.nodup_append]
  refine ⟨tags.sublist (List.filter_sublist.map _), by simp, fun a mem b is => ?_⟩
  obtain ⟨x, there, rfl⟩ := List.mem_map.mp mem
  rw [List.mem_singleton.mp is]
  simpa using (List.mem_filter.mp there).2

/-- A finished order at the tail of the book. -/
theorem State.filed_steady {s : State} {tag : Nat} {o : Order} (found : s.findOrder tag = some o) (drains : o.phase = .draining) :
    s.Steady (s.filed tag o) := by
  have there := List.mem_of_find?_eq_some found
  have is : o.tag = tag := by simpa using List.find?_some found
  refine s.obk_members _ (fun b => ⟨?_, ?_⟩) (fun x mem => ?_) fun b x mem runs => List.mem_append_left _ (List.mem_filter.mpr ⟨mem, ?_⟩)
  · have fewer : (s.obk.orders.filter fun x => x.tag ≠ tag).length < s.obk.orders.length :=
      List.length_filter_lt_length_iff_exists.mpr ⟨o, there, by simpa using is⟩
    rw [List.length_append]
    exact fewer.trans_le b.capacity
  · subst is
    exact nodup_tags_filed (d := o.finished) b.tags
  · rcases List.mem_append.mp mem with old | new
    · exact .inl (List.mem_filter.mp old).1
    · rw [List.mem_singleton.mp new]
      exact .inr ⟨by simp [Order.finished], by simp [Order.finished]⟩
  · simp only [ne_eq, decide_not, Bool.not_eq_eq_eq_not, Bool.not_true, decide_eq_false_iff_not]
    intro same
    rw [b.found_eq found mem same, drains] at runs
    cases runs

theorem State.doneTest_steady (s : State) (tag : Nat) : s.Steady (s.doneTest tag) := by
  unfold State.doneTest
  split
  · next o found =>
    split
    · next done =>
      have drains : o.phase = .draining := by simpa using (Bool.and_eq_true_iff.mp done).1
      have filed := (State.filed_steady found drains).quiet (State.raise_within _ .orderDone (orderSubject tag) (natBytes 1 o.finished.outcome.ctorIdx))
      exact .ite (fun _ => filed.quiet (State.raise_within ..)) fun _ => filed
    · exact .refl s
  · exact .refl s

theorem State.completionReport_steady (s : State) (tag : Nat) (j : LaneId) : s.Steady (s.completionReport tag j) :=
  (s.onRun_steady tag j _).trans (State.doneTest_steady ..)

end Sys2Proof.Machine
end

section
/-! PROOF. The end mark's requests and the coming of an order: every one keeps the laws of the map, the book and R26 (R42 to R57). -/

namespace Sys2Proof.Machine

/- One theorem at a time: with a thread for each, the stacks of the threads that wait would take the memory. -/
set_option Elab.async false

/-! ### Stations, claims and required cuts -/

theorem State.evalLaneClaim_steady (s : State) (j : LaneId) : s.Steady (s.evalLaneClaim j) := (s.onLane_steady j _).quiet (State.evalKnife_within _)

theorem State.endMarkMoved_steady (s : State) : s.Steady s.endMarkMoved :=
  .forAll fun t j => .ite (fun _ => t.evalLaneClaim_steady j) fun _ => .refl t

theorem State.handLane_steady (s : State) (o : Order) (j : LaneId) : s.Steady (s.handLane o j) := by
  unfold State.handLane
  split
  · exact s.onLane_steady j _
  · exact .refl s

theorem State.handCuts_steady (s : State) (o : Order) : s.Steady (s.handCuts o) := (s.handLane_steady o 0).trans (State.handLane_steady ..)

theorem State.reportSetup_steady (s : State) (i : SlitId) (c : SetupCond) : s.Steady (s.reportSetup i c) := by
  unfold State.reportSetup
  split
  · exact s.onOrder_steady ..
  · exact .refl s

theorem State.startPositioning_steady (s : State) (i : SlitId) (g : Setup) : s.Steady (s.startPositioning i g) :=
  (s.onSlit_steady i _).trans (State.reportSetup_steady ..)

theorem State.cancelStation_steady (s : State) (i : SlitId) : s.Steady (s.cancelStation i) := by
  unfold State.cancelStation
  split
  iterate 3 exact s.onSlit_steady i _
  iterate 2 exact .refl s

theorem State.engageStation_steady (s : State) (i : SlitId) : s.Steady (s.engageStation i) := s.onSlit_steady i _

theorem State.stationsSwapped_steady (s : State) (t : Order) : s.Steady (s.stationsSwapped t) := by
  rw [State.stationsSwapped_rest]
  exact s.dec_steady _

theorem State.nameGrades_steady (s : State) : s.Steady s.nameGrades := s.nameGrades_within.steady

theorem State.beginLane_steady (s : State) (o : Order) (start : Nat) (j : LaneId) : s.Steady (s.beginLane o start j) :=
  (s.onLane_steady j _).trans (State.evalLaneClaim_steady _ j)

/-! ### The unlocked mark changed in its place (R25) -/

theorem changeUnlocked_finishes (f : MarkBody → MarkBody) (ms : List Mark) : (changeUnlocked f ms).map (·.finish) = ms.map (·.finish) := by
  induction ms with
  | nil => rfl
  | cons m ms ih =>
    unfold changeUnlocked
    split
    · rfl
    · rw [List.map_cons, ih, List.map_cons]

/-- The unlocked mark changed: the one unlocked mark there is stays one or, locked, is none. -/
theorem changeUnlocked_unlocked_le (f : MarkBody → MarkBody) (ms : List Mark) :
    ((changeUnlocked f ms).filter (·.isUnlockedChange)).length ≤ (ms.filter (·.isUnlockedChange)).length := by
  induction ms with
  | nil => exact le_rfl
  | cons m ms ih =>
    unfold changeUnlocked
    split
    · next first =>
      rw [List.filter_cons_of_pos first, List.filter_cons]
      split
      · exact le_rfl
      · exact Nat.le_succ _
    · next other => rwa [List.filter_cons_of_neg other, List.filter_cons_of_neg other]

theorem State.onUnlocked_unlocked_le (s : State) (f : MarkBody → MarkBody) : (s.onUnlocked f).unlockedMarks.length ≤ s.unlockedMarks.length := by
  unfold State.unlockedMarks
  rw [State.onUnlocked_marks]
  exact changeUnlocked_unlocked_le ..

theorem State.onUnlocked_marksAhead {s : State} (i : s.MarksAhead) (f : MarkBody → MarkBody) : (s.onUnlocked f).MarksAhead := by
  have lcu : (s.onUnlocked f).lcu = s.lcu := (s.onUnlocked_within f).same .lcu (by simp)
  refine i.congr (State.linePos_of (by rw [lcu])) (State.dLast_of (by rw [lcu])) fun m mem => .inr ?_
  rw [State.onUnlocked_marks] at mem
  have ends := List.mem_map_of_mem (f := (·.finish)) mem
  rwa [changeUnlocked_finishes, List.mem_map] at ends

theorem State.onUnlocked_steady (s : State) (f : MarkBody → MarkBody) : s.Steady (s.onUnlocked f) :=
  (s.onUnlocked_within f).steady_map (s.onUnlocked_unlocked_le f) fun _ i => State.onUnlocked_marksAhead i f

theorem State.setEndIncoming_steady (s : State) (t : Option Nat) : s.Steady (s.setEndIncoming t) := by
  unfold State.setEndIncoming
  split
  · exact s.onUnlocked_steady _
  · exact s.obk_steady _
  iterate 2 exact .refl s

/-! ### The end mark locks (R47) -/

/-- A mark that locks is no unlocked mark any more. -/
theorem State.lockMark_unlocked {s : State} (one : s.unlockedMarks.length ≤ 1) : s.lockMark.unlockedMarks = [] := by
  have marks : s.lockMark.map.marks = _ := s.onUnlocked_marks _
  unfold State.unlockedMarks at one ⊢
  rw [marks]
  generalize s.map.marks = ms at one
  induction ms with
  | nil => rfl
  | cons m ms ih =>
    unfold changeUnlocked
    split
    · next first =>
      have none_ : ms.filter (·.isUnlockedChange) = [] := by
        rw [List.filter_cons_of_pos first, List.length_cons] at one
        exact List.length_eq_zero_iff.mp (Nat.le_zero.mp (Nat.le_of_succ_le_succ one))
      rw [List.filter_cons_of_neg, none_]
      unfold Mark.isUnlockedChange at first ⊢
      split at first
      · simp
      · cases first
    · next other =>
      rw [List.filter_cons_of_neg other] at one ⊢
      exact ih one

theorem State.marked_steady (s : State) : s.Steady s.marked := by
  have lock := s.lockMark_within
  have dec : s.marked.dec = s.dec := lock.same .dec (by simp)
  have bnd : s.marked.bnd = s.bnd := lock.same .bnd (by simp)
  have touches : s.Touches [.map, .obk] s.marked := (lock.toTouches.mono (by simp)).step (State.obk_within _ _) (by simp)
  have settled : s.Settled s.marked := touches.settled (State.zc_of dec) (State.settings_of bnd) (by rw [State.marked_obk])
  refine .of_regular ⟨settled, fun b => b.remarked (by rw [State.marked_obk]) ?_ fun m mem => ?_⟩ (fun _ _ _ status => ?_) fun _ _ i =>
    settled.marksAhead i fun m mem e finish => .inl ?_
  · exact (congrArg List.length (State.lockMark_unlocked b.unlocked)).le.trans (Nat.zero_le _)
  · rw [show s.marked.unlockedMarks = [] from State.lockMark_unlocked b.unlocked] at mem
    cases mem
  · rw [State.marked_obk] at status
    cases status
  · have ends := List.mem_map_of_mem (f := (·.finish)) (show m ∈ s.lockMark.map.marks from mem)
    rw [show s.lockMark.map.marks = _ from s.onUnlocked_marks _, changeUnlocked_finishes, List.mem_map] at ends
    obtain ⟨x, there, same⟩ := ends
    exact ⟨x, there, same.trans finish⟩

theorem State.lockEnd_steady (s : State) (o t : Order) : s.Steady (s.lockEnd o t) := by
  rw [State.lockEnd_eq]
  exact ((s.marked_steady.trans s.lockFreed_touches.steady).trans (State.nameGrades_steady _)).quiet (State.raise_within ..)

theorem State.lockEnd_status (s : State) (o t : Order) : (s.lockEnd o t).obk.endStatus = .locked := by
  rw [State.lockEnd_eq, State.raise_obk, show s.lockFreed.nameGrades.obk = _ from (State.nameGrades_within _).same .obk (by simp),
    show s.lockFreed.obk = _ from s.lockFreed_touches.same .obk (by simp), State.marked_obk]

/-! ### The end mark moves (R25, R45) -/

theorem takeFirst_perm {p : Mark → Bool} {ms rest : List Mark} {m : Mark} (h : takeFirst p ms = some (m, rest)) : ms.Perm (m :: rest) := by
  induction ms generalizing rest with
  | nil => cases h
  | cons x xs ih =>
    unfold takeFirst at h
    split at h
    · cases h
      exact .refl _
    · split at h
      · next taken =>
        cases h
        exact ((ih taken).cons x).trans (.swap ..)
      · cases h

/-- After a move, the unlocked mark of the map ends at its new place, and the others stand as they did. -/
theorem State.mem_moveMark {s : State} (one : s.unlockedMarks.length ≤ 1) {p : Nat} {m : Mark} (mem : m ∈ (s.moveMark p).map.marks) :
    m ∈ s.map.marks ∧ m.isUnlockedChange = false ∨ m.finish = some (p + s.zc) ∧ m.isUnlockedChange = true := by
  unfold State.moveMark at mem
  split at mem
  · next first rest taken =>
    obtain ⟨is, -, sub, -⟩ := takeFirst_spec taken
    rcases mem_insertSorted.mp mem with rfl | left
    · exact .inr ⟨rfl, is⟩
    · unfold State.unlockedMarks at one
      rw [((takeFirst_perm taken).filter _).length_eq, List.filter_cons_of_pos is, List.length_cons] at one
      have others := List.filter_eq_nil_iff.mp (List.length_eq_zero_iff.mp (Nat.le_zero.mp (Nat.le_of_succ_le_succ one))) m left
      exact .inl ⟨sub.subset left, by simpa using others⟩
  · next none_ => exact .inl ⟨mem, takeFirst_eq_none.mp none_ m mem⟩

theorem State.moveMark_unlocked_le (s : State) (p : Nat) : (s.moveMark p).unlockedMarks.length ≤ s.unlockedMarks.length := by
  unfold State.moveMark
  split
  · next first rest taken =>
    have is := (takeFirst_spec taken).1
    unfold State.unlockedMarks
    rw [((takeFirst_perm taken).filter _).length_eq, List.filter_cons_of_pos is, List.length_cons]
    refine ((insertSorted_perm _ rest).filter _).length_eq.le.trans ?_
    rw [List.filter_cons]
    split
    · exact le_rfl
    · exact Nat.le_succ _
  · exact le_rfl

end Sys2Proof.Machine
end

section
/-! PROOF. The end mark deferred and moved, the lock test (R45, R47, R48). -/

namespace Sys2Proof.Machine

/- One theorem at a time: with a thread for each, the stacks of the threads that wait would take the memory. -/
set_option Elab.async false

/-! ### A move of the end mark -/

section Move

variable (s : State) (o : Order) (e : Nat)

/-- The order's record with its new end. -/
def State.endSet : State := s.onOrder o.tag fun x => { x with endPos := e }

theorem State.endSet_standing : (s.endSet o e).obk.orders.map Order.standing = s.obk.orders.map Order.standing := by
  refine (List.map_map ..).trans (List.map_congr_left fun x _ => ?_)
  simp only [Function.comp_def]
  split <;> rfl

theorem State.endSet_regular : s.Regular (s.endSet o e) :=
  ⟨(State.onOrder_within ..).toTouches.settled rfl (fun _ => rfl) rfl, fun b => b.congr (s.endSet_standing o e) rfl le_rfl⟩

theorem State.moveMark_regular (p : Nat) : s.Regular (s.moveMark p) := by
  have within := s.moveMark_within p
  have obk : (s.moveMark p).obk = s.obk := within.same .obk (by simp)
  exact ⟨within.toTouches.settled (State.zc_of (within.same .dec (by simp))) (State.settings_of (within.same .bnd (by simp))) (by rw [obk]),
    fun b => b.congr (by rw [obk]) (by rw [obk]) (s.moveMark_unlocked_le p)⟩

theorem State.moveEnd_eq : s.moveEnd o e =
    if e ≠ o.endPos ∧ s.obk.endStatus = .unlocked then ((s.endSet o e).moveMark e).endMarkMoved else s.endSet o e := rfl

theorem State.moveEnd_regular : s.Regular (s.moveEnd o e) := by
  have set := s.endSet_regular o e
  rw [State.moveEnd_eq]
  split
  · exact (set.trans (State.moveMark_regular ..)).trans (State.endMarkMoved_steady _).toRegular
  · exact set

theorem State.moveEnd_obk : (s.moveEnd o e).obk = (s.endSet o e).obk := by
  rw [State.moveEnd_eq]
  split
  · exact Eq.trans ((State.endMarkMoved_within _).same .obk (by simp)) ((State.moveMark_within ..).same .obk (by simp))
  · rfl

variable {s o e}

/-- The end of the running order is moved ahead of the line of R26, if it is the one that moves. -/
theorem State.moveEnd_endsAhead (i : s.EndsAhead) (ahead : s.obk.endStatus = .unlocked → s.linePos < e + s.zc + s.dLast) :
    (s.moveEnd o e).EndsAhead := by
  have orders : (s.moveEnd o e).obk = (s.endSet o e).obk := s.moveEnd_obk o e
  refine (s.moveEnd_regular o e).endsAhead (by rw [orders]; exact id) i fun status x mem runs => ?_
  rw [orders] at mem
  obtain ⟨y, there, rfl⟩ := List.mem_map.mp mem
  by_cases same : y.tag = o.tag
  · rw [if_pos same]
    exact .inr (ahead status)
  · rw [if_neg same] at runs ⊢
    exact .inl ⟨y, there, runs, le_rfl⟩

theorem State.moveEnd_marksAhead (i : s.MarksAhead) (ahead : s.obk.endStatus = .unlocked → s.linePos < e + s.zc + s.dLast) :
    (s.moveEnd o e).MarksAhead := by
  have set : (s.endSet o e).MarksAhead := i.same rfl rfl
  rw [State.moveEnd_eq]
  split
  · next moves =>
    have moved : ((s.endSet o e).moveMark e).MarksAhead := set.moveMark e (ahead moves.2)
    have kept := (State.endMarkMoved_within ((s.endSet o e).moveMark e))
    exact moved.congr (State.linePos_of (by rw [kept.lcu])) (State.dLast_of (by rw [kept.lcu])) fun m mem => .inr ⟨m, kept.map_eq ▸ mem, rfl⟩
  · exact set

theorem State.moveEnd_steady (ahead : s.Distances → s.obk.endStatus = .unlocked → s.linePos < e + s.zc + s.dLast) : s.Steady (s.moveEnd o e) :=
  .of_regular (s.moveEnd_regular o e) (fun _ d i => State.moveEnd_endsAhead i (ahead d)) fun _ d i => State.moveEnd_marksAhead i (ahead d)

end Move

/-! ### A deferral (R48) -/

theorem State.endMoved_regular (s : State) (o : Order) : s.Regular (s.endMoved o) :=
  ((s.moveEnd_regular o _).trans (State.onOrder_steady _ _ _).toRegular).trans (State.obk_steady _ _).toRegular

theorem State.endMoved_deferred (s : State) (o : Order) : (s.endMoved o).Steady (s.deferEnd o) := by
  have told : (s.endMoved o).Steady (s.endDeferred o) := (State.setEntry_within _ .setup _).steady.quiet (State.raise_within ..)
  rw [State.deferEnd_eq]
  exact .ite (fun _ => told.trans (State.addHold_steady ..)) fun _ => told

theorem State.deferEnd_regular (s : State) (o : Order) : s.Regular (s.deferEnd o) :=
  (s.endMoved_regular o).trans (s.endMoved_deferred o).toRegular

theorem State.lockLoop_regular : ∀ (n : Nat) (s : State), s.Regular (s.lockLoop n)
  | 0, s => .refl s
  | n + 1, s => by
    unfold State.lockLoop
    split
    · split
      · split
        · exact (s.lockEnd_steady ..).toRegular
        · exact (s.deferEnd_regular _).trans (State.lockLoop_regular n _)
      · exact .refl s
    · exact .refl s

/-! ### The lock test (R47) -/

/-- While the end mark is being deferred: every mark lies ahead but the unlocked one, which stands where the running order ends. -/
def State.Deferring (s : State) : Prop :=
  ∀ m ∈ s.map.marks, ∀ e, m.finish = some e → s.linePos < e + s.dLast ∨
    s.obk.endStatus = .unlocked ∧ m.isUnlockedChange = true ∧ ∃ o ∈ s.obk.orders, o.phase = .running ∧ e = o.endPos + s.zc

section LockTest

variable {s : State} (book : s.BookOk) (distances : s.Distances)
include book distances

/-- An end whose lock point lies beyond LINE is an end ahead. -/
theorem State.endsAhead_of_not_locksNow (h : ∀ o, s.runningOrder = some o → ¬s.locksNow o) : s.EndsAhead := by
  intro status x mem runs
  have slit := distances.slit
  rcases running : s.runningOrder with _ | o
  · exact absurd running (State.runningOrder_isSome_iff.mpr ⟨x, mem, runs⟩)
  · rw [book.runningOrder_of running mem runs]
    have beyond : ¬o.endPos + s.dSlit ≤ s.linePos + s.obk.lockMargin := fun reached => h o running ⟨status, reached⟩
    omega

omit book distances in
theorem State.Deferring.marksAhead (i : s.Deferring) (ends : s.EndsAhead) : s.MarksAhead := by
  intro m mem e finish
  rcases i m mem e finish with ahead | ⟨status, -, o, there, runs, rfl⟩
  · exact ahead
  · exact ends status o there runs

omit distances in
/-- A deferral: its new mark is the unlocked one, and the running order ends at its start. -/
theorem State.deferEnd_deferring {o : Order} (running : s.runningOrder = some o) (unlocked : s.obk.endStatus = .unlocked)
    (step : 0 < s.obk.deferStep) (i : s.Deferring) : (s.deferEnd o).Deferring := by
  obtain ⟨obk, -⟩ := State.deferEnd_spec unlocked step (o := o)
  have regular := s.deferEnd_regular o
  have noticed : (s.endMoved o).Within [.lsv] (s.endDeferred o) := (State.setEntry_within _ .setup _).step (State.raise_within ..) (by simp)
  have map : (s.deferEnd o).map = ((s.endSet o (o.endPos + s.obk.deferStep)).moveMark (o.endPos + s.obk.deferStep)).map := by
    rw [(s.deferEnd_after o).1.map_eq, noticed.map_eq, show (s.endMoved o).map = (s.moveEnd o _).map from rfl,
      State.moveEnd_deferred unlocked step, (State.endMarkMoved_within _).map_eq]
    rfl
  intro m mem e finish
  rw [regular.linePos, regular.dLast, regular.zc, obk]
  rw [map] at mem
  rcases State.mem_moveMark (s := s.endSet o _) book.unlocked mem with ⟨here, other⟩ | ⟨ends, is⟩
  · refine .inl ((i m here e finish).resolve_right fun stands => ?_)
    rw [other] at stands
    cases stands.2.1
  · refine .inr ⟨unlocked, is, _, List.mem_map_of_mem (State.orderIn_mem running).1, ?_, ?_⟩
    · rw [State.deferredOrder_phase]
      exact (State.orderIn_mem running).2
    · rw [State.deferredOrder_self]
      exact Option.some.inj (finish.symm.trans ends)

omit book distances in
theorem State.deferEnd_readyOrder {o : Order} (unlocked : s.obk.endStatus = .unlocked) (step : 0 < s.obk.deferStep) (unready : s.readyOrder = none) :
    (s.deferEnd o).readyOrder = none := by
  obtain ⟨obk, -⟩ := State.deferEnd_spec unlocked step (o := o)
  unfold State.readyOrder State.stagedOrder at unready ⊢
  rw [State.orderIn_of_map (s := s) (f := s.deferredOrder o) (by rw [obk]) (s.deferredOrder_phase o)]
  have setup (t : Order) : (s.deferredOrder o t).setup = t.setup := by
    unfold State.deferredOrder
    split <;> rfl
  rw [Option.filter_eq_none_iff] at unready ⊢
  intro x is
  obtain ⟨t, staged, rfl⟩ := Option.map_eq_some_iff.mp is
  rw [setup]
  exact unready t staged

omit book distances in
theorem State.lockTest_ended : ∀ (n : Nat) (s : State), s.BookOk → s.Distances → s.readyOrder = none →
    (∀ o, s.runningOrder = some o → s.linePos + s.obk.lockMargin < o.endPos + n) →
    (s.Deferring → s.lockTest.MarksAhead) ∧ s.lockTest.EndsAhead := by
  intro n
  induction n using Nat.strong_induction_on with
  | _ n ih =>
    intro s book distances unready near
    rcases running : s.runningOrder with _ | o
    · have ends := State.endsAhead_of_not_locksNow book distances fun o is => by
        rw [running] at is
        cases is
      rw [State.lockTest_idle running]
      exact ⟨fun i => i.marksAhead ends, ends⟩
    · by_cases now : s.locksNow o
      · obtain ⟨unlocked, reached⟩ := now
        obtain ⟨obk, -⟩ := State.deferEnd_spec unlocked distances.step (o := o)
        have regular := s.deferEnd_regular o
        have here := near o running
        have step := distances.step
        rw [State.lockTest_defers running ⟨unlocked, reached⟩ unready step]
        have after := ih (n - s.obk.deferStep) (by omega) _ (regular.book book) (regular.distances distances)
          (State.deferEnd_readyOrder unlocked step unready) fun x is => ?near
        case near =>
          have running' : (s.deferEnd o).runningOrder = some (s.deferredOrder o o) := by
            unfold State.runningOrder
            rw [State.orderIn_of_map (s := s) (t := s.deferEnd o) (by rw [obk]) (s.deferredOrder_phase o)]
            exact congrArg (Option.map _) running
          obtain rfl := Option.some.inj (running'.symm.trans is)
          rw [regular.linePos, obk, State.deferredOrder_self]
          dsimp only
          omega
        exact ⟨fun i => after.1 (State.deferEnd_deferring book running unlocked step i), after.2⟩
      · have ends := State.endsAhead_of_not_locksNow book distances fun x is => by
          rw [running] at is
          cases is
          exact now
        rw [State.lockTest_rests running now]
        exact ⟨fun i => i.marksAhead ends, ends⟩

theorem State.lockTest_cases : (∃ o t, s.lockTest = s.lockEnd o t) ∨ s.lockTest = s ∧ s.EndsAhead ∨ s.readyOrder = none := by
  rcases running : s.runningOrder with _ | o
  · refine .inr (.inl ⟨State.lockTest_idle running, State.endsAhead_of_not_locksNow book distances fun o is => ?_⟩)
    rw [running] at is
    cases is
  · by_cases now : s.locksNow o
    · rcases ready : s.readyOrder with _ | t
      · exact .inr (.inr rfl)
      · exact .inl ⟨o, t, State.lockTest_locks running now ready⟩
    · refine .inr (.inl ⟨State.lockTest_rests running now, State.endsAhead_of_not_locksNow book distances fun x is => ?_⟩)
      rw [running] at is
      cases is
      exact now

/-- After the lock test the end of the running order lies ahead, or its mark is locked. -/
theorem State.lockTest_ahead : (s.MarksAhead → s.lockTest.MarksAhead) ∧ s.lockTest.EndsAhead := by
  rcases State.lockTest_cases book distances with ⟨o, t, locks⟩ | ⟨rests, ends⟩ | unready
  · rw [locks]
    refine ⟨(s.lockEnd_steady o t).marks book distances, fun status => ?_⟩
    rw [State.lockEnd_status] at status
    cases status
  · rw [rests]
    exact ⟨id, ends⟩
  · have ended := State.lockTest_ended (s.linePos + s.obk.lockMargin + 1) s book distances unready fun o _ => by omega
    exact ⟨fun i => ended.1 fun m mem e finish => .inl (i m mem e finish), ended.2⟩

end LockTest

theorem State.lockTest_steady (s : State) : s.Steady s.lockTest :=
  .of_regular (s.lockLoop_regular _) (fun b d _ => (State.lockTest_ahead b d).2) fun b d => (State.lockTest_ahead b d).1

end Sys2Proof.Machine
end

section
/-! PROOF. The end mark's insertion, the staging of an order and its coming to run, makeup and the order commands (R41 to R57). -/

namespace Sys2Proof.Machine

/- One theorem at a time: with a thread for each, the stacks of the threads that wait would take the memory. -/
set_option Elab.async false

/-! ### The end mark's insertion (R45) -/

section Insert

variable (s : State) (o : Order) (incoming : Option Nat)

theorem State.insertEndMark_settled : s.Settled (s.insertEndMark o incoming) := by
  have within := s.insertEndMark_within o incoming
  obtain ⟨-, obk⟩ := s.insertEndMark_spec o incoming
  exact within.toTouches.settled (State.zc_of (within.same .dec (by simp))) (State.settings_of (within.same .bnd (by simp))) (by rw [obk])

theorem State.insertEndMark_orders : (s.insertEndMark o incoming).obk.orders = s.obk.orders := by
  obtain ⟨-, obk⟩ := s.insertEndMark_spec o incoming
  rw [obk]

/-- The end mark is stored, its end ahead, or the request is kept. -/
theorem State.insertEndMark_cases :
    ((s.insertEndMark o incoming).map.marks = insertSorted (s.endMark o.tag o.endPos incoming) s.map.marks ∧
      (s.insertEndMark o incoming).obk.endStatus = .unlocked ∧ s.linePos < o.endPos + s.zc + s.dLast) ∨
    (s.insertEndMark o incoming).map.marks = s.map.marks ∧ (s.insertEndMark o incoming).obk.endStatus = .pending := by
  obtain ⟨map, obk⟩ := s.insertEndMark_spec o incoming
  rw [map, obk]
  by_cases stored : (s.insertMark (s.endMark o.tag o.endPos incoming)).2 = .stored
  · exact .inl ⟨State.insertMark_stored stored, if_pos stored, State.insertMark_stored_ahead stored rfl⟩
  · exact .inr ⟨State.insertMark_unstored stored, if_neg stored⟩

variable {s o incoming}

theorem State.insertEndMark_book (book : s.BookOk) (free : s.unlockedMarks = []) (runs : ∃ x ∈ s.obk.orders, x.phase = .running) :
    (s.insertEndMark o incoming).BookOk := by
  have count (m : Mark) : ((insertSorted m s.map.marks).filter (·.isUnlockedChange)).length ≤ 1 := by
    rw [((insertSorted_perm m _).filter _).length_eq, List.filter_cons, show s.map.marks.filter (·.isUnlockedChange) = [] from free]
    split <;> simp
  rcases s.insertEndMark_cases o incoming with ⟨marks, status, -⟩ | ⟨marks, -⟩
  · refine book.remarked (s.insertEndMark_orders o incoming) ?_ fun _ _ => ⟨status, runs⟩
    unfold State.unlockedMarks
    rw [marks]
    exact count _
  · have none_ : (s.insertEndMark o incoming).unlockedMarks = [] := by
      unfold State.unlockedMarks
      rw [marks]
      exact free
    refine book.remarked (s.insertEndMark_orders o incoming) (by simp [none_]) fun m mem => ?_
    rw [none_] at mem
    cases mem

theorem State.insertEndMark_endsAhead (only : ∀ x ∈ s.obk.orders, x.phase = .running → x.endPos = o.endPos) :
    (s.insertEndMark o incoming).EndsAhead := by
  intro status x mem runs
  have settled := s.insertEndMark_settled o incoming
  rw [State.insertEndMark_orders] at mem
  rw [settled.linePos, settled.zc, settled.dLast, only x mem runs]
  rcases s.insertEndMark_cases o incoming with ⟨-, -, ahead⟩ | ⟨-, pending⟩
  · exact ahead
  · rw [pending] at status
    cases status

theorem State.insertEndMark_marksAhead (i : s.MarksAhead) : (s.insertEndMark o incoming).MarksAhead := by
  refine (s.insertEndMark_settled o incoming).marksAhead i fun m mem e finish => ?_
  rcases s.insertEndMark_cases o incoming with ⟨marks, -, ahead⟩ | ⟨marks, -⟩
  · rw [marks] at mem
    rcases mem_insertSorted.mp mem with rfl | old
    · cases finish
      exact .inr ahead
    · exact .inl ⟨m, old, finish⟩
  · exact .inl ⟨m, marks ▸ mem, finish⟩

end Insert

theorem State.retryPending_steady (s : State) : s.Steady s.retryPending := by
  by_cases still : s.obk.endStatus ≠ .pending ∨ s.runningOrder = none
  · rw [State.retryPending_still still]
    exact .refl s
  · obtain ⟨pending, some_⟩ := not_or.mp still
    rw [not_not] at pending
    obtain ⟨o, running⟩ := Option.ne_none_iff_exists'.mp some_
    obtain ⟨there, runs⟩ := State.orderIn_mem running
    rw [State.retryPending_tries pending running]
    generalize max o.endPos s.upstreamLimit = e
    have set := s.endSet_regular o e
    have own (b : s.BookOk) : ∀ x ∈ (s.endSet o e).obk.orders, x.phase = .running → x.endPos = e := by
      intro x mem phase
      obtain ⟨y, here, rfl⟩ := List.mem_map.mp mem
      by_cases same : y.tag = o.tag
      · rw [if_pos same]
      · rw [if_neg same] at phase
        exact absurd (congrArg Order.tag (b.runningOrder_of running here phase)) same
    refine .of_regular ⟨set.toSettled.trans (State.insertEndMark_settled ..), fun b => ?_⟩ (fun b _ _ => State.insertEndMark_endsAhead (own b))
      fun _ _ i => State.insertEndMark_marksAhead (i.same rfl rfl)
    refine State.insertEndMark_book (set.book b) (b.noUnlocked (by rw [pending]; decide)) ⟨_, List.mem_map_of_mem there, ?_⟩
    rw [if_pos rfl]
    exact runs

/-! ### Staging (R42) -/

theorem State.positioned_steady {s : State} {i : SlitId} {q : Order} (staged : s.stagedOrder = none) (queued : s.orderIn .queued = some q) :
    s.Steady (s.positioned i q) := by
  refine State.Steady.trans (t := s.onOrder q.tag fun x => { x with phase := .staged, station := some i, setup := .positioning }) ?_
    (State.onSlit_steady _ i _)
  obtain ⟨there, waits⟩ := State.orderIn_mem queued
  have settled : s.Settled (s.onOrder q.tag fun x => { x with phase := .staged, station := some i, setup := .positioning }) :=
    (State.onOrder_within ..).toTouches.settled rfl (fun _ => rfl) rfl
  have orders : (s.onOrder q.tag fun x => { x with phase := .staged, station := some i, setup := .positioning }).obk.orders =
      s.obk.orders.map (stagedRecord i q) := rfl
  have other {x : Order} (phase : (stagedRecord i q x).phase = .running) : stagedRecord i q x = x := by
    refine stagedRecord_ne fun same => ?_
    unfold stagedRecord at phase
    rw [if_pos same] at phase
    cases phase
  refine .of_regular ⟨settled, fun b => ?_⟩ (fun _ _ e => settled.endsAhead id e fun _ x mem runs => .inl ?_) fun _ _ i => i.same rfl rfl
  · refine b.mapped orders (fun x _ => stagedRecord_tag i q x) (b.oneRunning.mapped orders (fun x _ => stagedRecord_tag i q x) fun x _ runs =>
      other runs ▸ runs) (.single q.tag fun x mem phase => ?_) b.unlocked fun m mem => ?_
    · rw [orders] at mem
      obtain ⟨y, here, rfl⟩ := List.mem_map.mp mem
      by_contra apart
      rw [stagedRecord_tag] at apart
      rw [stagedRecord_ne apart] at phase
      exact List.find?_eq_none.mp staged y here (by simpa using phase)
    · obtain ⟨status, x, here, runs⟩ := b.ownedMarks mem
      refine ⟨status, x, ?_, runs⟩
      rw [orders, List.mem_map]
      refine ⟨x, here, stagedRecord_ne fun same => ?_⟩
      rw [State.order_of_tag b.tags here there same, waits] at runs
      cases runs
  · rw [orders] at mem
    obtain ⟨y, here, rfl⟩ := List.mem_map.mp mem
    exact ⟨y, here, other runs ▸ runs, (congrArg Order.endPos (other runs)).ge⟩

theorem State.applyStaging_steady (s : State) : s.Steady s.applyStaging := by
  rcases s.applyStaging_cases with same | ⟨i, q, staged, -, queued, stages⟩
  · rw [same]
    exact .refl s
  · rw [stages]
    exact ((State.positioned_steady staged queued).trans (State.setEndIncoming_steady ..)).quiet (State.raise_within ..)

/-! ### Becoming RUNNING (R49, R51) -/

/-- The staged order can come to run: no order runs, and no end mark is placed. -/
structure State.Startable (s : State) (t : Order) : Prop where
  book : s.BookOk
  idle : ∀ x ∈ s.obk.orders, x.phase ≠ .running
  free : s.unlockedMarks = []
  mem : t ∈ s.obk.orders

theorem State.Startable.of_same {s u : State} {t : Order} (h : s.Startable t) (orders : u.obk.orders = s.obk.orders)
    (marks : u.map.marks = s.map.marks) : u.Startable t := by
  have free : u.unlockedMarks = [] := by
    unfold State.unlockedMarks
    rw [marks]
    exact h.free
  refine ⟨h.book.remarked orders (by simp [free]) fun m mem => ?_, by rw [orders]; exact h.idle, free, by rw [orders]; exact h.mem⟩
  rw [free] at mem
  cases mem

/-- The record of the order that comes to run in the book, with its required cuts handed to the lanes. -/
def State.runBegun (s : State) (t : Order) (start : Nat) : State := (s.onOrder t.tag fun _ => t.started start).handCuts (t.started start)

/-- The rest of the work when an order comes to run. -/
def State.runAnnounced (s : State) (t : Order) (start : Nat) : State :=
  (s.nameGrades.raise .orderStarted (orderSubject t.tag) (natBytes 6 start)).applyStaging

theorem State.startOrder_eq (s : State) (t : Order) (start : Nat) :
    s.startOrder t start = ((s.runBegun t start).insertEndMark (t.started start) none).runAnnounced t start := rfl

theorem State.runAnnounced_steady (s : State) (t : Order) (start : Nat) : s.Steady (s.runAnnounced t start) :=
  (s.nameGrades_steady.quiet (State.raise_within ..)).trans (State.applyStaging_steady _)

theorem State.runBegun_settled (s : State) (t : Order) (start : Nat) : s.Settled (s.runBegun t start) :=
  .trans (t := s.onOrder t.tag fun _ => t.started start) ((State.onOrder_within ..).toTouches.settled rfl (fun _ => rfl) rfl)
    (State.handCuts_steady ..).toSettled

theorem State.runBegun_rest (s : State) (t : Order) (start : Nat) :
    (s.runBegun t start).obk.orders = (s.obk.orders.map fun x => if x.tag = t.tag then t.started start else x) ∧
      (s.runBegun t start).map = s.map ∧ (s.runBegun t start).lcu = s.lcu := by
  unfold State.runBegun
  rw [State.handCuts_rest]
  exact ⟨rfl, rfl, rfl⟩

theorem State.startOrder_settled (s : State) (t : Order) (start : Nat) : s.Settled (s.startOrder t start) :=
  ((s.runBegun_settled t start).trans (State.insertEndMark_settled ..)).trans (State.runAnnounced_steady ..).toSettled

namespace State.Startable

variable {s : State} {t : Order} (h : s.Startable t) (start : Nat)
include h

theorem running {x : Order} (mem : x ∈ (s.runBegun t start).obk.orders) (phase : x.phase = .running) : x = t.started start := by
  rw [(s.runBegun_rest t start).1] at mem
  obtain ⟨y, here, rfl⟩ := List.mem_map.mp mem
  by_cases same : y.tag = t.tag
  · exact if_pos same
  · rw [if_neg same] at phase
    exact absurd phase (h.idle y here)

theorem runBegun : (s.runBegun t start).BookOk ∧ (s.runBegun t start).unlockedMarks = [] ∧
    ∃ x ∈ (s.runBegun t start).obk.orders, x.phase = .running := by
  obtain ⟨orders, map, -⟩ := s.runBegun_rest t start
  have free : (s.runBegun t start).unlockedMarks = [] := by
    unfold State.unlockedMarks
    rw [map]
    exact h.free
  refine ⟨?_, free, t.started start, ?_, rfl⟩
  · have tags (x : Order) : (if x.tag = t.tag then t.started start else x).tag = x.tag := by
      split
      · next same => exact same.symm
      · rfl
    refine h.book.mapped orders (fun x _ => tags x) (.single t.tag fun x mem runs => (congrArg Order.tag (h.running start mem runs) :))
      (h.book.oneStaged.mapped orders (fun x _ => tags x) fun x _ phase => ?_) (by simp [free]) fun m mem => ?_
    · split at phase
      · cases phase
      · exact phase
    · rw [free] at mem
      cases mem
  · rw [orders, List.mem_map]
    exact ⟨t, h.mem, if_pos rfl⟩

theorem inserted_book : ((s.runBegun t start).insertEndMark (t.started start) none).BookOk := by
  obtain ⟨book, free, runs⟩ := h.runBegun start
  exact State.insertEndMark_book book free runs

/-- An order comes to run: the laws of the book are kept, and its end lies ahead. -/
theorem startOrder_book : (s.startOrder t start).BookOk := (State.runAnnounced_steady ..).book (h.inserted_book start)

theorem startOrder_endsAhead (d : s.Distances) : (s.startOrder t start).EndsAhead := by
  have distances := ((s.runBegun_settled t start).trans (State.insertEndMark_settled _ (t.started start) none)).distances d
  exact (State.runAnnounced_steady ..).ends (h.inserted_book start) distances (State.insertEndMark_endsAhead fun x mem runs =>
    congrArg Order.endPos (h.running start mem runs))

theorem startOrder_marksAhead (d : s.Distances) (i : s.MarksAhead) : (s.startOrder t start).MarksAhead := by
  have distances := ((s.runBegun_settled t start).trans (State.insertEndMark_settled _ (t.started start) none)).distances d
  obtain ⟨-, map, lcu⟩ := s.runBegun_rest t start
  exact (State.runAnnounced_steady ..).marks (h.inserted_book start) distances (State.insertEndMark_marksAhead (i.same lcu (congrArg (·.marks) map)))

end State.Startable

/-- Work that ends with the coming of an order. -/
theorem State.Settled.starts {s u : State} {t : Order} {start : Nat} (h : s.Settled u) (startable : s.BookOk → u.Startable t)
    (marks : s.MarksAhead → u.MarksAhead) : s.Steady (u.startOrder t start) :=
  .of_regular ⟨h.trans (u.startOrder_settled t start), fun b => (startable b).startOrder_book start⟩
    (fun b d _ => (startable b).startOrder_endsAhead start (h.distances d))
    fun b d i => (startable b).startOrder_marksAhead start (h.distances d) (marks i)

theorem State.swapTest_steady (s : State) : s.Steady s.swapTest := by
  unfold State.swapTest
  split
  · next o t running staged =>
    refine .ite (fun due => ?_) fun _ => .refl s
    refine .trans ?_ (State.doneTest_steady ..)
    obtain ⟨there, runs⟩ := State.orderIn_mem running
    obtain ⟨here, waits⟩ := State.orderIn_mem staged
    have rest := s.stationsSwapped_rest t
    have orders : ((s.stationsSwapped t).onOrder o.tag fun x => { x with phase := .draining, station := none }).obk.orders =
        s.obk.orders.map fun x => if x.tag = o.tag then { x with phase := .draining, station := none } else x := by
      rw [rest]
      rfl
    have map : ((s.stationsSwapped t).onOrder o.tag fun x => { x with phase := .draining, station := none }).map = s.map := by
      rw [rest]
      rfl
    have lcu : ((s.stationsSwapped t).onOrder o.tag fun x => { x with phase := .draining, station := none }).lcu = s.lcu := by
      rw [rest]
      rfl
    have settled : s.Settled ((s.stationsSwapped t).onOrder o.tag fun x => { x with phase := .draining, station := none }) :=
      (s.stationsSwapped_steady t).toSettled.trans ((State.onOrder_within ..).toTouches.settled rfl (fun _ => rfl) rfl)
    refine settled.starts (fun b => ?_) fun i => i.same lcu (by rw [map])
    generalize (s.stationsSwapped t).onOrder o.tag (fun x => { x with phase := .draining, station := none }) = u at orders map
    have tags (x : Order) : (if x.tag = o.tag then { x with phase := .draining, station := none } else x).tag = x.tag := by
      split <;> rfl
    have idle : ∀ x ∈ u.obk.orders, x.phase ≠ .running := by
      intro x mem phase
      rw [orders] at mem
      obtain ⟨y, old, rfl⟩ := List.mem_map.mp mem
      split at phase
      · cases phase
      · next other => exact other (congrArg Order.tag (b.runningOrder_of running old phase))
    have free : u.unlockedMarks = [] := by
      unfold State.unlockedMarks
      rw [map]
      exact b.noUnlocked (by rw [due.1]; decide)
    refine ⟨b.mapped orders (fun x _ => tags x) (.single 0 fun x mem phase => absurd phase (idle x mem))
      (b.oneStaged.mapped orders (fun x _ => tags x) fun x _ phase => ?_) (by simp [free]) fun m mem => ?_, idle, free, ?_⟩
    · split at phase
      · cases phase
      · exact phase
    · rw [free] at mem
      cases mem
    · rw [orders, List.mem_map]
      refine ⟨t, here, if_neg fun same => ?_⟩
      rw [State.order_of_tag b.tags here there same, runs] at waits
      cases waits
  · exact .refl s

/-- The lanes and the station as an order comes to run first (R51). -/
def State.lanesBegun (s : State) (t : Order) : State :=
  let s1 :=
    match t.station with
    | some i => s.engageStation i
    | none => s
  (s1.beginLane t (s.linePos + s.zc) 0).beginLane t (s.linePos + s.zc) 1

theorem State.lanesBegun_spec (s : State) (t : Order) : s.Steady (s.lanesBegun t) ∧ s.Within [.dec, .lsv] (s.lanesBegun t) := by
  have begun (u : State) (e : Nat) : u.Steady ((u.beginLane t e 0).beginLane t e 1) ∧ u.Within [.dec, .lsv] ((u.beginLane t e 0).beginLane t e 1) :=
    ⟨(u.beginLane_steady ..).trans (State.beginLane_steady ..), (u.beginLane_within ..).trans (State.beginLane_within ..)⟩
  unfold State.lanesBegun
  dsimp only
  split
  · exact ⟨(s.engageStation_steady _).trans (begun _ _).1, .trans ((s.engageStation_within _).mono (by simp)) (begun _ _).2⟩
  · exact begun ..

theorem State.firstStart_steady {s : State} (idle : s.runningOrder = none) : s.Steady s.firstStart := by
  unfold State.firstStart
  split
  · next t staged =>
    obtain ⟨steady, within⟩ := s.lanesBegun_spec t
    have obk : (s.lanesBegun t).obk = s.obk := within.same .obk (by simp)
    have map : (s.lanesBegun t).map = s.map := within.same .map (by simp)
    have startable (b : s.BookOk) : s.Startable t :=
      ⟨b, fun x mem runs => State.runningOrder_isSome_iff.mpr ⟨x, mem, runs⟩ idle, b.noUnlocked_of_idle idle, (State.orderIn_mem staged).1⟩
    exact steady.toSettled.starts (fun b => (startable b).of_same (by rw [obk]) (by rw [map])) fun i =>
      i.congr steady.linePos steady.dLast fun m mem => .inr ⟨m, map ▸ mem, rfl⟩
  · exact .refl s

/-! ### Makeup (R52, R53) -/

/-- The record of an order with one more makeup cut. -/
def Order.madeUp (o : Order) (j : LaneId) : Order := { o with runs := modifyAt o.runs j fun x => { x with makeup := x.makeup + 1 } }

/-- A granted makeup, `r` being the order's record with it. -/
def State.makeupGranted (s : State) (tag : Nat) (r : Order) (j : LaneId) : State :=
  let s1 := (s.onOrder tag fun _ => r).handLane r j
  if r.endPos < r.start + r.runLength then s1.moveEnd r (r.start + r.runLength) else s1

theorem State.makeupGranted_orderly {s : State} {tag : Nat} {o r : Order} (found : s.findOrder tag = some o) (runs : o.phase = .running)
    (same : r.standing = o.standing) (ends : r.endPos = o.endPos) (j : LaneId) : s.Orderly (s.makeupGranted tag r j) := by
  have made : s.Steady ((s.onOrder tag fun _ => r).handLane r j) := (State.replaced_steady found same ends).trans (State.handLane_steady ..)
  refine .ite (fun later => ?_) fun _ => made.toOrderly
  have status : ((s.onOrder tag fun _ => r).handLane r j).obk.endStatus = s.obk.endStatus := by
    rw [State.handLane_rest]
    rfl
  have there := List.mem_of_find?_eq_some found
  generalize (s.onOrder tag fun _ => r).handLane r j = u at made status
  have ahead (e : s.EndsAhead) (unlocked : u.obk.endStatus = .unlocked) : u.linePos < r.start + r.runLength + u.zc + u.dLast := by
    have far := e (status.symm.trans unlocked) o there runs
    rw [made.linePos, made.zc, made.dLast]
    omega
  exact ⟨made.toRegular.trans (State.moveEnd_regular ..), fun b d e => State.moveEnd_endsAhead (made.ends b d e) (ahead e), fun b d e i =>
    State.moveEnd_marksAhead (made.marks b d i) (ahead e)⟩

theorem State.makeupRequest_orderly (s : State) (tag : Nat) (j : LaneId) : s.Orderly (s.makeupRequest tag j) := by
  have strayed : s.Steady { s with obk := { s.obk with stray := countUp 65535 s.obk.stray } } := s.obk_steady _
  unfold State.makeupRequest
  split
  · next o found =>
    split
    · refine .ite (fun grants => ?_) fun _ => (s.onRun_steady ..).toOrderly
      unfold State.grantsMakeup at grants
      simp only [Bool.and_eq_true, decide_eq_true_eq] at grants
      obtain ⟨⟨⟨runs, -⟩, -⟩, -⟩ := grants
      exact State.makeupGranted_orderly (r := o.madeUp j) found runs rfl rfl j
    · exact strayed.toOrderly
  · exact strayed.toOrderly

/-! ### Orders entered, amended and cancelled (R40, R54 to R56, R58) -/

/-- The upstream limit lies ahead of the line of R26. -/
theorem State.upstreamLimit_ahead {s : State} (d : s.Distances) {e : Nat} (h : s.upstreamLimit ≤ e) : s.linePos < e + s.zc + s.dLast := by
  have slit := d.slit
  unfold State.upstreamLimit at h
  omega

theorem State.enterOrder_steady {s : State} {o : Order} (room : s.obk.orders.length < Config.bookCapacity) (fresh : s.findOrder o.tag = none)
    (queued : o.phase = .queued) : s.Steady (s.enterOrder o) := by
  refine .trans (t := { s with obk := { s.obk with orders := s.obk.orders ++ [o] } }) (s.obk_members _ (fun b => ⟨?_, ?_⟩) (fun x mem => ?_)
    fun _ x mem _ => List.mem_append_left _ mem) (State.applyStaging_steady _)
  · rw [List.length_append]
    exact room
  · rw [List.map_append, List.nodup_append]
    refine ⟨b.tags, by simp, fun a mem c is => ?_⟩
    obtain ⟨x, there, rfl⟩ := List.mem_map.mp mem
    rw [List.mem_singleton.mp is]
    exact fun same => List.find?_eq_none.mp fresh x there (by simpa using same)
  · rcases List.mem_append.mp mem with old | new
    · exact .inl old
    · rw [List.mem_singleton.mp new, queued]
      exact .inr ⟨by decide, by decide⟩

theorem State.amendRunning_steady {s : State} {o : Order} (found : s.findOrder o.tag = some o) (j : LaneId) (target : Nat) :
    s.Steady (s.amendRunning o j target).1 := by
  unfold State.amendRunning
  dsimp only
  generalize hr : ({ o.retarget j target with
    cutShort := o.cutShort || decide ((o.retarget j target).start + (o.retarget j target).runLength < s.upstreamLimit) } : Order) = r
  have retargeted : (o.retarget j target).standing = o.standing ∧ (o.retarget j target).endPos = o.endPos := by
    unfold Order.retarget
    split <;> exact ⟨rfl, rfl⟩
  have set : s.Steady ((s.onOrder o.tag fun _ => r).handCuts r) :=
    (State.replaced_steady found (hr ▸ retargeted.1) (hr ▸ retargeted.2)).trans (State.handCuts_steady ..)
  refine set.trans (State.moveEnd_steady fun d _ => State.upstreamLimit_ahead d ?_)
  unfold State.upstreamLimit
  rw [set.linePos, set.dSlit, show ((s.onOrder o.tag fun _ => r).handCuts r).obk.lockMargin = s.obk.lockMargin by rw [State.handCuts_rest]; rfl]
  exact le_max_right ..

theorem State.cancelRunning_steady {s : State} {o : Order} (found : s.findOrder o.tag = some o) : s.Steady (s.cancelRunning o).1 := by
  unfold State.cancelRunning
  have set : s.Steady (s.onOrder o.tag fun _ => { o with cancelled := true, cutShort := true }) := State.replaced_steady found rfl rfl
  refine set.trans (State.moveEnd_steady fun d _ => State.upstreamLimit_ahead d ?_)
  exact le_max_right ..

theorem State.findOrder_tag {s : State} {tag : Nat} {o : Order} (found : s.findOrder tag = some o) : o.tag = tag := by
  simpa using List.find?_some found

theorem State.amendOrder_steady {s : State} {tag : Nat} {o : Order} (found : s.findOrder tag = some o) (j : LaneId) (target : Nat) :
    s.Steady (s.amendOrder o j target).1 := by
  obtain rfl := State.findOrder_tag found
  have retargeted : s.Steady (s.onOrder o.tag fun _ => o.retarget j target) := by
    refine State.replaced_steady found ?_ ?_
    · unfold Order.retarget
      split <;> rfl
    · unfold Order.retarget
      split <;> rfl
  unfold State.amendOrder
  split
  · exact retargeted
  · exact retargeted
  · split
    · exact State.amendRunning_steady found j target
    · exact .refl s
  · exact .refl s
  · exact .refl s

theorem State.cancelStaged_steady {s : State} {o : Order} (found : s.findOrder o.tag = some o) (staged : o.phase = .staged) :
    s.Steady (s.cancelStaged o) := by
  have cancelled (u : State) (h : s.Steady u) (obk : u.obk = s.obk) : s.Steady (((u.dropOrder o.tag).setEndIncoming none).applyStaging) := by
    have found' : u.findOrder o.tag = some o := by
      unfold State.findOrder
      rw [obk]
      exact found
    exact ((h.trans (State.dropOrder_steady found' (by rw [staged]; decide))).trans (State.setEndIncoming_steady ..)).trans
      (State.applyStaging_steady _)
  unfold State.cancelStaged
  dsimp only
  split
  · exact cancelled _ (s.cancelStation_steady _) ((s.cancelStation_within _).same .obk (by simp))
  · exact cancelled s (.refl s) rfl

theorem State.addOrder_steady (s : State) (o : OrderSpec) : s.Steady (s.addOrder o).1 := by
  have taken (fresh : s.findOrder o.tag = none) (a : LaneSpec) (b : Option LaneSpec) : s.Steady (s.admitOrder o a b).1 := by
    unfold State.admitOrder
    dsimp only
    split
    · exact .refl s
    · split
      · exact .refl s
      · split
        · exact .refl s
        · next room => exact State.enterOrder_steady (not_le.mp room) fresh rfl
  unfold State.addOrder
  split
  · exact .refl s
  · split
    · exact .refl s
    · split
      · exact .refl s
      · next fresh =>
        rw [Option.not_isSome_iff_eq_none] at fresh
        split
        · exact .refl s
        · exact taken fresh _ _
        · exact taken fresh _ _
        · exact .refl s

theorem State.amendTarget_steady (s : State) (order lane target : Nat) : s.Steady (s.amendTarget order lane target).1 := by
  unfold State.amendTarget
  split
  · exact .refl s
  · split
    · next found _ =>
      split
      · exact .refl s
      · split
        · exact .refl s
        · exact State.amendOrder_steady found _ target
    · exact .refl s

theorem State.cancelOrder_steady (s : State) (order : Nat) : s.Steady (s.cancelOrder order).1 := by
  unfold State.cancelOrder
  split
  · exact .refl s
  · split
    · exact .refl s
    · next o found =>
      have is := State.findOrder_tag found
      split
      · next queued => exact State.dropOrder_steady found (by rw [queued]; decide)
      · next staged =>
        split
        · exact .refl s
        · exact State.cancelStaged_steady (by rw [is]; exact found) staged
      · split
        · exact State.cancelRunning_steady (by rw [is]; exact found)
        · exact .refl s
      · exact .refl s
      · exact .refl s

theorem State.collectOrder_steady (s : State) (order : Nat) : s.Steady (s.collectOrder order).1 := by
  unfold State.collectOrder
  split
  · exact .refl s
  · next o found =>
    split
    · next done => exact State.dropOrder_steady found (by rw [done]; decide)
    · exact .refl s

end Sys2Proof.Machine
end

section
/-! PROOF. The stacker's and the cut-off lanes' work: it keeps the tallies of the book and asks it for makeup (R122 to R146). -/

namespace Sys2Proof.Machine

/- One theorem at a time: with a thread for each, the stacks of the threads that wait would take the memory. -/
set_option Elab.async false

/-! ### The stackers (R137 to R146) -/

theorem State.onStacker_steady (s : State) (j : StackerId) (f : Stacker → Stacker) : s.Steady (s.onStacker j f) := (s.onStacker_within j f).steady

theorem State.offerStep_steady (s : State) (j : StackerId) (isPartial : Bool) : s.Steady (s.offerStep j isPartial) :=
  (s.offerStep_within j isPartial).steady

theorem State.completionTest_steady (s : State) (tag : Nat) (j : LaneId) : s.Steady (s.completionTest tag j) := by
  unfold State.completionTest
  split
  · exact .ite (fun _ => (s.onTally_steady tag j _).trans (State.completionReport_steady ..)) fun _ => .refl s
  · exact .refl s

theorem State.drainTest_steady (s : State) (tag : Nat) (j : LaneId) : s.Steady (s.drainTest tag j) := by
  unfold State.drainTest
  split
  · exact .ite (fun _ => ((s.onTally_steady tag j _).trans (.ite (fun _ => State.offerStep_steady ..) fun _ => .refl _)).trans
      (State.completionTest_steady ..)) fun _ => .refl s
  · exact .refl s

theorem State.laneEndReport_steady (s : State) (tag : Nat) (j : LaneId) : s.Steady (s.laneEndReport tag j) :=
  (s.onTally_steady tag j _).trans (State.drainTest_steady ..)

theorem State.countStacked_steady (s : State) (tag : Nat) (j : StackerId) : s.Steady (s.countStacked tag j) := s.onTally_steady tag j _

theorem State.holdLayer_steady (s : State) (tag : Nat) (j : StackerId) : s.Steady (s.holdLayer tag j) := (s.holdLayer_within tag j).steady

theorem State.loseLayer_steady (s : State) (tag : Nat) (j : StackerId) : s.Steady (s.loseLayer tag j) :=
  (((s.onTally_steady tag j _).trans (State.stopCause_steady ..)).quiet (State.raiseStacker_within ..)).trans (State.completionTest_steady ..)

theorem State.stackLayer_steady (s : State) (tag count : Nat) (j : StackerId) : s.Steady (s.stackLayer tag count j) :=
  ((s.onStacker_steady j _).trans (State.countStacked_steady ..)).trans (.ite (fun _ => State.offerStep_steady ..) fun _ => .refl _)

theorem State.takeLayer_steady (s : State) (tag : Nat) (j : StackerId) : s.Steady (s.takeLayer tag j) := by
  have held := (s.holdLayer_steady tag j).trans (State.countStacked_steady _ tag j)
  unfold State.takeLayer
  dsimp only
  split
  · split
    · exact s.stackLayer_steady ..
    · exact .ite (fun _ => s.stackLayer_steady ..) fun _ => held.trans (State.offerStep_steady ..)
  · exact .ite (fun _ => held) fun _ => s.loseLayer_steady tag j

theorem State.refillStack_steady (s : State) (j : StackerId) : s.Steady (s.refillStack j) := (s.refillStack_within j).steady

theorem State.evalStacker_steady (s : State) : s.Steady s.evalStacker := s.evalStacker_within.steady

theorem State.completeEject_steady (s : State) (j : StackerId) : s.Steady (s.completeEject j) := by
  have counted : s.Steady (s.onEye j fun e => { e with count := 0 }) := (s.onEye_within j _).steady
  have refilled (t : State) : t.Steady (t.refillStack j).evalStacker := (t.refillStack_steady j).trans (State.evalStacker_steady _)
  unfold State.completeEject
  dsimp only
  split
  · exact counted.trans (refilled _)
  · refine .trans (.trans (.quiet ?_ (State.raise_within ..)) (refilled _)) (State.completionTest_steady ..)
    have made (tag : Nat) (f : Tally → Tally) (g : Stacker → Stacker) :
        s.Steady (((s.onEye j fun e => { e with count := 0 }).onTally tag j f).onStacker j g) :=
      (counted.trans (State.onTally_steady ..)).trans (State.onStacker_steady ..)
    split
    · exact (made ..).quiet (State.raise_within ..)
    · exact made ..

/-! ### The gates and deliveries (R134 to R136) -/

theorem State.leaveQueue_steady (s : State) (tag : Nat) (j : LaneId) : s.Steady (s.leaveQueue tag j) := s.onTally_steady tag j _

theorem State.setGateHead_steady (s : State) (j : LaneId) : s.Steady (s.setGateHead j) := (s.setGateHead_within j).steady

theorem State.divert_steady (s : State) (p : Piece) (j : LaneId) : s.Steady (s.divert p j) :=
  .ite (fun _ => (s.stk_within _).steady) fun _ => ((s.onTally_steady p.tag j _).trans (State.leaveQueue_steady ..)).trans (State.drainTest_steady ..)

theorem State.judgeGate_steady (j : LaneId) : ∀ (n : Nat) (s : State), s.Steady (State.judgeGate j n s)
  | 0, s => .refl s
  | n + 1, s => by
    unfold State.judgeGate
    split
    · exact .refl s
    · refine .ite (fun _ => ?_) fun _ => .refl s
      exact (((s.onQueue_steady j _).trans (State.setGateHead_steady ..)).trans (.ite (fun _ => .refl _) fun _ => State.divert_steady ..)).trans
        (State.judgeGate_steady j n _)

theorem State.deliver_steady (j : LaneId) : ∀ (n : Nat) (s : State), s.Steady (State.deliver j n s)
  | 0, s => .refl s
  | n + 1, s => by
    unfold State.deliver
    split
    · exact .refl s
    · refine .ite (fun _ => ?_) fun _ => .refl s
      exact ((((s.onQueue_steady j _).trans (State.leaveQueue_steady ..)).trans (State.takeLayer_steady ..)).trans (State.drainTest_steady ..)).trans
        (State.deliver_steady j n _)

theorem State.stackAdvance_steady (s : State) : s.Steady s.stackAdvance :=
  (State.Steady.forAll fun t j => State.judgeGate_steady j _ t).trans (.forAll fun t j => State.deliver_steady j _ t)

theorem State.appendPiece_steady (s : State) (p : Piece) (j : LaneId) : s.Steady (s.appendPiece p j) :=
  ((s.onQueue_steady j _).trans (State.setGateHead_steady ..)).trans (.ite (fun _ => .refl _) fun _ => State.onTally_steady ..)

/-! ### Cut events (R122 to R131) -/

theorem State.closePiece_orderly (s : State) (j : LaneId) (n : Nat) (kind : CutKind) : s.Orderly (s.closePiece j n kind) := by
  unfold State.closePiece
  dsimp only
  split
  · exact .refl s
  · split
    · exact ((s.onLane_steady j _).trans (State.appendPiece_steady ..)).toOrderly
    · exact ((s.onLane_steady j _).trans (State.appendPiece_steady ..)).toOrderly.trans
        (.ite (fun _ => State.makeupRequest_orderly ..) fun _ => .refl _)

theorem State.enterChange_steady (s : State) (j : LaneId) (c : NextCut) (b : Nat) : s.Steady (s.enterChange j c b) := by
  unfold State.enterChange
  split
  · refine .ite (fun _ => ?_) fun _ => .refl s
    dsimp only
    split
    · exact ((s.onLane_steady j _).trans (State.onLane_steady ..)).trans (State.laneEndReport_steady ..)
    · exact s.onLane_steady j _
  · exact .refl s

theorem State.leaveZone_steady (s : State) (j : LaneId) (b : Nat) : s.Steady (s.leaveZone j b) := by
  unfold State.leaveZone
  dsimp only
  split
  · refine .ite (fun _ => ?_) fun _ => .refl s
    split <;> exact s.onLane_steady j _
  · exact .refl s

theorem State.modeChanges_steady (s : State) (j : LaneId) (c : NextCut) : s.Steady (s.modeChanges j c) :=
  ((s.enterChange_steady j c _).trans (State.leaveZone_steady ..)).trans (State.evalLaneClaim_steady ..)

theorem State.fireKnife_orderly (s : State) (j : LaneId) (c : NextCut) : s.Orderly (s.fireKnife j c) :=
  (((s.onLane_steady j _).toOrderly.trans (State.closePiece_orderly ..)).trans (State.onLane_steady ..).toOrderly).trans
    ((State.modeChanges_steady ..).trans (State.onLane_steady ..)).toOrderly

theorem State.skipCut_steady (s : State) (j : LaneId) (c : NextCut) : s.Steady (s.skipCut j c) :=
  (((s.onLane_steady j _).quiet (State.raise_within ..)).trans (.ite (fun _ => State.stopCause_steady ..) fun _ => .refl _)).trans
    (State.modeChanges_steady ..)

theorem State.resumeLane_steady (s : State) (j : LaneId) (r : Nat) : s.Steady (s.resumeLane j r) := by
  unfold State.resumeLane
  split
  · refine .ite (fun _ => ?_) fun _ => .refl s
    dsimp only
    split
    · exact (s.onLane_steady j _).trans (State.evalLaneClaim_steady ..)
    · exact s.onLane_steady j _
  · exact .refl s

theorem State.laneAdvance_orderly (s : State) (j : LaneId) : s.Orderly (s.laneAdvance j) := by
  unfold State.laneAdvance
  split
  · exact .ite (fun _ => .ite (fun _ => (s.skipCut_steady j _).toOrderly) fun _ => s.fireKnife_orderly j _) fun _ => .refl s
  · split
    · exact (s.resumeLane_steady j _).toOrderly
    · exact .refl s

theorem State.dryEndAdvance_orderly (s : State) : s.Orderly s.dryEndAdvance := (s.laneAdvance_orderly 0).trans (State.laneAdvance_orderly ..)

end Sys2Proof.Machine
end

section
/-! PROOF. The splice stations' work: a joint goes to its web's bridge list, or to the map (R29, R30, R66 to R75). -/

namespace Sys2Proof.Machine

/- One theorem at a time: with a thread for each, the stacks of the threads that wait would take the memory. -/
set_option Elab.async false

/-! ### Joints (R29, R30) -/

/-- Work on the map that leaves its marks. -/
theorem State.Within.steady_lists {s t : State} (h : s.Within [.map] t) (marks : t.map.marks = s.map.marks) : s.Steady t := by
  have lcu : t.lcu = s.lcu := h.same .lcu (by simp)
  refine h.steady_map ?_ fun _ i => i.same lcu marks
  unfold State.unlockedMarks
  rw [marks]

theorem State.transferEntry_steady (s : State) (x : Nat) (b : BridgeEntry) : s.Steady (s.transferEntry x b).1 :=
  s.insertMark_steady _ fun e ends => by
    cases ends
    dsimp only
    omega

theorem State.bridgeJoint_steady (s : State) (k : WebId) (b : BridgeEntry) : s.Steady (s.bridgeJoint k b) := by
  by_cases due : b.e ≤ s.mergeCoord k
  · unfold State.bridgeJoint
    rw [if_pos due]
    exact s.transferEntry_steady ..
  · refine (s.bridgeJoint_within k b).steady_lists ?_
    unfold State.bridgeJoint
    rw [if_neg due]
    split
    · rfl
    · exact s.lowerRa_marks _

theorem State.handJoint_steady (s : State) (i : SpliceId) (r : JointRecord) : s.Steady (s.handJoint i r) := by
  unfold State.handJoint State.placeJoint
  split
  · exact s.bridgeJoint_steady ..
  · exact s.insertMark_steady _ fun e ends => by
      cases ends
      dsimp only
      omega

/-! ### The stations (R66 to R75) -/

theorem State.onSplice_steady (s : State) (i : SpliceId) (f : SpliceStation → SpliceStation) : s.Steady (s.onSplice i f) :=
  (s.onSplice_within i f).steady

theorem State.enterSplice_steady (s : State) (i : SpliceId) (p : SplicePhase) : s.Steady (s.enterSplice i p) := (s.enterSplice_within i p).steady

theorem State.reelOutTest_steady (s : State) (i : SpliceId) : s.Steady (s.reelOutTest i) := by
  unfold State.reelOutTest
  split
  · exact .ite (fun _ => ((s.onSplice_steady i _).trans (State.stopCause_steady ..)).quiet (State.raise_within ..)) fun _ => .refl s
  · exact .refl s

theorem State.reelLowTest_steady (s : State) (i : SpliceId) : s.Steady (s.reelLowTest i) := (s.reelLowTest_within i).steady

theorem State.entryTests_steady (s : State) (i : SpliceId) : s.Steady (s.entryTests i) := (s.reelOutTest_steady i).trans (State.reelLowTest_steady ..)

theorem State.windowEnds_steady (s : State) (i : SpliceId) : s.Steady (s.windowEnds i) :=
  (((((s.disarmChannel_within i).steady.trans (State.handJoint_steady ..)).trans (State.enterSplice_steady ..)).trans
    (State.addHold_steady ..))).quiet (State.raise_within ..)

theorem State.windowTest_steady (s : State) (i : SpliceId) : s.Steady (s.windowTest i) := by
  unfold State.windowTest
  split
  · exact .ite (fun _ => s.windowEnds_steady i) fun _ => .refl s
  · exact .refl s

theorem State.spliceAdvance_steady (s : State) (i : SpliceId) (d : Nat) : s.Steady (s.spliceAdvance i d) := by
  have fired : s.Steady ((s.takePaper i d).fireTest i) := (s.takePaper_within i d).steady.quiet (State.fireTest_within ..)
  refine .ite (fun _ => ?_) fun _ => .refl s
  exact ((((fired.trans (State.windowTest_steady ..)).trans (State.reelOutTest_steady ..)).quiet (State.armTest_within ..))).trans
    (State.reelLowTest_steady ..)

theorem State.writeSplice_steady (s : State) (i : SpliceId) (r : LastSplice) : s.Steady (s.writeSplice i r) := s.onSplice_steady i _

theorem State.swapArms_steady (s : State) (i : SpliceId) (c : Nat) : s.Steady (s.swapArms i c) := s.onSplice_steady i _

theorem State.confirmSplice_steady (s : State) (i : SpliceId) (c : Nat) : s.Steady (s.confirmSplice i c) := by
  refine .ite (fun _ => ?_) fun _ => .refl s
  exact ((((((s.handJoint_steady i _).trans (State.swapArms_steady ..)).trans (State.enterSplice_steady ..)).trans (State.onSplice_steady ..)).trans
    (State.writeSplice_steady ..)).quiet (State.raiseSpliceDone_within ..)).trans (State.entryTests_steady ..)

theorem State.matchLimit_steady (s : State) (i : SpliceId) : s.Steady (s.matchLimit i) :=
  ((((s.onSplice_steady i _).trans (State.enterSplice_steady ..)).trans (State.writeSplice_steady ..)).quiet (State.raiseBlocked_within ..)).trans
    (State.entryTests_steady ..)

theorem State.takeMatch_steady (s : State) (i : SpliceId) : s.Steady (s.takeMatch i) :=
  .ite (fun _ => (s.enterMatched_within i).steady.trans (State.entryTests_steady ..)) fun _ => .refl s

theorem State.settleSuspect_steady (s : State) : s.Steady s.settleSuspect := .ite (fun _ => .refl s) fun _ => s.removeHold_steady _

theorem State.verdictTook_steady (s : State) (i : SpliceId) : s.Steady (s.verdictTook i) :=
  ((((((s.swapArms_steady i _).trans (State.enterSplice_steady ..)).trans (State.onSplice_steady ..)).trans (State.writeSplice_steady ..)).quiet
    (State.raiseSpliceDone_within ..)).trans (State.settleSuspect_steady _)).trans (State.entryTests_steady ..)

theorem State.verdictFailed_steady (s : State) (i : SpliceId) : s.Steady (s.verdictFailed i) :=
  (((((s.enterSplice_steady i _).trans (State.onSplice_steady ..)).trans (State.writeSplice_steady ..)).quiet
    (State.raiseBlocked_within ..)).trans (State.settleSuspect_steady _)).trans (State.entryTests_steady ..)

theorem State.loadStandby_steady (s : State) (i : SpliceId) (r : Reel) : s.Steady (s.loadStandby i r) :=
  ((s.onSplice_steady i _).trans (.ite (fun _ => (State.enterSplice_steady ..).trans (State.entryTests_steady ..)) fun _ => .refl _)).quiet
    (State.armTest_within ..)

theorem State.force_steady (s : State) (i : SpliceId) : s.Steady (s.force i) := (s.force_within i).steady

theorem State.jointEdge_steady (s : State) (i : SpliceId) : s.Steady (s.jointEdge i) :=
  .ite (fun _ => (s.onJoint_within i _).steady.trans (State.confirmSplice_steady ..)) fun _ => .refl s

end Sys2Proof.Machine
end

section
/-! PROOF. The drive stage's and the slitter-scorer's work (R96, R103 to R119). -/

namespace Sys2Proof.Machine

/- One theorem at a time: with a thread for each, the stacks of the threads that wait would take the memory. -/
set_option Elab.async false

theorem State.flagOpen_steady (s : State) (o : OutputId) (k : DriveFaultKind) : s.Steady (s.flagOpen o k) :=
  ((s.onOutput_within o _).steady.quiet (State.raiseDrive_within ..)).trans (State.sendReports_steady ..)

theorem State.tripOutput_steady (s : State) (o : OutputId) : s.Steady (s.tripOutput o) :=
  .ite (fun _ => ((s.onOutput_within o _).steady.quiet (State.raiseDrive_within ..)).trans (State.sendReports_steady ..)) fun _ => .refl s

theorem State.lineAction_steady (s : State) (i : InputId) : s.Steady (s.lineAction i) := by
  unfold State.lineAction
  split
  · exact .refl s
  · exact s.addHold_steady _
  · exact s.stopCause_steady ..
  · exact s.stopCause_steady ..

theorem State.latchInput_steady (s : State) (i : InputId) : s.Steady (s.latchInput i) :=
  (((s.onInput_within i _).steady.trans (State.sendReports_steady ..)).trans (State.lineAction_steady ..)).quiet (State.raise_within ..)

theorem State.judgeInput_steady (s : State) (i : InputId) : s.Steady (s.judgeInput i) := .ite (fun _ => s.latchInput_steady i) fun _ => .refl s

theorem State.inputChanged_steady (s : State) (i : InputId) : s.Steady (s.inputChanged i) :=
  .ite (fun _ => .ite (fun _ => (s.onInput_within i _).steady) fun _ => s.latchInput_steady i) fun _ => .refl s

theorem State.clearRecords_steady (s : State) : s.Steady s.clearRecords :=
  (s.dst_within _).steady.trans (.ite (fun _ => .refl _) fun _ => State.removeHold_steady ..)

theorem State.clearDriveFaults_steady (s : State) : s.Steady s.clearDriveFaults.1 := by
  have cleared := (s.clearLatches_within.steady.trans (State.clearRecords_steady _)).trans (State.sendReports_steady _ s)
  unfold State.clearDriveFaults
  dsimp only
  exact cleared.trans (.forAll fun t k => t.recoverGlue_steady k)

theorem State.reachPosition_steady (s : State) (i : SlitId) : s.Steady (s.reachPosition i) :=
  .ite (fun _ => (s.onSlit_steady i _).trans (State.reportSetup_steady ..)) fun _ => .refl s

theorem State.positioningLimit_steady (s : State) (i : SlitId) : s.Steady (s.positioningLimit i) :=
  ((s.onSlit_steady i _).trans (State.reportSetup_steady ..)).quiet (State.raise_within ..)

theorem State.ejectLimit_steady (s : State) (j : StackerId) : s.Steady (s.ejectLimit j) := by
  have jammed (f : Stacker → Stacker) : s.Steady ((s.onStacker j f).stopCause .stackJam (some (stackerSubject j))) :=
    (s.onStacker_steady j f).trans (State.stopCause_steady ..)
  unfold State.ejectLimit
  exact (jammed _).quiet (State.raiseStacker_within ..)

theorem State.putEnable_steady (s : State) (n : ZoneId) (enable : Bool) : s.Steady (s.putEnable n enable) :=
  .ite (fun _ => .refl s) fun _ => .ite (fun _ => s.onZone_steady n _) fun _ => (s.onZone_steady n _).trans (State.enterZone_steady ..)

theorem State.takeGlue_steady (s : State) (k : GlueId) (c : GlueSettings) : s.Steady (s.takeGlue k c) :=
  ((s.onGlue_steady k _).trans (.ite (fun _ => State.glueTakesUp_steady ..) fun _ => .refl _)).trans (State.sendReports_steady ..)

end Sys2Proof.Machine
end

section
/-! PROOF. The MAP's part of a LINE advance and the advances of the counters (R5, R8, R26 to R30): afterwards no mark lies behind R26's line, and
every entry of a bridge list lies above its web's coordinate at the merge point. -/

namespace Sys2Proof.Machine

/- One theorem at a time: with a thread for each, the stacks of the threads that wait would take the memory. -/
set_option Elab.async false

/-! ### The marks that leave (R26) -/

theorem State.leaves_of {s t : State} (line : t.linePos = s.linePos) (last : t.dLast = s.dLast) : t.leaves = s.leaves := by
  funext m
  unfold State.leaves
  rw [line, last]

theorem State.leaves_eq_false {s : State} {m : Mark} : s.leaves m = false ↔ ∀ e, m.finish = some e → s.linePos < e + s.dLast := by
  rw [← Bool.not_eq_true, State.leaves_iff]
  simp

theorem State.marksAhead_iff_none_leaves {s : State} : s.MarksAhead ↔ ∀ m ∈ s.map.marks, s.leaves m = false :=
  forall₂_congr fun _ _ => State.leaves_eq_false.symm

/-- The marks that are due to leave. -/
def State.leaving (s : State) : List Mark := s.map.marks.filter s.leaves

theorem State.insertEndMark_leaving (s : State) (o : Order) (incoming : Option Nat) :
    (s.insertEndMark o incoming).leaving.length = s.leaving.length := by
  have settled := s.insertEndMark_settled o incoming
  unfold State.leaving
  rw [State.leaves_of settled.linePos settled.dLast]
  rcases s.insertEndMark_cases o incoming with ⟨marks, -, ahead⟩ | ⟨marks, -⟩
  · have stays : s.leaves (s.endMark o.tag o.endPos incoming) = false := State.leaves_eq_false.mpr fun e finish => by
      cases finish
      exact ahead
    rw [marks, ((insertSorted_perm _ _).filter _).length_eq, List.filter_cons_of_neg (by simp [stays])]
  · rw [marks]

/-- A pending insertion that is stored is no mark to leave. -/
theorem State.retryPending_leaving (s : State) : s.retryPending.leaving.length = s.leaving.length := by
  by_cases still : s.obk.endStatus ≠ .pending ∨ s.runningOrder = none
  · rw [State.retryPending_still still]
  · obtain ⟨pending, some_⟩ := not_or.mp still
    obtain ⟨o, running⟩ := Option.ne_none_iff_exists'.mp some_
    rw [State.retryPending_tries (not_not.mp pending) running]
    exact State.insertEndMark_leaving ..

theorem State.setMarks_steady {s : State} {rest : List Mark} (sub : rest.Sublist s.map.marks) : s.Steady (s.setMarks rest) :=
  (s.setMarks_within rest fun i => ⟨sub.length_le.trans i.marks, i.sorted.sublist sub, fun x mem => i.ends x (sub.subset mem)⟩).steady_map
    (sub.filter _).length_le fun _ i => i.setMarks rest fun _ mem => .inl (sub.subset mem)

theorem State.removeMarks_steady : ∀ (n : Nat) (s : State), s.Steady (s.removeMarks n)
  | 0, s => .refl s
  | n + 1, s => by
    unfold State.removeMarks
    split
    · next taken => exact ((State.setMarks_steady (takeFirst_spec taken).2.2.1).trans (State.retryPending_steady _)).trans (State.removeMarks_steady n _)
    · exact .refl s

/-- With fuel for every mark that is due to leave, none stays. -/
theorem State.removeMarks_marksAhead : ∀ (n : Nat) (s : State), s.leaving.length ≤ n → (s.removeMarks n).MarksAhead
  | 0, s, fuel => State.marksAhead_iff_none_leaves.mpr fun m (mem : m ∈ s.map.marks) => show s.leaves m = false by
      have none_ : s.leaving = [] := List.length_eq_zero_iff.mp (Nat.le_zero.mp fuel)
      simpa using List.filter_eq_nil_iff.mp none_ m mem
  | n + 1, s, fuel => by
    unfold State.removeMarks
    split
    · next taken =>
      refine State.removeMarks_marksAhead n _ ?_
      rw [State.retryPending_leaving]
      unfold State.leaving at fuel ⊢
      rw [((takeFirst_perm taken).filter _).length_eq, List.filter_cons_of_pos (takeFirst_spec taken).1] at fuel
      exact Nat.le_of_succ_le_succ fuel
    · next none_ => exact State.marksAhead_iff_none_leaves.mpr (takeFirst_eq_none.mp none_)

/-! ### The bridges drawn from (R28) -/

theorem State.stopCause_touches_of_monitored {s : State} (line : s.lsv.line.monitored = true) (c : StopCause) (d : Option Subject) :
    s.Touches [.lcu, .spc, .lsv, .lnk] (s.stopCause c d) := by
  obtain ⟨r, ⟨new, stops, e⟩ | ⟨-, -, e⟩⟩ := s.stopCause_cases c d
  · have recorded : s.Touches [.lcu, .spc, .lsv, .lnk] (s.setRecord r) := ((s.setRecord_within r).mono (by simp)).toTouches
    rw [e]
    refine recorded.trans (State.changeLine_touches_of_ne_park (fun parks => ?_) fun parks => ?_)
    · rw [State.setRecord_line] at parks
      rw [parks] at line
      cases line
    · rw [parks] at stops
      rcases stops with h | h <;> cases h
  · rw [e]
    exact (((s.setRecord_within r).mono (by simp)).step (State.raiseLine_within ..) (by simp)).toTouches

theorem State.consumeBridge_drawn {s : State} {k : WebId} (use : s.webInUse k = true) (d : Nat) :
    (s.onBridge k (·.consumed d)).Touches [.lcu, .spc, .lsv, .lnk] (s.consumeBridge d k) := by
  have content := ((s.consumedContent_within d k).mono (cs := [.lcu, .spc, .lsv, .lnk]) (by simp)).toTouches
  by_cases enough : d ≤ (s.bridge k).content
  · rw [State.consumeBridge_enough use enough]
    exact content
  · rw [State.consumeBridge_short use (not_le.mp enough)]
    split
    · next line =>
      refine content.trans (State.stopCause_touches_of_monitored ?_ ..)
      rw [State.consumedContent, State.setContent_line]
      exact line
    · exact content

/-- What the turns of the bridges leave: the marks, the book and every setting. -/
structure State.Draws (s t : State) : Prop where
  marks : t.map.marks = s.map.marks
  obk : t.obk = s.obk
  bnd : t.bnd = s.bnd
  carries : s.Carries t

theorem State.Draws.refl (s : State) : s.Draws s := ⟨rfl, rfl, rfl, .refl s⟩

theorem State.Draws.trans {s t u : State} (h : s.Draws t) (h' : t.Draws u) : s.Draws u :=
  ⟨h'.marks.trans h.marks, h'.obk.trans h.obk, h'.bnd.trans h.bnd, h.carries.trans h'.carries⟩

theorem State.consumeBridge_draws (s : State) (d : Nat) (k : WebId) : s.Draws (s.consumeBridge d k) := by
  cases use : s.webInUse k with
  | false =>
    rw [State.consumeBridge_unused use]
    exact .refl s
  | true =>
    have drawn := State.consumeBridge_drawn use d
    exact ⟨congrArg (·.marks) drawn.map_eq, drawn.same .obk (by simp), drawn.same .bnd (by simp), (s.onBridge_carries k _).trans drawn.carries⟩

theorem State.consumeBridge_entries (s : State) (d : Nat) (j k : WebId) : ((s.consumeBridge d k).bridge j).entries = (s.bridge j).entries := by
  cases use : s.webInUse k with
  | false => rw [State.consumeBridge_unused use]
  | true =>
    unfold State.bridge
    rw [(State.consumeBridge_drawn use d).map_eq]
    by_cases same : j = k
    · subst same
      refine (congrArg Bridge.entries (s.onBridge_self j _)).trans rfl
    · exact congrArg Bridge.entries (s.onBridge_ne k _ same)

theorem State.transferList_steady (x : Nat) : ∀ (l : List BridgeEntry) (s : State), s.Steady (s.transferList x l).1
  | [], s => .refl s
  | b :: bs, s => (s.transferEntry_steady x b).trans (State.transferList_steady x bs _)

theorem State.transferDue_steady (s : State) (k : WebId) : s.Steady (s.transferDue k).1 := by
  have dropped (n : Nat) : s.Steady (s.onBridge k fun b => { b with entries := b.entries.drop n }) :=
    (s.onEntries_within k _ (fun b _ room sorted => ⟨(List.length_drop ▸ Nat.sub_le _ _).trans room, sorted.sublist (List.drop_sublist _ _)⟩)
      fun _ mem => .inl (List.mem_of_mem_drop mem)).steady_lists rfl
  unfold State.transferDue
  exact (dropped _).trans (State.transferList_steady ..)

theorem State.transferWeb_steady (s : State) (k : WebId) : s.Steady (s.transferWeb k) := .ite (fun _ => s.transferDue_steady k) fun _ => .refl s

theorem State.transferList_marksAhead (x : Nat) : ∀ (l : List BridgeEntry) {s : State}, s.MarksAhead → (s.transferList x l).1.MarksAhead
  | [], _, i => i
  | b :: bs, s, i => State.transferList_marksAhead x bs (show (s.transferEntry x b).1.MarksAhead from i.insertMark _)

theorem State.transferDue_marksAhead {s : State} (i : s.MarksAhead) (k : WebId) : (s.transferDue k).1.MarksAhead :=
  State.transferList_marksAhead _ _ (i.same (t := s.onBridge k _) rfl rfl)

theorem State.transferWeb_marksAhead {s : State} (i : s.MarksAhead) (k : WebId) : (s.transferWeb k).MarksAhead := by
  unfold State.transferWeb
  split
  · exact State.transferDue_marksAhead i k
  · exact i

/-! ### What the bridge lists hold (R29, R30) -/

/-- Every entry of one bridge list lies above its web's coordinate at the merge point. -/
def State.AheadOn (s : State) (k : WebId) : Prop := ∀ b ∈ (s.bridge k).entries, s.mergeCoord k < b.e

theorem State.AheadOn.congr {s t : State} {k : WebId} (h : s.AheadOn k) (pos : t.webPos k = s.webPos k) (bridge : t.bridge k = s.bridge k) :
    t.AheadOn k := by
  unfold State.AheadOn State.mergeCoord at h ⊢
  rwa [pos, bridge]

theorem State.Carries.webPos {s t : State} (h : s.Carries t) (k : WebId) : t.webPos k = s.webPos k := congrArg Counter.pos (h.counter _)

theorem State.Carries.webInUse {s t : State} (h : s.Carries t) (k : WebId) : t.webInUse k = s.webInUse k := by
  unfold State.webInUse
  rw [h.walls]

/-- After the transfers of a sorted list, what is left of it lies above the merge point. -/
theorem State.transferDue_aheadOn {s : State} {k : WebId} (sorted : (s.bridge k).entries.Pairwise fun a b => a.e ≤ b.e) :
    (s.transferDue k).1.AheadOn k := by
  have lcu : (s.transferDue k).1.lcu = s.lcu := (s.transferDue_within k).same .lcu (by simp)
  have merge : (s.transferDue k).1.mergeCoord k = s.mergeCoord k := by
    unfold State.mergeCoord
    rw [State.transferDue_bridge]
    unfold State.webPos State.counter
    rw [lcu]
  have left : ((s.transferDue k).1.bridge k).entries = (s.bridge k).entries.dropWhile fun b => decide (b.e ≤ s.mergeCoord k) := by
    rw [State.transferDue_bridge]
    exact (congrArg (List.drop _) List.takeWhile_append_dropWhile.symm).trans List.drop_left
  intro b mem
  rw [left] at mem
  rw [merge]
  have rest := sorted.sublist (List.dropWhile_sublist fun b => decide (b.e ≤ s.mergeCoord k))
  rcases shape : (s.bridge k).entries.dropWhile fun b => decide (b.e ≤ s.mergeCoord k) with _ | ⟨a, as⟩
  · rw [shape] at mem
    cases mem
  · have first : s.mergeCoord k < a.e := by
      have stops := List.head_dropWhile_not (p := fun b : BridgeEntry => decide (b.e ≤ s.mergeCoord k)) (l := (s.bridge k).entries) (by simp [shape])
      simp only [shape, List.head_cons, decide_eq_false_iff_not] at stops
      exact not_le.mp stops
    rw [shape] at mem rest
    rcases List.mem_cons.mp mem with rfl | later
    · exact first
    · exact first.trans_le (List.rel_of_pairwise_cons rest later)

/-- What the work of one web leaves of another: its bridge and its position. -/
def State.SameWeb (k : WebId) (s t : State) : Prop := s.Carries t ∧ t.bridge k = s.bridge k

theorem State.SameWeb.refl (k : WebId) (s : State) : s.SameWeb k s := ⟨.refl s, rfl⟩

theorem State.SameWeb.trans {k : WebId} {s t u : State} (h : s.SameWeb k t) (h' : t.SameWeb k u) : s.SameWeb k u :=
  ⟨h.1.trans h'.1, h'.2.trans h.2⟩

theorem State.consumeBridge_sameWeb {s : State} {d : Nat} {j k : WebId} (h : j ≠ k ∨ s.webInUse k = false) : s.SameWeb k (s.consumeBridge d j) := by
  refine ⟨(s.consumeBridge_draws d j).carries, ?_⟩
  cases use : s.webInUse j with
  | false => rw [State.consumeBridge_unused use]
  | true =>
    have other : k ≠ j := fun same => h.elim (fun apart => apart same.symm) fun unused => by
      rw [same, use] at unused
      cases unused
    unfold State.bridge
    rw [(State.consumeBridge_drawn use d).map_eq]
    exact s.onBridge_ne j _ other

theorem State.transferWeb_sameWeb {s : State} {j k : WebId} (h : j ≠ k ∨ s.webInUse k = false) : s.SameWeb k (s.transferWeb j) := by
  refine ⟨(s.transferWeb_within j).toTouches.carries, ?_⟩
  unfold State.transferWeb
  cases use : s.webInUse j with
  | false => rfl
  | true =>
    have other : k ≠ j := fun same => h.elim (fun apart => apart same.symm) fun unused => by
      rw [same, use] at unused
      cases unused
    exact s.transferDue_bridge_ne other

/-! ### The MAP's part of a LINE advance -/

/-- The bridges drawn from, one after the other. -/
def State.allConsumed (s : State) (d : Nat) : State := s.forAll 3 fun t k => t.consumeBridge d k

theorem State.mapAdvance_parts (s : State) (d : Nat) :
    s.mapAdvance d = ((s.removeMarks s.map.marks.length).allConsumed d).forAll 3 State.transferWeb := rfl

theorem State.allConsumed_draws (s : State) (d : Nat) : s.Draws (s.allConsumed d) :=
  State.forAll_keep (P := fun t => s.Draws t) (fun t k h => h.trans (t.consumeBridge_draws d k)) (.refl s)

theorem State.Draws.lcu {s t : State} (h : s.Draws t) : t.lcu.counters = s.lcu.counters ∧ t.lcu.geometry = s.lcu.geometry := by
  rw [h.carries.lcu]
  exact ⟨rfl, rfl⟩

theorem State.Draws.marksAhead {s t : State} (h : s.Draws t) (i : s.MarksAhead) : t.MarksAhead :=
  i.congr (State.linePos_of h.lcu.1) (State.dLast_of h.lcu.2) fun m mem => .inr ⟨m, h.marks ▸ mem, rfl⟩

theorem State.Draws.book {s t : State} (h : s.Draws t) (i : s.BookOk) : t.BookOk := by
  refine i.congr (by rw [h.obk]) (by rw [h.obk]) ?_
  unfold State.unlockedMarks
  rw [h.marks]

theorem State.Draws.distances {s t : State} (h : s.Draws t) (i : s.Distances) : t.Distances :=
  i.congr h.lcu.2 (State.settings_of h.bnd) (by rw [h.obk])

/-- After the MAP's part of a LINE advance no mark lies behind the line of R26. -/
theorem State.mapAdvance_marksAhead (s : State) (d : Nat) : (s.mapAdvance d).MarksAhead := by
  have removed := State.removeMarks_marksAhead s.map.marks.length s (List.length_filter_le ..)
  rw [State.mapAdvance_parts]
  exact State.forAll_keep (P := State.MarksAhead) (fun _ k i => State.transferWeb_marksAhead i k) ((State.allConsumed_draws _ d).marksAhead removed)

theorem State.mapAdvance_book {s : State} (i : s.BookOk) (d : Nat) : (s.mapAdvance d).BookOk := by
  rw [State.mapAdvance_parts]
  exact State.forAll_keep (P := State.BookOk) (fun t k => (t.transferWeb_steady k).book)
    ((State.allConsumed_draws _ d).book ((s.removeMarks_steady _).book i))

theorem State.mapAdvance_distances {s : State} (i : s.Distances) (d : Nat) : (s.mapAdvance d).Distances := by
  rw [State.mapAdvance_parts]
  exact State.forAll_keep (P := State.Distances) (fun t k => (t.transferWeb_steady k).distances)
    ((State.allConsumed_draws _ d).distances ((s.removeMarks_steady _).distances i))

theorem State.allConsumed_unused {s : State} {k : WebId} (unused : s.webInUse k = false) (d : Nat) : s.SameWeb k (s.allConsumed d) :=
  State.forAll_keep (P := fun t => s.SameWeb k t) (fun _ _ h => h.trans (State.consumeBridge_sameWeb (.inr ((h.1.webInUse k).trans unused))))
    (.refl k s)

theorem State.allConsumed_mapOk {s : State} (i : s.MapOk) (d : Nat) : (s.allConsumed d).MapOk :=
  (State.forAll_kept fun t k => t.consumeBridge_kept d k).map i

/-- The transfers leave every list above its merge point: of a web in use what is due goes over, of another nothing moves. -/
theorem State.transferAll_aheadOn {s : State} {k : WebId} (sorted : (s.bridge k).entries.Pairwise fun a b => a.e ≤ b.e)
    (unused : s.webInUse k = false → s.AheadOn k) : (s.forAll 3 State.transferWeb).AheadOn k := by
  cases use : s.webInUse k with
  | false =>
    have same : s.SameWeb k (s.forAll 3 State.transferWeb) :=
      State.forAll_keep (P := fun t => s.SameWeb k t) (fun _ _ h => h.trans (State.transferWeb_sameWeb (.inr ((h.1.webInUse k).trans use)))) (.refl k s)
    exact (unused use).congr (same.1.webPos k) same.2
  | true =>
    obtain ⟨x, before, after⟩ := State.forAll_turn (i := k) (R := State.SameWeb k) (State.SameWeb.refl k) State.SameWeb.trans
      (f := State.transferWeb) (fun t j other => State.transferWeb_sameWeb (.inl other)) s
    have turn : x.transferWeb k = (x.transferDue k).1 := if_pos ((before.1.webInUse k).trans use)
    rw [turn] at after
    exact (State.transferDue_aheadOn (by rw [before.2]; exact sorted)).congr (after.1.webPos k) after.2

theorem State.mapAdvance_entriesAhead {s : State} (ok : s.MapOk) (i : s.EntriesAhead) (d : Nat) : (s.mapAdvance d).EntriesAhead := by
  have removed := s.removeMarks_steady s.map.marks.length
  have ok' := State.allConsumed_mapOk (removed.map ok) d
  rw [State.mapAdvance_parts]
  refine fun k => State.transferAll_aheadOn (ok'.joints k) fun unused => ?_
  have same := State.allConsumed_unused (d := d) (((State.allConsumed_draws _ d).carries.webInUse k).symm.trans unused)
  exact State.AheadOn.congr (removed.entries i k) (same.1.webPos k) same.2

end Sys2Proof.Machine
end

section
/-! PROOF. What a whole act keeps of the laws of the map and the book, and the acts of the counters (R2 to R8). -/

namespace Sys2Proof.Machine

/- One theorem at a time: with a thread for each, the stacks of the threads that wait would take the memory. -/
set_option Elab.async false

/-! ### Whole acts -/

/-- What an act keeps: the laws of the map, the bridge lists and the book, and the law of R26 under the distances. -/
structure State.Lawful (s t : State) : Prop where
  map : s.MapOk → t.MapOk
  entries : s.MapOk → s.EntriesAhead → t.EntriesAhead
  book : s.BookOk → t.BookOk
  marks : s.BookOk → s.Distances → s.MarksAhead → t.MarksAhead

/-- Lawful work that keeps the distances too. -/
structure State.Faithful (s t : State) : Prop extends State.Lawful s t where
  distances : s.Distances → t.Distances

/-- What the laws of the map and the book read, left as it is. -/
structure State.Alike (s t : State) : Prop where
  marks : t.map.marks = s.map.marks
  entries : ∀ k, (t.bridge k).entries = (s.bridge k).entries
  merge : ∀ k, t.mergeCoord k = s.mergeCoord k
  line : t.linePos = s.linePos
  geometry : t.lcu.geometry = s.lcu.geometry
  settings : ∀ n, (t.zone n).settings = (s.zone n).settings
  obk : t.obk = s.obk

section

variable {s t u : State}

theorem State.Faithful.refl (s : State) : s.Faithful s := ⟨⟨id, fun _ => id, id, fun _ _ => id⟩, id⟩

theorem State.Faithful.then_lawful (h : s.Faithful t) (h' : t.Lawful u) : s.Lawful u where
  map i := h'.map (h.map i)
  entries m i := h'.entries (h.map m) (h.entries m i)
  book i := h'.book (h.book i)
  marks b d i := h'.marks (h.book b) (h.distances d) (h.marks b d i)

theorem State.Faithful.trans (h : s.Faithful t) (h' : t.Faithful u) : s.Faithful u :=
  ⟨h.then_lawful h'.toLawful, fun d => h'.distances (h.distances d)⟩

theorem State.Steady.faithful (h : s.Steady t) : s.Faithful t := ⟨⟨h.map, fun _ => h.entries, h.book, h.marks⟩, h.distances⟩

theorem State.Steady.lawful (h : s.Steady t) : s.Lawful t := h.faithful.toLawful

theorem State.Lawful.refl (s : State) : s.Lawful s := (State.Faithful.refl s).toLawful

theorem State.Alike.mapOk (h : s.Alike t) (i : s.MapOk) : t.MapOk := i.congr h.marks h.entries

theorem State.Alike.entriesAhead (h : s.Alike t) (i : s.EntriesAhead) : t.EntriesAhead := fun k b mem => by
  rw [h.merge]
  exact i k b (h.entries k ▸ mem)

theorem State.Alike.bookOk (h : s.Alike t) (i : s.BookOk) : t.BookOk := by
  refine i.congr (by rw [h.obk]) (by rw [h.obk]) ?_
  unfold State.unlockedMarks
  rw [h.marks]

theorem State.Alike.marksAhead (h : s.Alike t) (i : s.MarksAhead) : t.MarksAhead :=
  i.congr h.line (State.dLast_of h.geometry) fun m mem => .inr ⟨m, h.marks ▸ mem, rfl⟩

theorem State.Alike.distancesOk (h : s.Alike t) (i : s.Distances) : t.Distances := i.congr h.geometry h.settings (by rw [h.obk])

theorem State.Alike.faithful (h : s.Alike t) : s.Faithful t :=
  ⟨⟨h.mapOk, fun _ => h.entriesAhead, h.bookOk, fun _ _ => h.marksAhead⟩, h.distancesOk⟩

theorem State.Lawful.then_alike (h : s.Lawful t) (h' : t.Alike u) : s.Lawful u where
  map i := h'.mapOk (h.map i)
  entries m i := h'.entriesAhead (h.entries m i)
  book i := h'.bookOk (h.book i)
  marks b d i := h'.marksAhead (h.marks b d i)

/-- A change outside what the laws read. -/
theorem State.Alike.of_parts (map : t.map = s.map) (obk : t.obk = s.obk) (bnd : t.bnd = s.bnd) (counters : t.lcu.counters = s.lcu.counters)
    (geometry : t.lcu.geometry = s.lcu.geometry) : s.Alike t where
  marks := by rw [map]
  entries k := by
    unfold State.bridge
    rw [map]
  merge k := by
    unfold State.mergeCoord State.webPos State.counter State.bridge
    rw [map, counters]
  line := State.linePos_of counters
  geometry := geometry
  settings := State.settings_of bnd
  obk := obk

theorem Counter.pos_of {a b : Counter} (c : a.c = b.c) (scale : a.scale = b.scale) : a.pos = b.pos := by
  unfold Counter.pos
  rw [c, scale]

/-- A counter changed without its position. -/
theorem State.onCounter_alike (s : State) (i : CounterId) (f : Counter → Counter) (pos : (f (s.counter i)).pos = (s.counter i).pos) :
    s.Alike (s.onCounter i f) := by
  have same (j : CounterId) : ((s.onCounter i f).counter j).pos = (s.counter j).pos := by
    by_cases is : j = i
    · subst is
      rw [State.onCounter_self, pos]
    · rw [State.onCounter_ne _ _ _ is]
  exact
    { marks := rfl, entries := fun _ => rfl, merge := fun k => congrArg (· - (s.bridge k).content) (same k.succ), line := same 0, geometry := rfl
      settings := fun _ => rfl, obk := rfl }

theorem State.beginFrame_alike (s : State) : s.Alike s.beginFrame := by
  rw [s.beginFrame_eq]
  exact .of_parts rfl rfl rfl rfl rfl

end

/-! ### An advance of LINE (R8) -/

/-- Work that comes after the end of the running order has been put ahead. -/
theorem State.Steady.then_orderly {s t u : State} (h : s.Steady t) (ends : s.BookOk → s.Distances → t.EndsAhead) (h' : t.Orderly u) : s.Steady u where
  toOrderly := h.toOrderly.trans h'
  marks b d i := h'.trimmed (h.book b) (h.distances d) (ends b d) (h.marks b d i)

theorem State.lineTakers_steady (s : State) (d : Nat) : s.Steady (s.lineTakers d) := by
  have before := ((s.lockTest_steady).trans (State.swapTest_steady _)).trans (State.spliceAdvance_steady _ 6 d)
  have ends (b : s.BookOk) (e : s.Distances) : (s.lockTest.swapTest.spliceAdvance 6 d).EndsAhead := by
    have lock := s.lockTest_steady
    have after := (State.swapTest_steady s.lockTest).trans (State.spliceAdvance_steady _ 6 d)
    exact after.ends (lock.book b) (lock.distances e) (State.lockTest_ahead b e).2
  exact ((before.then_orderly ends (State.dryEndAdvance_orderly _)).trans (State.stackAdvance_steady _)).trans (State.bondLineAdvance_steady _)

theorem State.window_alike (s : State) (i : CounterId) : s.Alike (s.onCounter i Counter.window) := by
  refine s.onCounter_alike i _ ?_
  unfold Counter.window
  split <;> rfl

theorem State.lineAdvance_eq (s : State) (d : Nat) : s.lineAdvance d = ((s.onCounter 0 Counter.window).mapAdvance d).lineTakers d := rfl

/-- A LINE advance keeps the laws, and the law of R26 holds after it whatever marks stood before. -/
theorem State.lineAdvance_laws {s : State} (d : Nat) :
    (s.MapOk → s.EntriesAhead → (s.lineAdvance d).EntriesAhead) ∧ (s.BookOk → (s.lineAdvance d).BookOk) ∧
      (s.BookOk → s.Distances → (s.lineAdvance d).MarksAhead) := by
  have window := s.window_alike 0
  have takers := ((s.onCounter 0 Counter.window).mapAdvance d).lineTakers_steady d
  rw [State.lineAdvance_eq]
  exact ⟨fun m i => takers.entries (State.mapAdvance_entriesAhead (window.mapOk m) (window.entriesAhead i) d),
    fun b => takers.book (State.mapAdvance_book (window.bookOk b) d),
    fun b e => takers.marks (State.mapAdvance_book (window.bookOk b) d) (State.mapAdvance_distances (window.distancesOk e) d)
      (State.mapAdvance_marksAhead _ d)⟩

/-- LINE counts on, and the advance is delivered. -/
theorem State.countLine_lawful (s : State) (d : Nat) : s.Lawful ((s.onCounter 0 Counter.counted).lineAdvance d) := by
  obtain ⟨entries, book, marks⟩ := State.lineAdvance_laws (s := s.onCounter 0 Counter.counted) d
  have merge (k : WebId) : (s.onCounter 0 Counter.counted).mergeCoord k = s.mergeCoord k :=
    congrArg (·.pos - (s.bridge k).content) (s.onCounter_ne 0 _ (Fin.succ_ne_zero k))
  have ok (m : s.MapOk) : (s.onCounter 0 Counter.counted).MapOk := m.congr rfl fun _ => rfl
  have booked (b : s.BookOk) : (s.onCounter 0 Counter.counted).BookOk := b.congr rfl rfl le_rfl
  exact
    { map := fun m => (State.lineAdvance_kept ..).map (ok m)
      entries := fun m i => entries (ok m) fun k b mem => by
        rw [merge]
        exact i k b mem
      book := fun b => book (booked b)
      marks := fun b e _ => marks (booked b) ⟨e.step, e.slit, e.zones⟩ }

/-! ### An advance of a web counter (R8, R27) -/

/-- What goes on to the bridge leaves the web's coordinate at the merge point. -/
theorem State.countWeb_alike (s : State) (k : WebId) {d : Nat} (pos : ((s.counter k.succ).counted).pos = (s.counter k.succ).pos + d) :
    s.Alike (((s.onCounter k.succ Counter.counted).onCounter k.succ Counter.window).setContent k ((s.bridge k).content + d)) := by
  have window : ((s.counter k.succ).counted).window.pos = (s.counter k.succ).pos + d := by
    rw [← pos]
    unfold Counter.window
    split <;> rfl
  generalize hu : (s.onCounter k.succ Counter.counted).onCounter k.succ Counter.window = u
  have within := u.setContent_within k ((s.bridge k).content + d)
  have lcu : (u.setContent k ((s.bridge k).content + d)).lcu = u.lcu := within.same .lcu (by simp)
  have own : (u.setContent k ((s.bridge k).content + d)).webPos k = (s.counter k.succ).pos + d := by
    unfold State.webPos State.counter
    rw [lcu, ← hu]
    refine (congrArg Counter.pos (State.onCounter_self _ k.succ _)).trans ?_
    rw [State.onCounter_self]
    exact window
  have other {j : CounterId} (h : j ≠ k.succ) : (u.setContent k ((s.bridge k).content + d)).counter j = s.counter j := by
    unfold State.counter
    rw [lcu, ← hu]
    exact (State.onCounter_ne _ _ _ h).trans (State.onCounter_ne _ _ _ h)
  have bridge_k : (u.setContent k ((s.bridge k).content + d)).bridge k = { s.bridge k with content := (s.bridge k).content + d } := by
    rw [State.setContent_bridge, ← hu]
    rfl
  have bridge_ne {j : WebId} (h : j ≠ k) : (u.setContent k ((s.bridge k).content + d)).bridge j = s.bridge j := by
    rw [State.setContent_bridge_ne _ _ h, ← hu]
    rfl
  exact
    { marks := by
        rw [within.map_eq, ← hu]
        rfl
      entries := fun j => by
        by_cases h : j = k
        · subst h
          rw [bridge_k]
        · rw [bridge_ne h]
      merge := fun j => by
        unfold State.mergeCoord
        by_cases h : j = k
        · subst h
          rw [own, bridge_k]
          exact Nat.add_sub_add_right ..
        · rw [bridge_ne h]
          exact congrArg (·.pos - (s.bridge j).content) (other fun e => h (Fin.succ_inj.mp e))
      line := congrArg Counter.pos (other (Fin.succ_ne_zero k).symm)
      geometry := by
        rw [lcu, ← hu]
        rfl
      settings := State.settings_of (by
        rw [show (u.setContent k ((s.bridge k).content + d)).bnd = u.bnd from within.same .bnd (by simp), ← hu]
        rfl)
      obk := by
        rw [show (u.setContent k ((s.bridge k).content + d)).obk = u.obk from within.same .obk (by simp), ← hu]
        rfl }

theorem State.webAdvance_eq (s : State) (k : WebId) (d : Nat) :
    s.webAdvance k d =
      ((((s.onCounter k.succ Counter.window).setContent k ((s.bridge k).content + d)).spliceAdvance (webStations k).1 d).spliceAdvance
        (webStations k).2 d).bondWebAdvance k := rfl

theorem State.countWeb_lawful (s : State) (k : WebId) {d : Nat} (pos : ((s.counter k.succ).counted).pos = (s.counter k.succ).pos + d) :
    s.Lawful ((s.onCounter k.succ Counter.counted).webAdvance k d) := by
  rw [State.webAdvance_eq]
  exact (s.countWeb_alike k pos).faithful.then_lawful
    (((State.spliceAdvance_steady ..).trans (State.spliceAdvance_steady ..)).trans (State.bondWebAdvance_steady ..)).lawful

/-! ### Transitions (R2 to R6) -/

theorem State.counterFault_faithful (s : State) (i : CounterId) (k : FaultKind) : s.Faithful (s.counterFault i k) := by
  have noted (f : Counter → Counter) (pos : ∀ c, (f c).pos = c.pos) : s.Faithful (s.onCounter i f) := (s.onCounter_alike i f (pos _)).faithful
  unfold State.counterFault
  refine (noted _ ?_).trans ((State.Steady.ite (fun _ => State.stopCause_steady ..) fun _ => State.addHold_steady ..).quiet (State.raise_within ..)).faithful
  exact fun _ => Counter.pos_of rfl rfl

/-- A count that raises no position. -/
theorem State.counted_alike {s : State} {i : CounterId} (h : ¬(s.counter i).pos < ((s.counter i).counted).pos) : s.Alike (s.onCounter i Counter.counted) := by
  refine s.onCounter_alike i _ (le_antisymm (not_lt.mp h) ?_)
  exact Nat.div_le_div_right (Nat.mul_le_mul_right _ (Nat.le_succ _))

theorem State.deliverCount_lawful {s : State} {i : CounterId} (h : (s.counter i).pos < ((s.counter i).counted).pos) :
    s.Lawful ((s.onCounter i Counter.counted).deliverAdvance i (((s.counter i).counted).pos - (s.counter i).pos)) := by
  unfold State.deliverAdvance
  split
  · next is =>
    subst is
    exact s.countLine_lawful _
  · next other =>
    obtain ⟨k, rfl⟩ := Fin.exists_succ_eq.mpr other
    rw [Fin.pred_succ]
    exact s.countWeb_lawful k (by omega)

theorem State.forwardCount_eq (s : State) (i : CounterId) :
    s.forwardCount i =
      if 0 < (s.counter i).debt then s.onCounter i fun x => { x with debt := x.debt - 1 }
      else if Config.posLimit ≤ ((s.counter i).c + 1) * 10000 / (s.counter i).scale then s.counterFault i .overrange
      else if (s.counter i).pos < ((s.onCounter i Counter.counted).counter i).pos then
        (s.onCounter i Counter.counted).deliverAdvance i (((s.onCounter i Counter.counted).counter i).pos - (s.counter i).pos)
      else s.onCounter i Counter.counted := rfl

theorem State.forwardCount_lawful (s : State) (i : CounterId) : s.Lawful (s.forwardCount i) := by
  rw [State.forwardCount_eq, State.onCounter_self]
  split
  · exact (s.onCounter_alike i _ (Counter.pos_of rfl rfl)).faithful.toLawful
  · split
    · exact (s.counterFault_faithful i _).toLawful
    · split
      · next rises => exact State.deliverCount_lawful rises
      · next stays => exact (State.counted_alike stays).faithful.toLawful

theorem State.reverseCount_faithful (s : State) (i : CounterId) : s.Faithful (s.reverseCount i) := by
  have counted : s.Faithful (s.onCounter i fun x => { x with debt := x.debt + 1 }) := (s.onCounter_alike i _ (Counter.pos_of rfl rfl)).faithful
  unfold State.reverseCount
  dsimp only
  split
  · exact counted.trans (State.counterFault_faithful ..)
  · exact counted

theorem State.illegalCount_faithful (s : State) (i : CounterId) : s.Faithful (s.illegalCount i) := by
  have counted : s.Faithful (s.onCounter i fun x => { x with tally := countUp 255 x.tally }) := (s.onCounter_alike i _ (Counter.pos_of rfl rfl)).faithful
  unfold State.illegalCount
  dsimp only
  split
  · exact counted.trans (State.counterFault_faithful ..)
  · exact counted

theorem State.takeTransition_lawful (s : State) (i : CounterId) (old new : Phase) : s.Lawful (s.takeTransition i old new) := by
  unfold State.takeTransition
  split
  · split
    · exact .refl s
    · exact s.forwardCount_lawful i
    · exact (s.reverseCount_faithful i).toLawful
    · exact (s.illegalCount_faithful i).toLawful
  · exact .refl s

end Sys2Proof.Machine
end

section
/-! PROOF. What every host command's body keeps of the laws of the map and the book. -/

namespace Sys2Proof.Machine

/- One theorem at a time: with a thread for each, the stacks of the threads that wait would take the memory. -/
set_option Elab.async false

/-- What a command or an event keeps, SetGeometry among them: the law of R26 unless it gives the line other station distances in SETUP. -/
structure State.Obeys (s t : State) : Prop where
  map : s.MapOk → t.MapOk
  entries : s.MapOk → s.EntriesAhead → t.EntriesAhead
  book : s.BookOk → t.BookOk
  marks : s.BookOk → s.Distances → s.MarksAhead → (s.lsv.line = .setup → t.lcu.geometry = s.lcu.geometry) → t.MarksAhead

section

variable {s t u : State}

theorem State.Lawful.obeys (h : s.Lawful t) : s.Obeys t := ⟨h.map, h.entries, h.book, fun b d i _ => h.marks b d i⟩

theorem State.Faithful.obeys (h : s.Faithful t) : s.Obeys t := h.toLawful.obeys

theorem State.Steady.obeys (h : s.Steady t) : s.Obeys t := h.lawful.obeys

theorem State.Alike.obeys (h : s.Alike t) : s.Obeys t := h.faithful.obeys

theorem State.Obeys.refl (s : State) : s.Obeys s := (State.Lawful.refl s).obeys

theorem State.Obeys.ite {c : Prop} [Decidable c] (h : s.Obeys t) (h' : s.Obeys u) : s.Obeys (if c then t else u) := by
  split <;> assumption

/-- What comes before and after leaves what the laws read. -/
theorem State.Obeys.between {a b : State} (h : t.Obeys u) (before : a.Alike t) (line : t.lsv.line = a.lsv.line) (after : u.Alike b) : a.Obeys b where
  map i := after.mapOk (h.map (before.mapOk i))
  entries m i := after.entriesAhead (h.entries (before.mapOk m) (before.entriesAhead i))
  book i := after.bookOk (h.book (before.bookOk i))
  marks i d m geometry := after.marksAhead (h.marks (before.bookOk i) (before.distancesOk d) (before.marksAhead m) fun setup => by
    rw [← after.geometry, before.geometry]
    exact geometry (line.symm.trans setup))

/-- Work outside the map, the book and the bond controller. -/
theorem State.Touches.alike {bs : List Block} (h : s.Touches bs t) (quiet : ∀ b ∈ [Block.map, .obk, .bnd], b ∉ Block.lnk :: bs := by simp) :
    s.Alike t :=
  .of_parts (h.same .map (quiet _ (by simp))) (h.same .obk (quiet _ (by simp))) (h.same .bnd (quiet _ (by simp))) (by rw [h.lcu]) (by rw [h.lcu])

theorem State.Alike.refl (s : State) : s.Alike s := .of_parts rfl rfl rfl rfl rfl

theorem State.Alike.trans (h : s.Alike t) (h' : t.Alike u) : s.Alike u where
  marks := h'.marks.trans h.marks
  entries k := (h'.entries k).trans (h.entries k)
  merge k := (h'.merge k).trans (h.merge k)
  line := h'.line.trans h.line
  geometry := h'.geometry.trans h.geometry
  settings n := (h'.settings n).trans (h.settings n)
  obk := h'.obk.trans h.obk

/-- A map without marks and entries and a book without orders. -/
structure State.Blank (s : State) : Prop where
  marks : s.map.marks = []
  entries : ∀ k, (s.bridge k).entries = []
  orders : s.obk.orders = []

theorem State.Blank.lawful (h : t.Blank) : s.Lawful t where
  map _ :=
    { marks := by simp [h.marks]
      sorted := by simp [h.marks]
      ends := by simp [h.marks]
      entries := by simp [h.entries]
      joints := by simp [h.entries] }
  entries _ _ k b mem := by
    rw [h.entries] at mem
    cases mem
  book _ :=
    { capacity := by simp [h.orders]
      tags := by simp [h.orders]
      running := by simp [h.orders]
      staged := by simp [h.orders]
      unlocked := by simp [h.marks]
      owned := by simp [h.marks] }
  marks _ _ _ m mem := by
    rw [h.marks] at mem
    cases mem

end

/-! ### Line supervisor (R149 to R162) -/

theorem State.commit_steady (s : State) : s.Steady s.commit.1 := by
  unfold State.commit
  split
  · exact .refl s
  · split
    · exact .refl s
    · exact s.changeLine_steady _

theorem State.restartMark_steady (s : State) : s.Steady s.restartMark := by
  unfold State.restartMark
  split
  · exact s.insertMark_steady _ fun e ends => by
      cases ends
      exact Nat.sub_le ..
  · exact .refl s

theorem State.start_steady (s : State) (speed : Nat) : s.Steady (s.start speed).1 := by
  have asked : s.Steady (s.setEntry .request (some speed)) := (s.setEntry_within .request _).steady
  have obk : (s.setEntry .request (some speed)).obk = s.obk := (s.setEntry_within .request _).same .obk (by simp)
  have begun : s.Steady (if s.runningOrder.isSome then s.setEntry .request (some speed) else (s.setEntry .request (some speed)).firstStart) := by
    refine .ite (fun _ => asked) fun none_ => asked.trans (State.firstStart_steady ?_)
    unfold State.runningOrder State.orderIn at none_ ⊢
    rw [obk]
    exact Option.not_isSome_iff_eq_none.mp none_
  unfold State.start
  exact (begun.trans (State.restartMark_steady _)).trans (State.changeLine_steady ..)

theorem State.startLine_steady (s : State) (speed : Nat) : s.Steady (s.startLine speed).1 := by
  unfold State.startLine
  split
  · exact .refl s
  · split
    · exact .refl s
    · split
      · exact s.start_steady speed
      · exact .refl s

theorem State.stopLine_steady (s : State) : s.Steady s.stopLine.1 := by
  unfold State.stopLine
  split
  · exact s.stopCause_steady ..
  · split <;> exact .refl s

theorem State.setSpeed_steady (s : State) (speed : Nat) : s.Steady (s.setSpeed speed).1 := by
  unfold State.setSpeed
  split
  · exact .refl s
  · exact (s.setEntry_within .request _).steady

theorem State.takeRamp_alike (s : State) (accel decel thread : Nat) : s.Alike (s.takeRamp accel decel thread) := by
  have set : s.Alike { s with lsv := { s.lsv with accel := accel, decel := decel, thread := thread } } := .of_parts rfl rfl rfl rfl rfl
  unfold State.takeRamp State.setEntry State.setCeiling
  dsimp only
  split
  · split
    · exact .of_parts rfl rfl rfl rfl rfl
    · exact .trans (t := { s with lsv := { s.lsv with
        accel := accel, decel := decel, thread := thread, ceiling := s.lsv.ceiling.put .hold (some thread) } }) (.of_parts rfl rfl rfl rfl rfl)
        (State.raise_within ..).alike
  · exact set

theorem State.setRamp_alike (s : State) (accel decel thread : Nat) : s.Alike (s.setRamp accel decel thread).1 := by
  unfold State.setRamp
  split
  · exact .refl s
  · exact s.takeRamp_alike ..

theorem State.ackHalt_steady (s : State) : s.Steady s.ackHalt.1 := by
  unfold State.ackHalt
  split
  · exact .refl s
  · split
    · exact s.changeLine_steady _
    · exact .refl s

theorem State.park_steady (s : State) : s.Steady s.park.1 := by
  unfold State.park
  split
  · exact .refl s
  · split
    · exact s.changeLine_steady _
    · exact .refl s

theorem State.unpark_steady (s : State) : s.Steady s.unpark.1 := by
  unfold State.unpark
  split
  · exact .refl s
  · exact s.changeLine_steady _

theorem State.ackStart_alike (s : State) : s.Alike s.ackStart.1 := .of_parts rfl rfl rfl rfl rfl

/-! ### Restart (R161) -/

theorem State.restartLsv_faithful (s : State) : s.Faithful s.restartLsv := by
  have cleared : s.Alike { s with lsv := { s.lsv with
      holds := .empty, stopRec := none, startFlag := true, resetCause := .restart, speedRef := 0, stopped := 0 } } := .of_parts rfl rfl rfl rfl rfl
  have asked := cleared.faithful.trans (State.setEntry_within _ .request (some 0)).steady.faithful
  unfold State.restartLsv
  dsimp only
  split
  · exact asked.trans (State.raise_within ..).steady.faithful
  · exact asked.trans ((State.changeLine_steady ..).quiet (State.raise_within ..)).faithful

/-- The six blocks that Restart clears: no mark, no entry and no order is left, and the distances stand. -/
theorem State.cleared_faithful (s : State) : s.Faithful s.cleared := by
  have cleared := s.cleared_spec
  have blank : s.cleared.Blank := by
    refine ⟨?_, fun k => ?_, ?_⟩
    · rw [cleared.map]
      rfl
    · unfold State.bridge
      rw [cleared.map]
      simp
    · rw [cleared.obk]
  refine ⟨blank.lawful, fun d => d.congr ?_ (State.settings_of (cleared.works.same .bnd (by simp))) (by rw [cleared.obk])⟩
  rw [cleared.lcu]
  rfl

theorem State.bndCleared_alike (s : State) : s.Alike s.bndCleared := by
  have works := s.bndCleared_worksIn
  have map : s.bndCleared.map = s.map := works.same .map (by simp)
  have lcu : s.bndCleared.lcu = s.lcu := works.same .lcu (by simp)
  exact
    { marks := by rw [map]
      entries := fun k => by
        unfold State.bridge
        rw [map]
      merge := fun k => by
        unfold State.mergeCoord State.webPos State.counter State.bridge
        rw [map, lcu]
      line := State.linePos_of (by rw [lcu])
      geometry := by rw [lcu]
      settings := fun n => by
        rw [State.bndCleared_zone]
        rfl
      obk := works.same .obk (by simp) }

theorem State.restartBnd_faithful (s : State) : s.Faithful s.restartBnd := by
  rw [State.restartBnd_eq]
  exact s.bndCleared_alike.faithful.trans (State.Steady.forAll fun t k => t.rejudgeGlue_steady k).faithful

theorem State.restartDst_steady (s : State) : s.Steady s.restartDst :=
  (State.Steady.ite (fun _ => s.addHold_steady _) fun _ => .refl s).trans (.forAll fun t o => t.reportKept_steady o)

theorem State.restartPart_faithful (s : State) : s.Faithful s.restartPart := by
  rw [State.restartPart_eq]
  exact ((s.restartLsv_faithful.trans (State.cleared_faithful _)).trans (State.restartBnd_faithful _)).trans (State.restartDst_steady _).faithful

theorem State.restart_faithful (s : State) : s.Faithful s.restart.1 := by
  unfold State.restart
  split
  · exact .refl s
  · dsimp only
    exact s.restartPart_faithful

/-! ### Length counting unit and web map (R11 to R16, R31 to R35) -/

theorem State.setScale_alike (s : State) (counter scale : Nat) : s.Alike (s.setScale counter scale).1 := by
  unfold State.setScale
  split
  · exact .refl s
  · split
    · exact .refl s
    · next i _ =>
      split
      · exact .refl s
      · split
        · exact .refl s
        · next zero =>
          split
          · exact .refl s
          · refine s.onCounter_alike i _ ?_
            rw [Nat.le_zero.mp (not_lt.mp zero)]
            simp [Counter.pos]

theorem State.setGeometry_obeys (s : State) (g : Geometry) : s.Obeys (s.setGeometry g).1 := by
  unfold State.setGeometry
  split
  · exact .refl s
  · next setup =>
    have line : s.lsv.line = .setup := by
      unfold State.lineIn at setup
      revert setup
      generalize s.lsv.line = l
      cases l <;> decide
    split
    · exact .refl s
    · exact
        { map := fun i => i.congr rfl fun _ => rfl
          entries := fun _ i => i
          book := fun i => i.congr rfl rfl le_rfl
          marks := fun _ _ i same => i.congr rfl (State.dLast_of (same line)) fun m mem => .inr ⟨m, mem, rfl⟩ }

theorem State.setLineBuild_faithful (s : State) (walls width : Nat) : s.Faithful (s.setLineBuild walls width).1 := by
  unfold State.setLineBuild
  split
  · exact .refl s
  · split
    · exact .refl s
    · dsimp only
      have built : s.Alike { s with lcu := { s.lcu with walls := some walls, width := width } } := .of_parts rfl rfl rfl rfl rfl
      exact built.faithful.trans ((((State.Steady.forAll fun t k => t.rebuildGlue_steady s k).quiet (State.disarmUnused_within _)).quiet
        (State.evalBridgeEntry_within _)).trans (State.sendReports_steady ..)).faithful

theorem State.setSheetEyes_steady (s : State) (edge1 edge2 : Nat) : s.Steady (s.setSheetEyes edge1 edge2).1 := by
  unfold State.setSheetEyes
  split
  · exact .refl s
  · split
    · exact .refl s
    · exact .refl s
    · exact (s.onEye_within 0 _).steady.quiet (State.onEye_within _ 1 _)

/-- A bridge changed outside its content and its list. -/
theorem State.onBridge_alike (s : State) (k : WebId) (f : Bridge → Bridge) (content : ∀ b, (f b).content = b.content := by exact fun _ => rfl)
    (entries : ∀ b, (f b).entries = b.entries := by exact fun _ => rfl) : s.Alike (s.onBridge k f) := by
  have same (j : WebId) : ((s.onBridge k f).bridge j).content = (s.bridge j).content ∧ ((s.onBridge k f).bridge j).entries = (s.bridge j).entries := by
    by_cases is : j = k
    · subst is
      rw [State.onBridge_self]
      exact ⟨content _, entries _⟩
    · rw [State.onBridge_ne _ _ _ is]
      exact ⟨rfl, rfl⟩
  exact
    { marks := rfl, entries := fun j => (same j).2, merge := fun j => congrArg (s.webPos j - ·) (same j).1, line := rfl, geometry := rfl
      settings := fun _ => rfl, obk := rfl }

theorem State.setBridge_alike (s : State) (web slow high crawl : Nat) : s.Alike (s.setBridge web slow high crawl).1 := by
  unfold State.setBridge
  split
  · exact .refl s
  · split
    · exact .refl s
    · split
      · exact .refl s
      · split
        · exact .refl s
        · exact (s.onBridge_alike _ _).trans (State.evalBridgeEntry_within _).alike

/-- ThreadBridge: the entries that the new content brings to the merge point go over (R32). -/
theorem State.thread_lawful (s : State) (k : WebId) (v : Nat) : s.Lawful (s.thread k v).1 := by
  have after : ((s.threaded k v).transferDue k).1.Alike (s.thread k v).1 := (s.thread_within k v).alike
  have transferred := (s.threaded k v).transferDue_steady k
  have ok (m : s.MapOk) : (s.threaded k v).MapOk :=
    (s.onBridge_kept k (fun b => { b with content := v, shortfall := 0 }) fun _ => rfl).map m
  exact
    { map := fun m => after.mapOk (transferred.map (ok m))
      entries := fun m i => after.entriesAhead fun j => by
        by_cases is : j = k
        · subst is
          exact State.transferDue_aheadOn ((ok m).joints j)
        · have bridge : ((s.threaded k v).transferDue k).1.bridge j = s.bridge j := ((s.threaded k v).transferDue_bridge_ne is).trans (s.onBridge_ne k _ is)
          have lcu : ((s.threaded k v).transferDue k).1.lcu = s.lcu := ((s.threaded k v).transferDue_within k).same .lcu (by simp)
          refine State.AheadOn.congr (i j) ?_ bridge
          unfold State.webPos State.counter
          rw [lcu]
      book := fun b => after.bookOk (transferred.book (b.congr rfl rfl le_rfl))
      marks := fun _ _ i => after.marksAhead (State.transferDue_marksAhead (i.same (t := s.threaded k v) rfl rfl) k) }

theorem State.threadBridge_lawful (s : State) (web content : Nat) : s.Lawful (s.threadBridge web content).1 := by
  unfold State.threadBridge
  split
  · exact .refl s
  · split
    · exact .refl s
    · split
      · exact .refl s
      · split
        · exact .refl s
        · exact s.thread_lawful ..

theorem State.addHostMark_steady (s : State) (start finish reason : Nat) : s.Steady (s.addHostMark start finish reason).1 := by
  unfold State.addHostMark
  split
  · exact .refl s
  · split
    · exact .refl s
    · split
      · exact .refl s
      · split
        · exact .refl s
        · next range =>
          exact s.insertMark_steady { start := start, finish := some finish, body := .hostMark reason } fun e ends => by
            cases ends
            exact not_lt.mp fun short => range (.inl short)

theorem State.resumeSorting_alike (s : State) : s.Alike s.resumeSorting.1 := by
  unfold State.resumeSorting
  split
  · exact .refl s
  · dsimp only
    split
    · exact { marks := rfl, entries := fun _ => rfl, merge := fun _ => rfl, line := rfl, geometry := rfl, settings := fun _ => rfl, obk := rfl }
    · exact .refl s

end Sys2Proof.Machine
end

section
/-! PROOF. What the commands of the order book, the splicers, the bond, the drive, the dry end, the stackers and the link keep of the laws of
the map and the book, and so every host command's body. -/

namespace Sys2Proof.Machine

/- One theorem at a time: with a thread for each, the stacks of the threads that wait would take the memory. -/
set_option Elab.async false

/-! ### Change limits (R41, R45) -/

theorem State.takeLimits_lawful (s : State) (margin step maximum crawl : Nat) : s.Lawful (s.takeLimits margin step maximum crawl) := by
  let u : State := { s with obk := { s.obk with
    lockMargin := metres margin, deferStep := metres step, maxDeferral := metres maximum, setupCrawl := crawl } }
  have limits : s.Lawful u :=
    { map := fun i => i.congr rfl fun _ => rfl
      entries := fun _ i => i
      book := fun i => i.congr rfl rfl le_rfl
      marks := fun _ _ i => i.congr rfl rfl fun m mem => .inr ⟨m, mem, rfl⟩ }
  have entry : u.Alike (u.setEntry .setup (some crawl)) := (State.setEntry_within ..).alike
  unfold State.takeLimits
  dsimp only
  split
  · refine limits.then_alike (entry.trans ?_)
    split
    · split
      · exact (State.addHold_touches ..).alike
      · exact (State.removeHold_touches ..).alike
    · exact .refl _
  · exact limits

theorem State.setChangeLimits_lawful (s : State) (margin step maximum crawl : Nat) : s.Lawful (s.setChangeLimits margin step maximum crawl).1 := by
  unfold State.setChangeLimits
  split
  · exact .refl s
  · split
    · exact .refl s
    · exact s.takeLimits_lawful ..

/-! ### Splicers (R63 to R77) -/

theorem State.setStation_steady (s : State) (a : StationArgs) : s.Steady (s.setStation a).1 := by
  unfold State.setStation
  split
  · exact .refl s
  · split
    · exact .refl s
    · split
      · exact .refl s
      · split
        · exact .refl s
        · exact (s.onSplice_steady _ _).quiet (State.spc_within _ _)

theorem State.loadByRole_steady (s : State) (i : SpliceId) (arm : Arm) (r : Reel) : s.Steady (s.loadByRole i arm r).1 := by
  have running : s.Steady (s.loadRunning i arm r) := (s.loadRunning_within ..).steady
  unfold State.loadByRole
  dsimp only
  split
  · split
    · exact running
    · exact .refl s
  · split
    · exact .refl s
    · exact .ite (fun _ => running) fun _ => s.loadStandby_steady i r

theorem State.loadReel_steady (s : State) (station arm reel paper length : Nat) : s.Steady (s.loadReel station arm reel paper length).1 := by
  unfold State.loadReel
  split
  · exact .refl s
  · split
    · exact .refl s
    · split
      · exact .refl s
      · split
        · exact .refl s
        · split
          · exact .refl s
          · exact s.loadByRole_steady ..

theorem State.unloadReel_steady (s : State) (station : Nat) : s.Steady (s.unloadReel station).1 := by
  unfold State.unloadReel
  split
  · exact .refl s
  · dsimp only
    split
    · exact ((s.onSplice_steady _ _).trans (State.enterSplice_steady ..)).trans (State.entryTests_steady ..)
    · exact .refl s

theorem State.forceSplice_steady (s : State) (station : Nat) : s.Steady (s.forceSplice station).1 := by
  unfold State.forceSplice
  split
  · exact .refl s
  · split
    · exact .refl s
    · split
      · exact (s.force_steady _).trans (State.entryTests_steady ..)
      · exact .refl s

theorem State.spliceVerdict_steady (s : State) (station verdict : Nat) : s.Steady (s.spliceVerdict station verdict).1 := by
  unfold State.spliceVerdict
  split
  · exact .refl s
  · split
    · exact .refl s
    · split
      · exact .refl s
      · exact .ite (fun _ => s.verdictFailed_steady _) fun _ => s.verdictTook_steady _

/-! ### Bond controller (R80 to R101) -/

theorem State.putGrade_steady (s : State) (i : Fin 32) (g : Option Grade) : s.Steady (s.putGrade i g).1 := s.bnd_steady _

theorem State.setGrade_steady (s : State) (a : GradeArgs) : s.Steady (s.setGrade a).1 := by
  unfold State.setGrade
  split
  · exact .refl s
  · split
    · exact .refl s
    · split
      · exact .refl s
      · exact s.putGrade_steady _ none
      · split
        · exact .refl s
        · exact s.putGrade_steady ..

/-- A zone set anew: the reports of the change open spans without an end, so the law of R26 needs no zone length. -/
theorem State.zoneSet_lawful (s : State) (n : ZoneId) (f : Zone → Zone) : s.Lawful ((s.onZone n f).sendReports s) := by
  have reports := (s.onZone n f).sendReports_steady s
  exact
    { map := fun i => reports.map (i.congr rfl fun _ => rfl)
      entries := fun _ i => reports.entries i
      book := fun i => reports.book (i.congr rfl rfl le_rfl)
      marks := fun _ _ i => i.congr reports.linePos reports.dLast fun m mem => by
        rcases (ownersTold s (s.onZone n f)).marks m mem with there | ⟨x, _, rfl⟩
        · exact .inr ⟨m, there, rfl⟩
        · exact .inl rfl }

theorem State.setZone_lawful (s : State) (a : ZoneArgs) : s.Lawful (s.setZone a).1 := by
  unfold State.setZone
  split
  · exact .refl s
  · split
    · exact .refl s
    · split
      · exact .refl s
      · split
        · exact .refl s
        · exact .refl s
        · exact s.zoneSet_lawful ..

theorem State.setZoneEnable_steady (s : State) (zone enable : Nat) : s.Steady (s.setZoneEnable zone enable).1 := by
  unfold State.setZoneEnable
  split
  · exact .refl s
  · split
    · exact .refl s
    · split
      · exact .refl s
      · split
        · exact .refl s
        · exact s.putEnable_steady ..

theorem State.setBondCommon_steady (s : State) (heatLead glueLead standby : Nat) : s.Steady (s.setBondCommon heatLead glueLead standby).1 := by
  unfold State.setBondCommon
  split
  · exact .refl s
  · split
    · exact .refl s
    · exact s.bnd_steady _

theorem State.setGlue_steady (s : State) (a : GlueArgs) : s.Steady (s.setGlue a).1 := by
  unfold State.setGlue
  split
  · exact .refl s
  · split
    · exact .refl s
    · split
      · exact .refl s
      · split
        · exact .refl s
        · exact s.takeGlue_steady ..
        · exact .refl s

/-! ### Drive stage (R102 to R117) -/

theorem State.takeOutput_steady (s : State) (o : OutputId) (m : OutputMode) (g : Option GenId) (passive : Bool) :
    s.Steady (s.takeOutput o m g passive).1 := by
  have set := (s.onOutput_within o fun x => { x with mode := m, generator := g, passive := passive }).steady
  unfold State.takeOutput
  exact set.trans (State.sendReports_steady ..)

theorem State.setOutput_steady (s : State) (output mode generator passive : Nat) : s.Steady (s.setOutput output mode generator passive).1 := by
  unfold State.setOutput
  split
  · exact .refl s
  · split
    · exact .refl s
    · exact .refl s
    · exact .refl s
    · split
      · exact .refl s
      · exact s.takeOutput_steady ..

theorem State.setGenerator_steady (s : State) (generator frequency : Nat) : s.Steady (s.setGenerator generator frequency).1 := by
  unfold State.setGenerator
  split
  · exact .refl s
  · split
    · exact .refl s
    · split
      · exact .refl s
      · exact (s.dst_within _).steady

theorem State.setFaultInput_steady (s : State) (input level mask action : Nat) : s.Steady (s.setFaultInput input level mask action).1 := by
  unfold State.setFaultInput
  split
  · exact .refl s
  · split
    · exact .refl s
    · split
      · exact .refl s
      · split
        · exact .refl s
        · split <;> exact .refl s
        · split
          · exact (s.onInput_within _ _).steady.trans (State.judgeInput_steady ..)
          · exact .refl s

/-! ### Dry end and stackers (R118 to R147) -/

theorem State.setCutoff_alike (s : State) (a : CutoffArgs) : s.Alike (s.setCutoff a).1 := by
  unfold State.setCutoff
  split
  · exact .refl s
  · split
    · exact .refl s
    · exact .of_parts rfl rfl rfl rfl rfl

theorem State.retrySetup_steady (s : State) (station : Nat) : s.Steady (s.retrySetup station).1 := by
  unfold State.retrySetup
  split
  · exact .refl s
  · split
    · exact s.startPositioning_steady ..
    · exact .refl s

theorem State.setStacker_steady (s : State) (stacker warn crawl limit tolerance : Nat) :
    s.Steady (s.setStacker stacker warn crawl limit tolerance).1 := by
  unfold State.setStacker
  split
  · exact .refl s
  · split
    · exact .refl s
    · split
      · exact .refl s
      · exact (s.onStacker_steady _ _).trans (State.evalStacker_steady _)

theorem State.forceEject_steady (s : State) (stacker : Nat) : s.Steady (s.forceEject stacker).1 := by
  unfold State.forceEject
  split
  · exact .refl s
  · dsimp only
    split
    · exact s.offerStep_steady ..
    · split
      · exact (s.enterOffered_within _).steady
      · exact .refl s

theorem State.collectStacks_steady (s : State) (stacker count : Nat) : s.Steady (s.collectStacks stacker count).1 := by
  unfold State.collectStacks
  split
  · exact .refl s
  · split
    · exact .refl s
    · exact (s.takeRecords_within ..).steady

/-! ### Answers and the link -/

theorem State.takeFresh_alike (s : State) : s.Alike s.takeFresh := .of_parts rfl rfl rfl rfl rfl

theorem State.Alike.ite {c : Prop} [Decidable c] {s t u : State} (h : s.Alike t) (h' : s.Alike u) : s.Alike (if c then t else u) := by
  split <;> assumption

theorem State.readStation_alike (s : State) (station : Nat) : s.Alike (s.readStation station).1 := by
  unfold State.readStation
  split
  · exact .refl s
  · split
    · exact .refl s
    · exact .ite s.takeFresh_alike (.refl s)

theorem State.readGlue_alike (s : State) (station : Nat) : s.Alike (s.readGlue station).1 := by
  unfold State.readGlue
  split
  · exact .refl s
  · split
    · exact .refl s
    · exact .ite (s.takeFresh_alike.trans (State.takeFresh_alike _)) (.refl s)

theorem State.readSlitter_alike (s : State) : s.Alike s.readSlitter.1 :=
  .ite (s.takeFresh_alike.trans (State.takeFresh_alike _)) (.refl s)

theorem State.readStackers_alike (s : State) : s.Alike s.readStackers.1 :=
  .ite (s.takeFresh_alike.trans (State.takeFresh_alike _)) (.refl s)

theorem State.readLink_alike (s : State) : s.Alike s.readLink.1 := .ite s.takeFresh_alike (.refl s)

theorem State.lnk_alike (s : State) (x : Lnk) : s.Alike { s with lnk := x } := .of_parts rfl rfl rfl rfl rfl

theorem State.setLinkTimeout_alike (s : State) (tenths : Nat) : s.Alike (s.setLinkTimeout tenths).1 := by
  unfold State.setLinkTimeout
  split
  · exact s.lnk_alike _
  · exact .refl s

/-! ### Every command -/

/-- What every host command's body keeps. -/
theorem commandBody_obeys (i : Instr) (s : State) : s.Obeys (commandBody i s).1 := by
  cases i
  case commit => exact s.commit_steady.obeys
  case startLine _ speed => exact (s.startLine_steady speed).obeys
  case stopLine => exact s.stopLine_steady.obeys
  case setSpeed _ speed => exact (s.setSpeed_steady speed).obeys
  case setRamp _ accel decel thread => exact (s.setRamp_alike accel decel thread).obeys
  case ackHalt => exact s.ackHalt_steady.obeys
  case park => exact s.park_steady.obeys
  case unpark => exact s.unpark_steady.obeys
  case ackStart => exact s.ackStart_alike.obeys
  case restart => exact s.restart_faithful.obeys
  case setScale _ counter scale => exact (s.setScale_alike counter scale).obeys
  case setGeometry => exact s.setGeometry_obeys _
  case setLineBuild _ walls width => exact (s.setLineBuild_faithful walls width).obeys
  case setSheetEyes _ edge1 edge2 => exact (s.setSheetEyes_steady edge1 edge2).obeys
  case setBridge _ web slow high crawl => exact (s.setBridge_alike web slow high crawl).obeys
  case threadBridge _ web content => exact (s.threadBridge_lawful web content).obeys
  case addHostMark _ start finish reason => exact (s.addHostMark_steady start finish reason).obeys
  case resumeSorting => exact s.resumeSorting_alike.obeys
  case setChangeLimits _ margin step maximum crawl => exact (s.setChangeLimits_lawful margin step maximum crawl).obeys
  case addOrder _ order => exact (s.addOrder_steady order).obeys
  case amendTarget _ order lane target => exact (s.amendTarget_steady order lane target).obeys
  case cancelOrder _ order => exact (s.cancelOrder_steady order).obeys
  case collectOrder _ order => exact (s.collectOrder_steady order).obeys
  case setStation _ args => exact (s.setStation_steady args).obeys
  case loadReel _ station arm reel paper length => exact (s.loadReel_steady station arm reel paper length).obeys
  case unloadReel _ station => exact (s.unloadReel_steady station).obeys
  case forceSplice _ station => exact (s.forceSplice_steady station).obeys
  case spliceVerdict _ station verdict => exact (s.spliceVerdict_steady station verdict).obeys
  case readStation _ station => exact (s.readStation_alike station).obeys
  case setGrade _ args => exact (s.setGrade_steady args).obeys
  case setZone _ args => exact (s.setZone_lawful args).obeys
  case setZoneEnable _ zone enable => exact (s.setZoneEnable_steady zone enable).obeys
  case setBondCommon _ heatLead glueLead standby => exact (s.setBondCommon_steady heatLead glueLead standby).obeys
  case setGlue _ args => exact (s.setGlue_steady args).obeys
  case readGlue _ station => exact (s.readGlue_alike station).obeys
  case setOutput _ output mode generator passive => exact (s.setOutput_steady output mode generator passive).obeys
  case setGenerator _ generator frequency => exact (s.setGenerator_steady generator frequency).obeys
  case setFaultInput _ input level mask action => exact (s.setFaultInput_steady input level mask action).obeys
  case clearDriveFaults => exact s.clearDriveFaults_steady.obeys
  case setCutoff _ args => exact (s.setCutoff_alike args).obeys
  case retrySetup _ station => exact (s.retrySetup_steady station).obeys
  case readSlitter => exact s.readSlitter_alike.obeys
  case setStacker _ stacker warn crawl limit tolerance => exact (s.setStacker_steady stacker warn crawl limit tolerance).obeys
  case forceEject _ stacker => exact (s.forceEject_steady stacker).obeys
  case collectStacks _ stacker count => exact (s.collectStacks_steady stacker count).obeys
  case readStackers => exact s.readStackers_alike.obeys
  case setLinkTimeout _ tenths => exact (s.setLinkTimeout_alike tenths).obeys
  case readLink => exact s.readLink_alike.obeys
  all_goals exact .refl s

theorem frameCommand_obeys (f : Frame) (s : State) : s.Obeys (frameCommand f s).1 := by
  unfold frameCommand
  rcases decodeCommand f.tag f.code f.payload with (_ | _) | i
  · exact .refl s
  · exact .refl s
  · exact commandBody_obeys i s

end Sys2Proof.Machine
end

section
/-! PROOF. What every event keeps of the laws of the map and the book, and so every step (O48, O59). -/

namespace Sys2Proof.Machine

/- One theorem at a time: with a thread for each, the stacks of the threads that wait would take the memory. -/
set_option Elab.async false

section

variable {s t : State}

/-- An event whose terminals leave what the laws read and whose act obeys them. -/
theorem event_obeys {terminals act : State → State} (h : event terminals act s = .next t) (acts : (terminals s).Obeys (act (terminals s)))
    (before : s.Alike (terminals s) := by exact .refl _) (line : (terminals s).lsv.line = s.lsv.line := by rfl) : s.Obeys t := by
  rw [event_eq] at h
  cases h
  split
  · exact before.obeys
  · exact acts.between before line (State.beginFrame_alike _)

/-- A command carried to its block and its reply queued. -/
theorem State.serve_obeys {cmd : State → State × List Byte} (obeys : s.Obeys (cmd s).1) (tag code : Nat) : s.Obeys (s.serve tag code cmd) :=
  obeys.between (.refl s) rfl (State.lnk_alike _ _)

theorem hostCommand_obeys {tag code : Nat} {cmd : State → State × List Byte} (h : hostCommand tag code cmd s = .next t)
    (obeys : s.Obeys (cmd s).1) : s.Obeys t := by
  by_cases serves : s.serves
  · rw [hostCommand_serves tag code cmd serves] at h
    cases h
    exact (State.serve_obeys obeys tag code).between (.refl s) rfl (State.beginFrame_alike _)
  · rw [hostCommand_waits tag code cmd serves] at h
    cases h
    exact .refl s

end

/-! ### The link port (R163 to R170) -/

theorem State.takeCommand_obeys (s : State) : s.Obeys s.takeCommand := by
  unfold State.takeCommand
  split
  · exact .refl s
  · next f rest _ =>
    refine .ite ?_ (.refl s)
    exact (State.serve_obeys (frameCommand_obeys f { s with lnk := { s.lnk with cmdQueue := rest } }) f.tag f.code).between (s.lnk_alike _) rfl
      (.refl _)

theorem State.linkError_alike (s : State) (r : LinkError) : s.Alike (s.linkError r) :=
  ((s.lnk_alike _).trans (State.raise_within ..).alike).trans (State.lnk_alike _ _)

theorem State.queueFrame_alike (s : State) (f : Frame) : s.Alike (s.queueFrame f) :=
  .ite (s.lnk_alike _) ((s.lnk_alike _).trans (State.raise_within ..).alike)

theorem State.hearHost_alike (s : State) : s.Alike s.hearHost := (s.lnk_alike _).trans (State.removeHold_touches ..).alike

theorem State.judgeFrame_alike (s : State) (got : List Byte) (n : Nat) : s.Alike (s.judgeFrame got n) := by
  unfold State.judgeFrame
  dsimp only
  split
  · exact ((s.lnk_alike _).trans (State.queueFrame_alike ..)).trans (State.hearHost_alike _)
  · exact s.linkError_alike _

theorem State.collect_alike (s : State) (got : List Byte) : s.Alike (s.collect got) := by
  unfold State.collect
  dsimp only
  split
  · exact s.lnk_alike _
  · split
    · exact s.linkError_alike _
    · split
      · exact s.lnk_alike _
      · exact s.judgeFrame_alike got _

theorem State.takeCharacter_alike (s : State) (mark : Bool) (b : Byte) (stop : Bool) : s.Alike (s.takeCharacter mark b stop) := by
  unfold State.takeCharacter
  split
  · exact .ite (s.lnk_alike _) (.ite (.refl s) (.ite (s.lnk_alike _) (s.linkError_alike _)))
  · exact .ite (s.linkError_alike _) (.ite (s.collect_alike _) (.ite ((s.linkError_alike _).trans (State.lnk_alike _ _)) (s.linkError_alike _)))

theorem State.frameSent_alike (s : State) : s.Alike s.frameSent := by
  unfold State.frameSent
  split
  · exact .refl s
  · exact s.lnk_alike _
  · exact s.lnk_alike _

theorem State.hostSilent_faithful (s : State) : s.Faithful s.hostSilent := by
  unfold State.hostSilent
  split
  · exact (s.lnk_alike _).faithful.trans ((State.addHold_steady ..).quiet (State.raise_within ..)).faithful
  · exact (s.lnk_alike _).faithful.trans (State.stopCause_steady ..).faithful

/-! ### Speed samples (R9, R69, R97, R154, R158) -/

theorem State.countStopped_faithful (s : State) : s.Faithful s.countStopped := by
  have counted (n : Nat) : s.Alike { s with lsv := { s.lsv with stopped := n } } := .of_parts rfl rfl rfl rfl rfl
  unfold State.countStopped
  split
  · dsimp only
    generalize (if s.lcu.measured = 0 then countUp Config.stoppedSamples s.lsv.stopped else 0) = n
    split
    · exact (counted n).faithful.trans (State.changeLine_steady ..).faithful
    · exact (counted n).faithful
  · exact .refl s

theorem State.sampled_faithful (s : State) : s.Faithful (((s.measure.ramp).countStopped).forAll 7 State.armTest).countZeroSpeed := by
  have measured : s.Alike s.measure.ramp := .of_parts rfl rfl rfl rfl rfl
  have armed (t : State) : t.Steady (t.forAll 7 State.armTest) := (State.forAll_within State.armTest_within).steady
  exact (measured.faithful.trans (State.countStopped_faithful _)).trans ((armed _).trans (State.countZeroSpeed_steady _)).faithful

/-! ### Drive stage (R105 to R111) -/

theorem State.raiseSupply_steady (s : State) : s.Steady s.raiseSupply := by
  unfold State.raiseSupply
  split
  · exact .refl s
  · exact (s.raiseStage_within _).steady
  · exact (s.raiseStage_within _).steady

theorem State.sensed_within (s : State) (opens : BitVec 16) :
    s.Within [.dst] (s.forAll 16 fun x o => x.onOutput o fun y => { y with openSense := opens.getLsbD o.val }) :=
  State.forAll_within fun t o => t.onOutput_within o _

/-! ### Power-on and reset (R160) -/

theorem State.resetPart_blank (s : State) (c : ResetCause) : (s.resetPart c).Blank where
  marks := rfl
  entries k := by simp [State.bridge, State.resetPart, WebMap.initial, Bridge.initial]
  orders := rfl

theorem State.Blank.congr {s t : State} (h : s.Blank) (map : t.map = s.map) (obk : t.obk = s.obk) : t.Blank where
  marks := by rw [map, h.marks]
  entries k := by
    unfold State.bridge
    rw [map]
    exact h.entries k
  orders := by rw [obk, h.orders]

theorem State.startPart_blank (s : State) (c : ResetCause) : (s.startPart c).Blank := by
  have judged := (State.judgeAll_of_starting (s.resetPart_starting c)).1
  refine (s.resetPart_blank c).congr ?_ ?_
  · exact (State.beginFrame_map _).trans (judged.same .map (by simp))
  · exact (State.beginFrame_obk _).trans (judged.same .obk (by simp))

/-! ### Every step -/

/-- The instructions that are host commands run their body under the rule of the reply queue (R167). -/
theorem exec_hostCommand {i : Instr} (command : i.layout.isSome = true) (s : State) :
    ∃ tag code, exec i s = hostCommand tag code (commandBody i) s := by
  cases i
  case powerOn | resetLineAssert | resetLine | encoderTransition | webPresentChange | speedSample | temperatureReading | gapReading |
    moveTimerExpiry | keepWetSecond | turnTimerExpiry | passiveTestSecond | overcurrentEvent | openLoadEvent | supplyChange |
    thermalWarningChange | thermalShutdown | faultInputChange | jointEdge | sheetEyeEdge | knifeIndex | knifeFirePulseEnd | speedMatch |
    matchTimerExpiry | pasteKnifePulseEnd | inPositionActive | inPositionInactive | positioningTimerExpiry | conveyorReady | ejectPulseEnd |
    ejectTimerExpiry | ejectDone | receiveCharacter | breakStart | shortBreakEnd | linkReset | commandTake | unknownCommand |
    clearToSendChange | frameSendComplete | linkTimeoutExpiry | longBreakEnd => nomatch command
  all_goals exact ⟨_, _, rfl⟩

section

variable {s t : State}

/-- What every event keeps. -/
theorem exec_event_obeys {i : Instr} (noCommand : i.layout.isSome = false) (h : exec i s = .next t) : s.Obeys t := by
  cases i
  case powerOn =>
    cases h
    exact .ite (s.resetPart_blank _).lawful.obeys (s.startPart_blank _).lawful.obeys
  case resetLineAssert =>
    cases h
    have blank : State.Blank { s.resetPart .resetLine with held := true } := (s.resetPart_blank .resetLine).congr rfl rfl
    exact blank.lawful.obeys
  case resetLine =>
    cases h
    exact (State.startPart_blank _ _).lawful.obeys
  case encoderTransition i ph =>
    change execEncoderTransition _ _ s = _ at h
    refine event_obeys h ?_ (.of_parts rfl rfl rfl rfl rfl)
    exact ((State.onCounter_alike _ i _ (Counter.pos_of rfl rfl)).faithful.then_lawful (State.takeTransition_lawful ..)).obeys
  case webPresentChange =>
    change execWebPresentChange _ _ s = _ at h
    exact event_obeys h (.refl _) (.of_parts rfl rfl rfl rfl rfl)
  case speedSample =>
    change execSpeedSample s = _ at h
    exact event_obeys h s.sampled_faithful.obeys
  case temperatureReading =>
    change execTemperatureReading _ _ s = _ at h
    exact event_obeys h (s.takeTemperature_steady ..).obeys
  case gapReading =>
    change execGapReading _ _ s = _ at h
    exact event_obeys h (s.takeGap_steady ..).obeys
  case moveTimerExpiry =>
    change execMoveTimerExpiry _ s = _ at h
    exact event_obeys h (.ite (s.glueFault_steady ..).obeys (.refl s))
  case keepWetSecond =>
    change execKeepWetSecond s = _ at h
    exact event_obeys h (s.bnd_steady _).obeys
  case turnTimerExpiry k =>
    change execTurnTimerExpiry _ s = _ at h
    exact event_obeys h (s.onGlue_steady k _).obeys
  case passiveTestSecond opens =>
    change execPassiveTestSecond _ s = _ at h
    exact event_obeys h (State.Steady.foldl (fun t o => t.flagOpen_steady o _) _ _).obeys (s.sensed_within opens).alike
      (by rw [(s.sensed_within opens).same .lsv (by simp)])
  case overcurrentEvent o _ =>
    change execOvercurrentEvent _ _ s = _ at h
    exact event_obeys h (.ite (State.tripOutput_steady ..).obeys (.refl _)) (s.onOutput_within o _).alike
  case openLoadEvent o _ =>
    change execOpenLoadEvent _ _ s = _ at h
    exact event_obeys h (.ite (State.flagOpen_steady ..).obeys (.refl _)) (s.onOutput_within o _).alike
  case supplyChange =>
    change execSupplyChange _ s = _ at h
    exact event_obeys h (.ite (.refl _) ((State.sendReports_steady ..).trans (State.raiseSupply_steady _)).obeys) (.of_parts rfl rfl rfl rfl rfl)
  case thermalWarningChange =>
    change execThermalWarningChange _ s = _ at h
    exact event_obeys h (.ite (State.raiseStage_within ..).steady.obeys (.refl _)) (.of_parts rfl rfl rfl rfl rfl)
  case thermalShutdown =>
    change execThermalShutdown s = _ at h
    exact event_obeys h (.ite (.refl _)
      (((s.dst_within _).steady.trans (State.sendReports_steady ..)).quiet (State.raiseStage_within ..)).obeys)
  case faultInputChange i _ =>
    change execFaultInputChange _ _ s = _ at h
    exact event_obeys h (.ite (.refl _) (State.inputChanged_steady ..).obeys) (s.onInput_within i _).alike
  case jointEdge =>
    change execJointEdge _ _ s = _ at h
    exact event_obeys h (.ite (s.jointEdge_steady _).obeys (.refl s))
  case sheetEyeEdge j _ =>
    change execSheetEyeEdge _ _ s = _ at h
    exact event_obeys h (.ite (s.onEye_within j _).steady.obeys (.refl s))
  case knifeIndex =>
    change execKnifeIndex _ _ s = _ at h
    exact event_obeys h (.ite (State.onLane_steady ..).obeys (.refl _)) (.of_parts rfl rfl rfl rfl rfl)
  case knifeFirePulseEnd j =>
    change execKnifeFirePulseEnd _ s = _ at h
    exact event_obeys h (s.onLane_steady j _).obeys
  case speedMatch i _ =>
    change execSpeedMatch _ _ s = _ at h
    exact event_obeys h (.ite (State.takeMatch_steady ..).obeys (.refl _)) (s.onSplice_within i _).alike
  case matchTimerExpiry =>
    change execMatchTimerExpiry _ s = _ at h
    exact event_obeys h (.ite (s.matchLimit_steady _).obeys (.refl s))
  case pasteKnifePulseEnd i =>
    change execPasteKnifePulseEnd _ s = _ at h
    exact event_obeys h (s.onSplice_steady i _).obeys
  case inPositionActive i =>
    change execInPositionActive _ s = _ at h
    exact event_obeys h (.ite (.refl _) (State.reachPosition_steady ..).obeys) (s.onSlit_within i _).alike
  case inPositionInactive i =>
    change execInPositionInactive _ s = _ at h
    exact event_obeys h (.ite (State.losePosition_within ..).steady.obeys (.refl _)) (s.onSlit_within i _).alike
  case positioningTimerExpiry =>
    change execPositioningTimerExpiry _ s = _ at h
    exact event_obeys h (.ite (s.positioningLimit_steady _).obeys (.refl s))
  case conveyorReady j _ =>
    change execConveyorReady _ _ s = _ at h
    exact event_obeys h (.ite (State.enterEjecting_within ..).steady.obeys (.refl _)) (s.onStacker_within j _).alike
  case ejectPulseEnd j =>
    change execEjectPulseEnd _ s = _ at h
    exact event_obeys h (s.onStacker_steady j _).obeys
  case ejectTimerExpiry =>
    change execEjectTimerExpiry _ s = _ at h
    exact event_obeys h (.ite (s.ejectLimit_steady _).obeys (.refl s))
  case ejectDone j _ =>
    change execEjectDone _ _ s = _ at h
    exact event_obeys h (.ite (State.completeEject_steady ..).obeys (.refl _)) (s.onStacker_within j _).alike
  case receiveCharacter =>
    change execReceiveCharacter _ _ _ s = _ at h
    exact event_obeys h (.ite (s.takeCharacter_alike ..).obeys (.refl s))
  case breakStart =>
    change execBreakStart s = _ at h
    refine event_obeys h ?_ (.ite (s.lnk_alike _) (.refl s)) (by split <;> rfl)
    split
    · split
      · exact (State.linkError_alike ..).obeys
      · exact .refl _
    · split
      · exact (State.linkError_alike ..).obeys
      · exact .refl _
  case shortBreakEnd =>
    change execShortBreakEnd s = _ at h
    exact event_obeys h (.refl _) (.ite (s.lnk_alike _) (.refl s)) (by split <;> rfl)
  case linkReset =>
    change execLinkReset s = _ at h
    exact event_obeys h (State.lnk_alike _ _).obeys (s.lnk_alike _)
  case commandTake =>
    change execCommandTake s = _ at h
    exact event_obeys h s.takeCommand_obeys
  case unknownCommand tag code =>
    change execUnknownCommand _ _ s = _ at h
    unfold execUnknownCommand at h
    split at h
    · cases h
      exact .refl s
    · exact hostCommand_obeys h (.refl s)
  case clearToSendChange =>
    change execClearToSendChange _ s = _ at h
    exact event_obeys h (.refl _) (s.lnk_alike _)
  case frameSendComplete =>
    change execFrameSendComplete s = _ at h
    exact event_obeys h s.frameSent_alike.obeys
  case linkTimeoutExpiry =>
    change execLinkTimeoutExpiry s = _ at h
    exact event_obeys h (.ite s.hostSilent_faithful.obeys (.refl s))
  case longBreakEnd =>
    change execLongBreakEnd s = _ at h
    exact event_obeys h (.refl _) (.ite (s.lnk_alike _) (.refl s)) (by split <;> rfl)
  all_goals nomatch noCommand

/-- What every instruction keeps. -/
theorem exec_obeys {i : Instr} (h : exec i s = .next t) : s.Obeys t := by
  cases command : i.layout.isSome
  · exact exec_event_obeys command h
  · obtain ⟨tag, code, runs⟩ := exec_hostCommand command s
    exact hostCommand_obeys (runs ▸ h) (commandBody_obeys i s)

/-- What every step keeps: the command taken leaves the queue alone. -/
theorem step_obeys (h : step s = .next t) : s.Obeys t := by
  rcases pending : s.pending with _ | ⟨c, rest⟩
  · rw [step_nil pending] at h
    cases h
    exact .refl s
  · rw [step_cons pending] at h
    have popped : s.Alike { s with pending := rest } := .of_parts rfl rfl rfl rfl rfl
    exact (exec_obeys h).between popped rfl (.refl t)

end

/-- Settles O59, by `step_obeys`: each command and each event keeps the laws of the map, of the book and of the entries on the bridges. -/
theorem stepKeepsMap : Obligations.StepKeepsMap := by
  unfold Obligations.StepKeepsMap
  exact ⟨fun _ _ ok h => (step_obeys h).map ok, fun _ _ ok h => (step_obeys h).book ok, fun _ _ ok ahead h => (step_obeys h).entries ok ahead⟩

/-- Settles O48: an advance trims what has gone by, and by `step_obeys` each step lets no mark fall behind the line of R26. -/
theorem stepKeepsMarksAhead : Obligations.StepKeepsMarksAhead := by
  unfold Obligations.StepKeepsMarksAhead
  exact ⟨fun s d => s.mapAdvance_marksAhead d, fun _ _ book deferStep slit zones ahead h geometry =>
    (step_obeys h).marks book ⟨deferStep, slit, zones⟩ ahead geometry⟩

end Sys2Proof.Machine
end
